-- ==== Sys2Proof/Word.lean ====
section
/-! DEFINITION. The word types of the device and the type of its sparse tables (00 R3-R6, R13). -/
namespace Sys2Proof

/-- An 8-bit byte. -/
abbrev Byte := BitVec 8
/-- A 16-bit register value. -/
abbrev U16 := BitVec 16
/-- A 32-bit register value. -/
abbrev U32 := BitVec 32
/-- A 64-bit register value. -/
abbrev U64 := BitVec 64

/-- A sparse table: numbered entries in rising order, an unlisted number holding the type's default. Memory is the
table of bytes. -/
abbrev Tab (α : Type) := List (Nat × α)

end Sys2Proof
end

