-- ==== Sys2Proof/Machine/Types.lean ====
section
/-! DEFINITION. The enumerations and small records that commands and state share, as the spec's tables name them. -/
namespace Sys2Proof

/-- The principals of the object dictionary (21 Table 21.2), PARCEL with its slot, and an arrival on VC0 that holds
no principal (15 R563). -/
inductive Principal where
  | rtp | hostk | parcel (p : Nat) | surv | board | none
deriving DecidableEq, Repr, Inhabited

/-- The status codes of Table 0.8 (00 R18, R19). -/
inductive Status where
  | ok | busy | notReady | denied | faulted | abandoned | truncated | quarantined | unleveled | corrupt
  | withdrawn | retired | replay | unsupported
deriving DecidableEq, Repr, Inhabited

/-- The translation causes of Table 8.5 and the completion causes of Table 10.9. -/
inductive Cause where
  | none | notMapped | permission | noncanonical | misaligned | kindDenied | tableError | shotDown | extentLimit
  | tableChanged | watchdog | decode | exec | uncorr | flushed
deriving DecidableEq, Repr, Inhabited

/-- The engine forms of Table 3.2. -/
inductive Form where
  | square | twoWay | fourWay | wideShallow
deriving DecidableEq, Repr, Inhabited

/-- The element types of Table 4.2. -/
inductive ElemType where
  | int8 | int4 | e4m3 | e5m2 | bf16 | f16 | int32 | fp32
deriving DecidableEq, Repr, Inhabited

/-- The engine states of Table 3.6. -/
inductive EngineState where
  | off | idle | simmer | gated | running | stopped | withdrawn | retired
deriving DecidableEq, Repr, Inhabited

/-- The presence states of Table 3.4. -/
inductive Presence where
  | empty | filling | present
deriving DecidableEq, Repr, Inhabited

/-- A scratch operand field (04 R116): a parcel-relative slice index and a byte offset in units of 64 bytes. -/
structure Operand where
  slice : Nat := 0
  off64 : Nat := 0
deriving DecidableEq, Repr, Inhabited

/-- The fields of MM and MMA (04 Table 4.3), counts already increased to what they mean. -/
structure MatFields where
  form  : Form := .square
  dtype : ElemType := .int8
  reuse : Bool := false
  half  : Bool := false
  sacc  : Bool := false
  tra   : Bool := false
  trb   : Bool := false
  rela  : Bool := false
  relb  : Bool := false
  exact : Bool := false
  a     : Operand := {}
  b     : Operand := {}
  c     : Operand := {}
  m     : Nat := 1
  k     : Nat := 4
  w     : Nat := 1
deriving DecidableEq, Repr, Inhabited

/-- The vector functions of Table 4.5. -/
inductive VecFunc where
  | add | mul | max | min | scale | bias | axpy | relu | exp2 | rsqrt | recip | rsum | rmax | cvt | lut
deriving DecidableEq, Repr, Inhabited

/-- The fields of VEC (04 Table 4.4). -/
structure VecFields where
  func  : VecFunc := .add
  ity   : ElemType := .int8
  oty   : ElemType := .int8
  bty   : ElemType := .int8
  rela  : Bool := false
  relb  : Bool := false
  sat   : Bool := false
  a     : Operand := {}
  b     : Operand := {}
  d     : Operand := {}
  rows  : Nat := 1
  len   : Nat := 16
  imm   : U16 := 0
deriving DecidableEq, Repr, Inhabited

/-- The fields of LOOP (04 Table 4.6). -/
structure LoopFields where
  firstInit : Bool := false
  body : Nat := 1
  cnt  : Nat := 1
  stra : Int := 0
  strb : Int := 0
  strc : Int := 0
deriving DecidableEq, Repr, Inhabited

/-- The kinds of FENCE (04 Table 4.7). -/
inductive FenceKind where
  | acquire | release | sc
deriving DecidableEq, Repr, Inhabited

/-- A decoded engine instruction (04 Table 4.1), or one that fails its first decode checks (04 R113, group 1). -/
inductive EInstr where
  | fin | nop
  | loop (f : LoopFields)
  | mat (acc : Bool) (f : MatFields)
  | vec (f : VecFields)
  | fsig (flag value : Nat) | fwait (flag value : Nat)
  | semacq (sem : Nat) (abnOk : Bool) | semrel (sem : Nat)
  | fence (k : FenceKind)
  | bad
deriving DecidableEq, Repr, Inhabited

/-- A Statislink message (14 Table 14.6): TAG as it stands (the tag and TEPOCH, or the BSEQ of a broadcast), bytes 10-15
as one number, the payload, and how many of its bytes truly arrived where its link was lost (R545). -/
structure Msg where
  op : Nat := 0
  ctl : Nat := 0
  dest : Nat := 0
  src : Nat := 0
  tag : Nat := 0
  fabric : Nat := 0
  addr : Nat := 0
  payload : List Byte := []
  kept : Option Nat := none
deriving DecidableEq, Repr, Inhabited

/-- The arrival path of a dictionary frame (21 Table 21.2): a mailbox window, VC0 from a die with its RELAY bit, or the I3C
sideband. -/
inductive Path where
  | window (w : Nat) | vc0 (die : Nat) (relay : Bool) | i3c
deriving DecidableEq, Repr, Inhabited

/-- What the board, the host and the silicon bring to a start (18 Table 18.3, 23 R810): the straps (the Bylas package or the board
package, the live attach, the boot source, the PCIe width); whether the attach has a far end and a link; the GiB fitted on each
controller; `fails` as (step, unit, outcome 3 FAILED or 4 TIMEOUT), the unit being the engine, controller or island, for ST28 the slice
0-15, the Device Cache way + 16, the engine of a descriptor cache + 32, 48 the node cache or associative memory, 49 the tags or
directory, once per rate that fails for ST21-ST24; the fuse words and soft-repair records that fail their check; whether the ledger
header and its entry area fail theirs, and ledger writes fail; the lanes and sub-arrays that ST32 and ST28 find failing; the step and
unit that hang; and the milliseconds each step takes. -/
structure StartEnv where
  packageP : Bool := false
  hostLink : Bool := false
  bootHost : Bool := false
  pcieX8 : Bool := false
  farEnd : Bool := true
  linkUp : Bool := true
  gib : List Nat := [0, 0, 0, 0]
  fails : List (Nat × Nat × Nat) := []
  badFuses : List Nat := []
  badSoft : List Nat := []
  ledgerBad : Bool := false
  entriesBad : Bool := false
  ledgerFail : Bool := false
  lanes : List (Nat × Nat) := []
  subs : List (Nat × Nat) := []
  hang : Option (Nat × Nat) := none
  ms : List (Nat × Nat) := []
deriving DecidableEq, Repr, Inhabited

end Sys2Proof
end

