-- ==== Sys2Proof/Syntax.lean ====
section
/-! DEFINITION. The commands of the block, one constructor per row of the table of operations and events. -/
namespace Sys2Proof


/-- The commands of the block: one constructor per row of the table of operations and events. -/
inductive Instr where
  /-- ISLAND_FREQ_TARGET_WRITE (R40): A write of an island's target frequency is clamped to the island's range and takes effect within 1 µs; for a disciplined island it is refused. -/
  | islandFreqTargetWrite (by' : Principal) (isl : Fin 80) (v : U16)
  /-- ISLAND_SAG_REPORT (R37): An island whose period stretch exceeds 15% reports a sag to the power manager. -/
  | islandSagReport (isl : Fin 80)
  /-- ISLAND_RESET (R48): An island is reset; handshakes already begun complete, and entries bound for it are discarded and counted. -/
  | islandReset (isl : Fin 80) (n : Nat)
  /-- TIMING_ERROR_REPLAY (R55): A detecting latch flags a late arrival; the micro-step's commit is suppressed and the micro-step is executed again. -/
  | timingErrorReplay (n : Fin 16)
  /-- REPLAY_WINDOW_END (R58): A 65,536-cycle replay window ends and is judged against REPLAY_LIMIT, which may raise or lower OFFSET or apply an AL_CEILING reduction. -/
  | replayWindowEnd (n : Fin 16)
  /-- TRIPLE_FLAG (R59): A micro-step flagged three times in a row lowers the island target by 25 MHz and requests an immediate step-up. -/
  | tripleFlag (n : Fin 16)
  /-- STEP_UP_COMPLETE (R59): A requested 12.5 mV step-up completes and the island returns to its previous frequency target. -/
  | stepUpComplete (n : Fin 16)
  /-- INSTRUCTION_ISSUE (R83): An instruction waiting at the issue gate finds all sources present and destinations claimable and takes its holds and claims in one engine cycle. -/
  | instructionIssue (n : Fin 16)
  /-- WRITER_CLAIM (R81): A waiting writer finds its granules claimable and claims them, setting them FILLING. -/
  | writerClaim (q : Fin 1024) (k : Fin 64)
  /-- ACCUMULATOR_DRAIN_DONE (R74): An accumulator half finishes draining into the paired slice, making the destination granules PRESENT and freeing the half. -/
  | accumulatorDrainDone (n : Fin 16) (h : Bool)
  /-- SIMMER_RAMP_DOWN (R94): From the 64th gap cycle, simmer density drops by one eighth every 8 engine cycles until the engine is clock-gated idle at the 128th. -/
  | simmerRampDown (n : Fin 16)
  /-- ENGINE_STOP (R91): An engine asked to stop halts at its next instruction boundary, keeping its stationary block and accumulators, after any drain completes. -/
  | engineStop (n : Fin 16)
  /-- TASK_START (R111): A dispatched task starts at its first instruction, clears its exception flags and latches its approximation profile. -/
  | taskStart (n : Fin 16)
  /-- END (R111): The END instruction ends the task, even inside a loop body. -/
  | endTask (n : Fin 16)
  /-- LOOP (R131): LOOP repeats its body CNT1+1 times, advancing the body's operand offsets by the strides. -/
  | loop (n : Fin 16)
  /-- NOP (R115): NOP takes one engine cycle and does nothing. -/
  | nop (n : Fin 16)
  /-- MM (R124): MM computes C ← A·B into the named accumulator half, or into scratch under SACC, initialising the half in its form. -/
  | mm (n : Fin 16)
  /-- MMA (R124): MMA accumulates C ← C + A·B into the named half or into scratch. -/
  | mma (n : Fin 16)
  /-- VEC (R125): VEC applies the vector function selected by FUNC over ROWS × LEN elements and writes the destination. -/
  | vec (n : Fin 16)
  /-- FSIG (R139): FSIG adds VALUE to its flag once every earlier destination of the engine is PRESENT. -/
  | fsig (n : Fin 16)
  /-- FWAIT (R140): FWAIT waits until its flag is at least VALUE, then subtracts VALUE. -/
  | fwait (n : Fin 16)
  /-- SEMACQ (R142): SEMACQ acquires a semaphore or joins its waiters, handling ACQUIRED_ABANDONED per ABNOK. -/
  | semacq (n : Fin 16)
  /-- SEMREL (R144): SEMREL releases a semaphore held by the task's owner, or faults the task if it is not held. -/
  | semrel (n : Fin 16)
  /-- FENCE (R145): FENCE holds back later instructions until the ordering of its KIND is established. -/
  | fence (n : Fin 16)
  /-- FENCE_COMPLETE (R339): A waiting fence completes within 2 engine cycles after its last condition is met. -/
  | fenceComplete (n : Fin 16)
  /-- AL_PROFILE_WRITE (R163): A write of an approximation profile is range-checked and applies to tasks that start after it completes. -/
  | alProfileWrite (by' : Principal) (level : Fin 8) (int8T : Byte) (int4T : Byte) (fpExp : Byte) (margin : Byte) (limit : U16) (reserved : U16)
  /-- PARCEL_AL_CAP_WRITE (R164): A write of a parcel's approximation cap applies to tasks that start afterwards. -/
  | parcelAlCapWrite (by' : Principal) (p : Fin 8) (v : Byte)
  /-- VOLTAGE_REACHED (R172): An engine island's voltage reaches V_target, releasing its first gated instruction or a pending frequency raise. -/
  | voltageReached (n : Fin 16)
  /-- TE_SEGMENTS_WRITE (R186): A write assigning associative-memory segments to a parcel is checked for overlap and bound images. -/
  | teSegmentsWrite (by' : Principal) (p : Fin 8) (v : U64)
  /-- TE_NODE_WAYS_WRITE (R186): A write assigning node-cache ways to a parcel is checked for overlap and bound images. -/
  | teNodeWaysWrite (by' : Principal) (p : Fin 8) (v : U16)
  /-- TREE_LOAD (R189): TREE_LOAD checks a forest image and binds it to the parcel's context, writing rule entries into its segments in rule mode. -/
  | treeLoad (q : Fin 1024)
  /-- TREE_RUN (R217): TREE_RUN checks its buffers and runs B samples through the bound forest, writing outputs and flag bytes. -/
  | treeRun (q : Fin 1024)
  /-- TE_SAMPLE_ADMIT (R220): The front stage admits a sample or batch from a ready context and codes its features. -/
  | teSampleAdmit (p : Fin 8) (bad : List (Fin 65536))
  /-- TE_NODE_RETURN (R211): A node read returns and the pipeline evaluates the test word, moving the sample to its next node or leaf. -/
  | teNodeReturn (p : Fin 8) (slot : Fin 256)
  /-- TE_BACKGROUND_CHECK (R226): The background pass checks associative-memory entries and rewrites failing ones within every 10 ms. -/
  | teBackgroundCheck (bad : List (Fin 65536))
  /-- RD_S (R253): A host agent's read for a shared copy is queued and served by the directory. -/
  | rdS (h : Fin 16) (line : Nat)
  /-- RD_O (R253): A host agent's read for ownership is served after snooping other holders. -/
  | rdO (h : Fin 16) (line : Nat)
  /-- UPG (R257): A shared-to-owned upgrade is granted, or served as RD_O if the agent is no longer a holder. -/
  | upg (h : Fin 16) (line : Nat)
  /-- WB (R254): A writeback from the owner is accepted ahead of queued requests, written into the Device Cache and answered WB_DONE. -/
  | wb (h : Fin 16) (line : Nat) (data : List Byte)
  /-- EVICT (R254): A clean eviction from the owner is accepted ahead of queued requests and answered WB_DONE. -/
  | evict (h : Fin 16) (line : Nat)
  /-- ACK (R255): A host agent's snoop answer without dirty data is taken by the home. -/
  | ack (h : Fin 16) (line : Nat)
  /-- ACK_D (R258): A host agent's snoop answer carrying dirty data is taken by the home. -/
  | ackD (h : Fin 16) (line : Nat) (data : List Byte)
  /-- GNT_ACK (R253): A grantee's acknowledgement ends its transaction and lets the next request for the line be served. -/
  | gntAck (h : Fin 16) (line : Nat)
  /-- SNOOP_SLOW (R259): A snoop unanswered for 10 µs is counted as SNOOP_SLOW. -/
  | snoopSlow (h : Fin 16) (line : Nat) (us : Nat)
  /-- HOST_DC_WAYS_WRITE (R236): A write of the host's Device Cache ways is checked and applied after clearing removed ways. -/
  | hostDcWaysWrite (by' : Principal) (v : U16)
  /-- SRAM_PATROL (R265): The SRAM patrol reads and corrects every word once per SRAM_PATROL_MS. -/
  | sramPatrol (data : List (Fin 7 × Nat)) (check : List (Fin 7 × Nat)) (bad : List (Fin 7 × Nat × Nat))
  /-- MC_PATROL (R265): The inline-ECC patrol reads and corrects every line once per MC_PATROL_HOURS. -/
  | mcPatrol (c : Fin 4) (data : Nat) (check : Nat) (bad : List Nat)
  /-- XLAT_CONFIG_WRITE (R278): A write of a parcel's translation configuration is checked and, with a job bound, applied as a whole-space shootdown. -/
  | xlatConfigWrite (by' : Principal) (p : Fin 8) (mode : Byte) (tableKind : Byte) (count : U16) (reserved : U32) (base : U64) (apBase : U64) (apLen : U64) (apOff : U64)
  /-- FAULT_RING_WRITE (R301): A write naming the fault ring resets TAIL and FAULT_RING_HEAD. -/
  | faultRingWrite (by' : Principal) (base : U64) (kind : Byte) (log2 : Byte) (tail : U32)
  /-- FAULT_RING_HEAD_WRITE (R301): The kernel driver consumes fault records by advancing FAULT_RING_HEAD. -/
  | faultRingHeadWrite (by' : Principal) (v : U32)
  /-- FAULT_RECORD_DELIVERY (R302): A held fault record is written to the ring once space appears, advancing TAIL and raising the fault interrupt. -/
  | faultRecordDelivery
  /-- FAULT_RESPONSE_RETRY (R303): RETRY invalidates cached entries covering the faulting region and pretranslates the parked descriptor again. -/
  | faultResponseRetry (by' : Principal) (seq : U64)
  /-- FAULT_RESPONSE_FAIL (R303): FAIL consumes the parked descriptor with 0x04 FAULTED and faults its job. -/
  | faultResponseFail (by' : Principal) (seq : U64)
  /-- SHOOTDOWN (R306): A shootdown request invalidates cached translations in a range and marks overlapping commands for retranslation. -/
  | shootdown (by' : Principal) (parcel : Byte) (force : Byte) (reserved : U16) (tag : U32) (start : U64) (len : U64)
  /-- SHOOTDOWN_COMPLETE (R308): Once overlapping running work has finished or been forced to stop, SHOOTDOWN_DONE takes the tag and pretranslation resumes. -/
  | shootdownComplete
  /-- PREFETCH_MIGRATE (R318): MIGRATE copies each range entry to its other backing and switches ACTIVE by compare-and-swap. -/
  | prefetchMigrate (q : Fin 1024)
  /-- PREFETCH_WARM (R322): WARM reads each LOCAL line of the range into the parcel's Device Cache ways. -/
  | prefetchWarm (q : Fin 1024)
  /-- ADVISE_NORMAL (R323): ADVISE NORMAL clears advice on a range. -/
  | adviseNormal (q : Fin 1024)
  /-- ADVISE_STREAM (R323): ADVISE STREAM makes the range allocate nothing in the Device Cache. -/
  | adviseStream (q : Fin 1024)
  /-- ADVISE_KEEP (R323): ADVISE KEEP makes the range's lines the last victims in their set. -/
  | adviseKeep (q : Fin 1024)
  /-- ADVISE_DROP (R323): ADVISE DROP writes back and invalidates every Device Cache line of the range. -/
  | adviseDrop (q : Fin 1024)
  /-- SEM_FORCE_ABANDON (R356): A write forces one held semaphore to ABANDONED and grants its first waiter. -/
  | semForceAbandon (by' : Principal) (n : Byte)
  /-- QUEUE_OPEN (R366): QUEUE_CONTROL OPEN zeroes the ring counts, translates both rings and opens the queue. -/
  | queueOpen (by' : Principal) (q : Fin 1024)
  /-- QUEUE_CLOSE (R366): QUEUE_CONTROL CLOSE stops reading descriptors and closes once the last consumed command completes. -/
  | queueClose (by' : Principal) (q : Fin 1024)
  /-- QUEUE_RESET (R366): QUEUE_CONTROL RESET stops the running command, discards consumed commands and reopens the queue with zeroed counts. -/
  | queueReset (by' : Principal) (q : Fin 1024)
  /-- DOORBELL (R371): A TAIL write is judged stale, accepted or faulting against DESC_HEAD and the ring size. -/
  | doorbell (q : Fin 1024) (v : U32)
  /-- CPL_HEAD_WRITE (R374): A CPL_HEAD write within the written records is applied; any other is ignored and counted. -/
  | cplHeadWrite (q : Fin 1024) (v : U32)
  /-- COMMAND_CONSUME (R381): The command processor reads a covered command, checks it and pretranslates its regions. -/
  | commandConsume (q : Fin 1024)
  /-- NOP_COMMAND (R375): The NOP command does nothing and completes. -/
  | nopCommand (q : Fin 1024)
  /-- RUN (R383): RUN places its tasks, dispatches them and starts its pre steps in item order. -/
  | run (q : Fin 1024)
  /-- FIRST_FREE_PLACEMENT (R385): A waiting first-free task takes the lowest-indexed qualifying engine once one becomes free. -/
  | firstFreePlacement (p : Fin 8)
  /-- DMA_IN (R314): DMA_IN copies memory into scratch, claiming and completing granules. -/
  | dmaIn (q : Fin 1024) (k : Fin 64)
  /-- DMA_OUT (R314): DMA_OUT copies scratch to memory, holding source granules and sealing the data in a sealed parcel. -/
  | dmaOut (q : Fin 1024) (k : Fin 64)
  /-- COPY (R315): COPY moves bytes between two sets of extents in whole 128-byte lines. -/
  | copy (q : Fin 1024) (k : Fin 64)
  /-- ATOMIC (R342): ATOMIC performs its operation on an aligned location and writes the previous value to the result location. -/
  | atomic (q : Fin 1024) (k : Fin 64)
  /-- SEM_ACQ (R347): An acquire step takes a semaphore for its queue or waits for it. -/
  | semAcq (q : Fin 1024) (k : Fin 64)
  /-- SEM_REL (R352): A release step frees a semaphore its queue holds and grants the first waiter. -/
  | semRel (q : Fin 1024) (k : Fin 64)
  /-- RING (R380): A RING step rings a queue on another die of the fabric parcel with a tail value over VC1. -/
  | ring (q : Fin 1024) (k : Fin 64)
  /-- ROW_IN (R446): A template ROW_IN copies each work-list row's state slice into scratch. -/
  | rowIn (q : Fin 1024) (k : Fin 64)
  /-- ROW_OUT (R446): A template ROW_OUT copies each row's scratch slice back into its sequence state. -/
  | rowOut (q : Fin 1024) (k : Fin 64)
  /-- ROW_HIST (R446): A template ROW_HIST copies each row's history into scratch. -/
  | rowHist (q : Fin 1024) (k : Fin 64)
  /-- COMMAND_COMPLETE (R357): When a command's last item ends, its results, stamp and completion record become visible in order. -/
  | commandComplete (q : Fin 1024)
  /-- COMPLETION_DELIVERY (R363): A held completion is written once the host advances the completion ring's head. -/
  | completionDelivery (q : Fin 1024)
  /-- WATCHDOG_EXPIRY (R388): A command's watchdog expires; its tasks and steps stop and it ends FAULTED with cause WATCHDOG. -/
  | watchdogExpiry (q : Fin 1024)
  /-- MRD (R395): A host-link read burst is checked for alignment and served. -/
  | mrd (agent : Fin 16) (tag : BitVec 12) (window : Bool) (addr : Nat) (len : Nat)
  /-- MWR (R395): A host-link full-line write burst is checked for alignment and applied. -/
  | mwr (agent : Fin 16) (tag : BitVec 12) (window : Bool) (addr : Nat) (beats : Fin 17) (data : List Byte)
  /-- MWR_P (R395): A host-link partial write, including a doorbell, is applied whole. -/
  | mwrP (agent : Fin 16) (tag : BitVec 12) (window : Bool) (addr : Nat) (data : List Byte)
  /-- CMP (R394): A host-link completion delivers read data or write status for a device request. -/
  | cmp (agent : Fin 16) (tag : BitVec 12) (status : Byte) (addr : Nat) (data : List Byte)
  /-- AGENT_RESET (R396): AGENT_RESET runs the burst guard for the named host master. -/
  | agentReset (h : Fin 16)
  /-- LINK_RESET (R396): LINK_RESET runs the burst guard for every host master. -/
  | linkReset (linkUp : Bool)
  /-- ATTACH_RESET (R679): A PCIe hot reset, link down or function-level reset runs the burst guard and retrains the attach. -/
  | attachReset (linkUp : Bool)
  /-- PLAT_REQUEST (R401): The RTP checks a plat request against Table 11.3, clears removed resources and writes the new plat. -/
  | platRequest (by' : Principal) (data : List Byte)
  /-- PLAT_CLEAR_DONE (R622): Clearing of controllers removed from a parcel completes and PLAT_RESULT becomes ready. -/
  | platClearDone
  /-- JOB_CREATE (R405): CREATE reads the job image, assigns a JOB_ID and opens the job's queues. -/
  | jobCreate (by' : Principal) (parcel : Byte) (slot : Byte) (reserved : Byte) (qFirst : U16) (qCount : U16) (image : U64) (save : U64) (saveBytes : U64)
  /-- JOB_DESTROY (R407): DESTROY ends the job, closes its queues, abandons its semaphores and frees the slot. -/
  | jobDestroy (by' : Principal) (parcel : Byte) (slot : Byte) (reserved : Byte)
  /-- JOB_SUSPEND (R408): SUSPEND removes a job from scheduling, saving its live state if it holds the parcel. -/
  | jobSuspend (by' : Principal) (parcel : Byte) (slot : Byte) (reserved : Byte)
  /-- JOB_RESUME (R408): RESUME returns a suspended job to WAITING or READY. -/
  | jobResume (by' : Principal) (parcel : Byte) (slot : Byte) (reserved : Byte)
  /-- JOB_FAULT (R426): JOB_CONTROL FAULT tears the named job down. -/
  | jobFault (by' : Principal) (parcel : Byte) (slot : Byte) (reserved : Byte)
  /-- SLICE_EXPIRY (R410): The holder's quantum expires and the next READY job is chosen, with grace starting. -/
  | sliceExpiry (p : Fin 8)
  /-- GRACE_EXPIRY (R415): GRACE_MS ends before a cheap point; no further command of the holder starts. -/
  | graceExpiry (p : Fin 8)
  /-- JOB_BOUNDARY (R415): After expiry, a job boundary at a cheap point or after grace starts the switch. -/
  | jobBoundary (p : Fin 8)
  /-- SWITCH_IN_COMPLETE (R420): Infusion and restore finish and the incoming job becomes HOLDING. -/
  | switchInComplete (p : Fin 8)
  /-- CADDY_QUOTA_WRITE (R431): A write of a parcel's caddy quota is checked against the total and the entries in use. -/
  | caddyQuotaWrite (by' : Principal) (p : Fin 8) (v : U16)
  /-- CADDY_BIND (R437): CADDY_BIND checks the step template and binds the job's caddy to the step queue. -/
  | caddyBind (q : Fin 1024)
  /-- SEQ_OPEN (R438): SEQ_OPEN takes a free entry of the quota, evicting if needed, and enters PREFILL or FEED_WAIT. -/
  | seqOpen (q : Fin 1024)
  /-- SEQ_APPEND (R439): SEQ_APPEND adds prompt tokens to a DONE sequence and moves it to PREFILL. -/
  | seqAppend (q : Fin 1024)
  /-- SEQ_FEED (R440): SEQ_FEED supplies the next token to a FEED_WAIT sequence. -/
  | seqFeed (q : Fin 1024)
  /-- SEQ_CLOSE (R441): SEQ_CLOSE frees the entry and writes its stamp with CLOSED. -/
  | seqClose (q : Fin 1024)
  /-- CADDY_UNBIND (R441): CADDY_UNBIND closes every open sequence and removes the binding. -/
  | caddyUnbind (q : Fin 1024)
  /-- CADDY_STEP_DISPATCH (R451): The caddy builds the work list, chooses a bucket and dispatches a generated step. -/
  | caddyStepDispatch (q : Fin 1024)
  /-- CADDY_STEP_RESULTS (R453): After a step completes, the caddy reads RESULT rows, writes outputs and stamps, and updates sequence states. -/
  | caddyStepResults (q : Fin 1024)
  /-- STREAM_CONFIG_WRITE (R464): A write of a stream's configuration is checked for state, ranges and Kettle sources. -/
  | streamConfigWrite (by' : Principal) (n : Fin 16) (parcel : Byte) (source : Byte) (kind : Byte) (log2 : Byte) (jobId : U32) (entryBytes : U32) (reserved : U32) (ring : U64) (srcRing : U64) (srcLog2 : Byte) (weight : Byte) (reserved2 : BitVec 112)
  /-- STREAM_OPEN (R465): STREAM_CONTROL OPEN translates the rings and opens the stream with SEQ 0. -/
  | streamOpen (by' : Principal) (n : Fin 16)
  /-- STREAM_CLOSE (R465): STREAM_CONTROL CLOSE completes the entry in progress and closes the stream. -/
  | streamClose (by' : Principal) (n : Fin 16)
  /-- SRC_TAIL_WRITE (R475): A source-ring tail write is judged stale, accepted or faulting. -/
  | srcTailWrite (n : Fin 16) (v : U32)
  /-- STREAM_ENTRY_DELIVERY (R469): The SIU delivers one entry into a stream ring once data and room are available. -/
  | streamEntryDelivery (n : Fin 16)
  /-- CONS_RECHECK (R470): While a MEMORY ring is full, the SIU rereads CONS at least every 1 µs. -/
  | consRecheck (n : Fin 16)
  /-- KETTLE_PROGRAM_LOAD (R485): A segmented write of a Kettle image is checked and, on success, loaded with history zeroed. -/
  | kettleProgramLoad (by' : Principal) (image : List Byte)
  /-- KETTLE_TARGET_WRITE (R486): A write of Kettle's target parcel in STOPPED zeroes history and data memory. -/
  | kettleTargetWrite (by' : Principal) (parcel : Byte) (wakeEngines : Byte)
  /-- LISTEN (R500): KETTLE_CONTROL LISTEN moves Kettle from STOPPED to LISTENING. -/
  | listen (by' : Principal)
  /-- STOP (R500): KETTLE_CONTROL STOP moves Kettle to STOPPED, keeping history. -/
  | stop (by' : Principal)
  /-- MEL_FRAME (R489): Every HOP samples the front end forms a log-mel frame in data memory. -/
  | melFrame (samples : List (U16 × U16))
  /-- VECTOR_RUN (R490): Every INFER_EVERY frames the vector program runs, or a due run is skipped if the previous has not ended. -/
  | vectorRun
  /-- KETTLE_END (R491): The Kettle END instruction ends the run. -/
  | kettleEnd
  /-- MATVEC (R491): MATVEC computes int32 dot products of int8 data and weights. -/
  | matvec
  /-- BIAS (R491): BIAS adds int32 weights to int32 data with saturation. -/
  | bias
  /-- REQ (R491): REQ requantises int32 data to int8 by a right shift with rounding. -/
  | req
  /-- RELU (R491): RELU clamps int8 data at zero. -/
  | relu
  /-- MAXP (R491): MAXP takes the pairwise maximum of two int8 halves. -/
  | maxp
  /-- KETTLE_COPY (R491): The Kettle COPY instruction copies bytes in data memory. -/
  | kettleCopy
  /-- SCORE (R491): SCORE passes the class scores to the threshold logic. -/
  | score
  /-- KETTLE_WAKE_SEQUENCE (R503): The wake sequence powers the die from the Kettle-only state and reopens the target parcel's queues within 12 ms. -/
  | kettleWakeSequence (tagOk : Bool) (linkUp : Bool) (env : StartEnv)
  /-- SENSOR_POLL (R494): A sensor's polling period expires and Kettle reads and compares its sample. -/
  | sensorPoll (k : Fin 8) (acked : Bool) (v : U16)
  /-- SENSOR_IBI (R494): A sensor's in-band interrupt makes Kettle read and compare its sample. -/
  | sensorIbi (k : Fin 8) (v : U16)
  /-- KWAKE_EDGE (R831): A filtered edge or level change on a wake pin starts its debounce. -/
  | kwakeEdge (pin : Fin 4) (level : Bool)
  /-- DEBOUNCE_EXPIRY (R495): A pin condition held for DEBOUNCE_MS makes a decision. -/
  | debounceExpiry (pin : Fin 4)
  /-- KETTLE_ENTRY_READY (R497): A Kettle output accumulates ENTRY_MS of data and offers one entry to its stream. -/
  | kettleEntryReady (o : Fin 4)
  /-- FLIT_RECEIVE (R513): A received flit is CRC- and sequence-checked, NAKed or buffered, and its credit consumed. -/
  | flitReceive (p : Fin 8) (bytes : List Byte)
  /-- RECORD_CLOSE_TIMEOUT (R519): After 4 port cycles with no content flit, the sender closes its GCM record. -/
  | recordCloseTimeout (p : Fin 8)
  /-- CREDIT_SEND_TIMER (R516): Every 64 port cycles with changed credit totals, a CREDIT flit is sent. -/
  | creditSendTimer (p : Fin 8)
  /-- IDLE (R515): An IDLE control flit carries only its acknowledgement. -/
  | idle (p : Fin 8) (ack : Fin 4096)
  /-- CREDIT (R515): A CREDIT control flit updates the sender's cumulative credits per VC and class. -/
  | credit (p : Fin 8) (totals : List U16)
  /-- NAK (R513): A NAK makes the sender resend every sequenced flit from the named FSEQ. -/
  | nak (p : Fin 8) (fseq : Fin 4096)
  /-- RESET_NOTICE (R545): A peer's reset notice runs the port guard: messages padded, credits returned, transactions truncated. -/
  | resetNotice (p : Fin 8)
  /-- RETRAIN_REQ (R530): A retrain request moves the port to RETRAIN at the requested speed. -/
  | retrainReq (p : Fin 8) (speed : Byte)
  /-- AUTH (R612): An AUTH flit delivers a HELLO or FINISH part and the peer's acknowledgement mask. -/
  | auth (p : Fin 8) (msg : Byte) (part : Byte) (count : Byte) (data : List Byte) (rcvd : U32)
  /-- AUTH_RESEND_TIMER (R612): Every 20 µs unacknowledged AUTH parts are resent. -/
  | authResendTimer (p : Fin 8)
  /-- LINK_AUTH_COMPLETE (R613): With the peer's FINISH verified and its own acknowledged, the port derives keys and enters ACTIVE. -/
  | linkAuthComplete (p : Fin 8)
  /-- LINK_AUTH_TIMEOUT (R612): LINK_AUTH not reaching ACTIVE within 50 ms ends the port in DOWN. -/
  | linkAuthTimeout (p : Fin 8)
  /-- KEY_PHASE_SWITCH (R521): Before 2^40 flits under a key, a new key is agreed and switched in by inverting KEYPHASE. -/
  | keyPhaseSwitch (p : Fin 8)
  /-- PORT_DETECT (R527): A DETECT attempt at its staggered or backoff time looks for a far end on all lanes. -/
  | portDetect (p : Fin 8) (found : Bool)
  /-- PORT_EQUALIZE (R528): Equalisation completes or fails, falling back to quarter speed or DOWN. -/
  | portEqualize (p : Fin 8) (ok : Bool)
  /-- LANE_MAP (R526): FEC lock and lane choice complete and the port moves to LINK_INIT. -/
  | laneMap (p : Fin 8) (ok : Bool) (goodTx : Fin 32) (goodRx : Fin 32) (spareTx : Fin 5) (spareRx : Fin 5)
  /-- LINK_INIT (R529): The peer's identity exchange is checked and passed to the agreement logic. -/
  | linkInit (p : Fin 8) (frameOk : Bool) (die : U16) (port : Fin 8) (fabricId : U16) (epoch : U64)
  /-- PORT_RETRAIN (R530): A lane fault or speed step retrains the port, sparing a lane without losing flits. -/
  | portRetrain (p : Fin 8) (failTx : Fin 32) (failRx : Fin 32) (corrected : U32) (uncorr : U32)
  /-- LINK_LOSS (R545): Loss of a link runs the port guard as for a reset notice. -/
  | linkLoss (p : Fin 8)
  /-- ROUTE_TABLE_WRITE (R533): A routing-table write applies to messages whose header reaches the router afterwards. -/
  | routeTableWrite (by' : Principal) (first : Fin 65536) (entries : List U16)
  /-- RD (R541): A remote read request is checked at the target and answered with RDR. -/
  | rd (m : Msg)
  /-- WR (R541): A remote write of 1–4 lines is applied at the target and answered ACK. -/
  | wr (m : Msg)
  /-- WRM (R541): A remote masked write of one line is applied at the target and answered ACK. -/
  | wrm (m : Msg)
  /-- ATOM (R541): A remote atomic is performed at the target home and answered ATOMR. -/
  | atom (m : Msg)
  /-- SEM (R354): A remote semaphore acquire or release is served at the home die and answered SEMR or BUSY. -/
  | sem (m : Msg)
  /-- RING_MESSAGE (R380): A remote RING message applies a tail to the named queue as a doorbell. -/
  | ringMessage (m : Msg)
  /-- BRD (R541): A bulk read on VC4 is served at the target and answered RDR. -/
  | brd (m : Msg)
  /-- BWR (R541): A bulk write on VC4 is applied at the target and answered ACK. -/
  | bwr (m : Msg)
  /-- SWR (R541): A stream-entry write on VC5 is applied at the target and answered ACK. -/
  | swr (m : Msg)
  /-- CSEG (R552): A collective segment is combined up the tree or written and forwarded down it. -/
  | cseg (m : Msg)
  /-- CABORT (R554): A collective abort ends the context's pending segments and marks it FAULTED. -/
  | cabort (m : Msg)
  /-- RDR (R543): A read response completes its transaction or is discarded if late or stale. -/
  | rdr (m : Msg)
  /-- SL_ACK (R543): A write acknowledgement completes its transaction and frees its tag. -/
  | slAck (m : Msg)
  /-- ATOMR (R543): An atomic response delivers the previous value and completes the transaction. -/
  | atomr (m : Msg)
  /-- SEMR (R543): A semaphore response delivers ACQUIRED or ACQUIRED_ABANDONED to the requesting step. -/
  | semr (m : Msg)
  /-- TXN_TIMEOUT (R542): A request without response within TXN_TIMEOUT_US ends its step TRUNCATED. -/
  | txnTimeout (t : Fin 4096)
  /-- TAG_RELEASE_TIMEOUT (R542): A timed-out tag is freed after twice TXN_TIMEOUT_US. -/
  | tagReleaseTimeout (t : Fin 4096)
  /-- COLL_CONFIG_WRITE (R547): A write of a collective context resets its segment count unless a contribution is pending. -/
  | collConfigWrite (by' : Principal) (c : Fin 8) (kind : Byte) (op : Byte) (type : Byte) (parcel : Byte) (root : U16) (reserved : U16) (result : U64) (length : U64) (reserved2 : U64)
  /-- BEACON (R561): A neighbour's beacon is recorded, the surveyor candidate recomputed and datum epochs compared. -/
  | beacon (p : Fin 8) (data : List Byte)
  /-- BEACON_TIMER (R560): Every 1 ms the die sends a beacon on each ACTIVE port. -/
  | beaconTimer
  /-- BEACON_STALE (R561): A beacon not refreshed within its freshness limit is dropped and the election moves on. -/
  | beaconStale (p : Fin 8)
  /-- DATUM_PROPOSE (R566): A datum proposal is forwarded to the surveyor and checked, adopted at the next epoch and announced. -/
  | datumPropose (by' : Principal) (data : List Byte)
  /-- DATUM_ADOPTION (R568): The die reads a higher-epoch datum from a peer, checks it and applies it or quarantines itself. -/
  | datumAdoption
  /-- NOTICE_REPORT (R570): The surveyor takes a standing or liveness report and probes, decides or re-issues the datum. -/
  | noticeReport (src : U16) (data : List Byte)
  /-- LOST_PROBE_TIMEOUT (R571): A probed die not answering within 5 ms is declared lost and a NOTICE broadcast. -/
  | lostProbeTimeout (die : U16)
  /-- NOTICE (R572): A received NOTICE abandons, truncates or ends requests to the named die by its KIND. -/
  | notice (m : Msg)
  /-- DATUM_ANNOUNCE (R572): An announced datum epoch and digest trigger comparison and adoption. -/
  | datumAnnounce (m : Msg)
  /-- JOB_RECORD (R574): A member or surveyor stores the lead's fabric-parcel job record. -/
  | jobRecord (src : U16) (slot : Fin 8) (data : List Byte)
  /-- SWITCH_DONE (R575): The lead collects members' switch reports and, when all are in, makes the incoming job HOLDING. -/
  | switchDone (src : U16) (data : List Byte)
  /-- SYNC_TIMER (R578): Every 1 ms a non-source die sends SYNC_REQ to its parent. -/
  | syncTimer
  /-- SYNC_REQ (R578): The parent timestamps a SYNC_REQ and returns SYNC_RESP. -/
  | syncReq (m : Msg)
  /-- SYNC_RESP (R580): The child computes θ and path delay and slews, steps or slows its benchmark time. -/
  | syncResp (m : Msg)
  /-- ANNOUNCE (R579): A benchmark ANNOUNCE from the source is taken and forwarded. -/
  | announce (m : Msg)
  /-- BENCH_ANNOUNCE_TIMER (R579): Every 100 ms the benchmark source broadcasts ANNOUNCE. -/
  | benchAnnounceTimer
  /-- BENCH_IMPORT (R577): A HOST_SET source takes the written time as the time of receipt. -/
  | benchImport (by' : Principal) (v : U64)
  /-- PARENT_TIMEOUT (R581): No valid exchange with the parent for 20 ms makes the die UNLEVELED. -/
  | parentTimeout
  /-- ONDIE_CLOSURE_PASS (R583): Every 10 ms of benchmark time the on-die closure token visits every powered island. -/
  | ondieClosurePass (stalled : Bool)
  /-- FABRIC_CLOSURE_PASS (R583): Every 100 ms each port end sends a CLOSE marker. -/
  | fabricClosurePass
  /-- CLOSE (R585): A received CLOSE marker's counts are checked against the receiver's, recording any closure error. -/
  | close (m : Msg)
  /-- CLOSURE_LATE (R586): A pass not completing in its bound is counted late, not as an error. -/
  | closureLate (fabric : Bool)
  /-- DEBUG_OWNER (R604): A challenge for DEBUG_OWNER is opened; a valid answer moves DEBUG_STATE to OWNER_DEBUG. -/
  | debugOwner (by' : Principal) (tag : U32) (reserved : BitVec 24) (arg : List Byte)
  /-- DEBUG_VENDOR (R604): A challenge for DEBUG_VENDOR is opened; a valid answer moves DEBUG_STATE to VENDOR_DEBUG. -/
  | debugVendor (by' : Principal) (tag : U32) (reserved : BitVec 24) (arg : List Byte)
  /-- OWNER_ENROLL (R604): A challenge for OWNER_ENROLL is opened; a valid answer programs an owner key slot. -/
  | ownerEnroll (by' : Principal) (tag : U32) (reserved : BitVec 24) (arg : List Byte)
  /-- KEY_REVOKE (R604): A challenge for KEY_REVOKE is opened; a valid answer blows the slot's REVOKED fuse. -/
  | keyRevoke (by' : Principal) (tag : U32) (reserved : BitVec 24) (arg : List Byte)
  /-- SVN_ADVANCE (R604): A challenge for SVN_ADVANCE is opened; a valid answer raises a kind's SVN floor. -/
  | svnAdvance (by' : Principal) (tag : U32) (reserved : BitVec 24) (arg : List Byte)
  /-- FUSE_REPAIR (R755): A challenge for FUSE_REPAIR is opened; a valid answer programs a repair record. -/
  | fuseRepair (by' : Principal) (tag : U32) (reserved : BitVec 24) (arg : List Byte)
  /-- RMA (R604): A challenge for RMA is opened; a valid answer blows the RMA fuse. -/
  | rma (by' : Principal) (tag : U32) (reserved : BitVec 24) (arg : List Byte)
  /-- ANSWER (R607): An answer is checked for replay and validity and applies its challenge's operation or burns the nonce. -/
  | answer (by' : Principal) (data : List Byte)
  /-- CHALLENGE_DEADLINE (R608): A BURNED record closes at its 10 ms deadline, an OPEN record 1 s after issue. -/
  | challengeDeadline (k : Fin 8)
  /-- DEBUG_LOCK (R628): A DEBUG_LOCK write returns DEBUG_STATE to LOCKED except from RMA. -/
  | debugLock (by' : Principal) (v : Byte)
  /-- SEAL_OFFER (R616): A parcel's seal offer is accepted once per plat epoch and the RTP starts key agreement. -/
  | sealOffer (by' : Principal) (p : Fin 8) (data : List Byte)
  /-- SEAL_KEY_READY (R616): The RTP completes key derivation and signing, installs the seal key and makes SEAL_RESULT ready. -/
  | sealKeyReady (p : Fin 8)
  /-- ATTEST_REQUEST (R633): An attestation request restarts ATTEST_REPORT and starts a report. -/
  | attestRequest (by' : Principal) (nonce : List Byte)
  /-- ATTEST_REPORT_READY (R631): The RTP finishes signing a report and ATTEST_REPORT becomes ready. -/
  | attestReportReady
  /-- POWER_REQUEST (R648): A request for the Kettle-only state is checked and runs the entry sequence. -/
  | powerRequest (by' : Principal) (v : Byte)
  /-- HOST_WAKE (R649): Assertion of the attach wake input brings the die out of the Kettle-only state. -/
  | hostWake (tagOk : Bool) (env : StartEnv)
  /-- GOVERNOR_TICK (R650): Every 1 ms the governor compares average power with the budget and moves the frequency cap. -/
  | governorTick (nj : List Nat)
  /-- BOOST_ENABLE_WRITE (R653): A write of BOOST_ENABLE permits or ends boost. -/
  | boostEnableWrite (by' : Principal) (v : Byte)
  /-- SAG_STAGE_ENTER (R657): Droop at a stage's threshold for its dwell puts that stage and all below in force. -/
  | sagStageEnter (droop : Nat) (ns : Nat)
  /-- SAG_STAGE_EXIT (R660): After 100 µs below threshold minus 10‰, the highest stage is left and stopped work resumes. -/
  | sagStageExit (peak : Nat)
  /-- SAG_START (R668): After stage 7, rails stable for 1 ms cause a sag start. -/
  | sagStart (env : StartEnv)
  /-- SAG_N (R818): An assertion of SAG_N of 50 ns or more raises the sag level to SAG_PIN_STAGE. -/
  | sagN (low : Bool) (ns : Nat) (droop : Nat)
  /-- VREQ_ALERT (R816): VREQ_ALERT_N low counts as a 50‰ droop on VDD_ENG. -/
  | vreqAlert (low : Bool)
  /-- ENGINE_OFF_TIMEOUT (R640): An engine idle for ENGINE_OFF_US has its domain switched off. -/
  | engineOffTimeout (n : Fin 16)
  /-- RAIL_PG_FALL (R814): RAIL_PG of an enabled group low for 1 µs enters sag stage 7. -/
  | railPgFall (group : Fin 5)
  /-- PWRGD_FALL (R701): Power-good falling drops every RAIL_EN and records INTERRUPTED for a step in progress. -/
  | pwrgdFall
  /-- POWER_ON (R675): Power-good rising starts a POWER_ON start through ST00–ST47. -/
  | powerOn (env : StartEnv)
  /-- RESET_REQUEST (R677): A RESET_REQUEST write sends RESET_NOTICE and performs a DIE_RESET within 1 ms. -/
  | resetRequest (by' : Principal) (v : Byte) (env : StartEnv)
  /-- HOST_RESET_INPUT (R675): Assertion of the live attach's reset input causes a DIE_RESET. -/
  | hostResetInput (env : StartEnv)
  /-- BOOT_RESPONSE (R689): A RESP_SEQ write matching REQ_SEQ delivers boot-window image bytes to the RTP. -/
  | bootResponse (seq : U32) (status : Byte) (length : U32) (buf : List Byte)
  /-- BOOT_DATA (R691): The board manager's BOOT_DATA write delivers image bytes over the sideband. -/
  | bootData (by' : Principal) (data : List Byte)
  /-- START_STEP_TIMEOUT (R683): A start step past four times its bound ends TIMEOUT and takes its FAILED action. -/
  | startStepTimeout
  /-- START_WATCHDOG (R684): The 2,000 ms start watchdog expires before ST47 and causes a DIE_RESET. -/
  | startWatchdog (env : StartEnv)
  /-- FATAL_AUTO_RESET (R680): FATAL_AUTO_RESET_MS after a die-fatal event, the device resets itself. -/
  | fatalAutoReset (env : StartEnv)
  /-- LEDGER_CLEAR (R698): LEDGER_CLEAR clears every STICKY, ENGINE_FAIL and CONSEC_INCOMPLETE for the next start. -/
  | ledgerClear (by' : Principal) (v : Byte)
  /-- PORT_FINAL_RECORD (R695): After ST47, a port's final state is written at ACTIVE or DOWN, or after 5 s. -/
  | portFinalRecord (p : Fin 8)
  /-- EVENT_ENTRY (R709): The field book takes an event entry and adds it into its code's open span. -/
  | eventEntry
  /-- WINDOW_CLOSE (R714): 200 µs after a window ends, each span is repeated, recorded or carried. -/
  | windowClose
  /-- TOKEN_REFILL (R719): A code's rate bucket gains one token every 60,000/RATE ms. -/
  | tokenRefill (code : Fin 4096)
  /-- FB_CONFIG_WRITE (R721): A write of WINDOW_MS ends every open span at the next boundary. -/
  | fbConfigWrite (by' : Principal) (windowMs : U16)
  /-- FB_SPILL_WRITE (R726): A write naming the spill ring is checked and starts spilling from HEAD. -/
  | fbSpillWrite (by' : Principal) (enable : Byte) (kind : Byte) (log2 : Byte) (reserved : BitVec 40) (base : U64)
  /-- SELFTEST_DUE (R742): A unit's periodic segment falls due and starts when R743 allows, withdrawing the unit. -/
  | selftestDue (u : Fin 34)
  /-- SELFTEST_SEGMENT_END (R741): A segment ends with its outcome; the unit is restored, remapped or retired. -/
  | selftestSegmentEnd (u : Fin 34) (first : Bool) (confirm : Bool) (lanes : List (Fin 136))
  /-- SELFTEST_REQUEST (R763): An on-demand request runs one segment on the named unit. -/
  | selftestRequest (by' : Principal) (kind : Byte) (unit : Byte) (sub : Byte)
  /-- PREPARE_REMOVAL (R758): PREPARE_REMOVAL drains the die, disables its ports and powers it down for removal. -/
  | prepareRemoval (by' : Principal)
  /-- CANCEL (R758): CANCEL during DRAINING returns the die to IN_SERVICE. -/
  | cancel (by' : Principal)
  /-- ROUTER_QUIET (R758): After 10 ms with no message crossing the router, or 1 s, removal continues. -/
  | routerQuiet
  /-- CLEAR_SOFT (R762): REPAIR_CONTROL CLEAR_SOFT removes soft-repair records at the next start. -/
  | clearSoft (by' : Principal)
  /-- CLEAR_MC_PENDING (R753): REPAIR_CONTROL CLEAR_MC_PENDING returns pending controllers to service at the next start. -/
  | clearMcPending (by' : Principal)
  /-- READ (R775): A READ frame returns a value expedited or opens a segmented read session. -/
  | read (path : Path) (frame : List Byte)
  /-- WRITE (R778): An expedited WRITE frame applies a whole value to an entry. -/
  | write (path : Path) (frame : List Byte)
  /-- WRITE_INIT (R780): WRITE_INIT opens a segmented write session. -/
  | writeInit (path : Path) (frame : List Byte)
  /-- WRITE_SEG (R777): WRITE_SEG carries a segment, applying the value on LAST. -/
  | writeSeg (path : Path) (frame : List Byte)
  /-- READ_SEG (R777): READ_SEG returns a segment of a value fixed at the READ. -/
  | readSeg (path : Path) (frame : List Byte)
  /-- ABORT (R775): ABORT frees a session. -/
  | abort (path : Path) (frame : List Byte)
  /-- DESCRIBE (R775): DESCRIBE returns an entry's type, persistence, right and size. -/
  | describe (path : Path) (frame : List Byte)
  /-- REGISTER_WRITE (R778): A write of an entry that has no row of its own is checked and stored. -/
  | registerWrite (by' : Principal) (index : U16) (sub : Byte) (data : List Byte)
  /-- RELAY_TIMEOUT (R770): A relayed frame without response in 10 ms is answered TRUNCATED. -/
  | relayTimeout
  /-- SESSION_IDLE_TIMEOUT (R781): A session idle for SESSION_IDLE_MS is ended, applying nothing. -/
  | sessionIdleTimeout (session : U16)
  /-- I3C_PRIVATE_READ (R784): A private read collects a ready response, or ends after one zero byte. -/
  | i3cPrivateRead
  /-- ENTDAA (R784): ENTDAA assigns the sideband target a dynamic address. -/
  | entdaa (addr : BitVec 7)
  /-- GETMWL (R784): GETMWL returns a maximum write length of 128 bytes. -/
  | getmwl
  /-- GETMRL (R784): GETMRL returns a maximum read length of 128 bytes. -/
  | getmrl
  /-- GETPID (R828): GETPID returns the serial-derived provisional ID. -/
  | getpid
  /-- GETBCR (R828): GETBCR returns BCR 0x06. -/
  | getbcr
  /-- GETDCR (R828): GETDCR returns DCR 0x00. -/
  | getdcr
  /-- GET_VERSION (R634): SPDM GET_VERSION answers version 1.2 only. -/
  | getVersion (by' : Principal) (msg : List Byte)
  /-- GET_CAPABILITIES (R634): SPDM GET_CAPABILITIES reports certificate, challenge and signed measurement capabilities. -/
  | getCapabilities (by' : Principal) (msg : List Byte)
  /-- NEGOTIATE_ALGORITHMS (R634): SPDM NEGOTIATE_ALGORITHMS selects ECDSA P-384 and SHA-384. -/
  | negotiateAlgorithms (by' : Principal) (msg : List Byte)
  /-- GET_DIGESTS (R634): SPDM GET_DIGESTS returns the certificate-chain digest. -/
  | getDigests (by' : Principal) (msg : List Byte)
  /-- GET_CERTIFICATE (R634): SPDM GET_CERTIFICATE returns the slot-0 chain. -/
  | getCertificate (by' : Principal) (msg : List Byte)
  /-- CHALLENGE (R634): SPDM CHALLENGE returns a signed response under the attestation key. -/
  | challenge (by' : Principal) (msg : List Byte)
  /-- GET_MEASUREMENTS (R635): SPDM GET_MEASUREMENTS returns image digests, the report or the device mode. -/
  | getMeasurements (by' : Principal) (msg : List Byte)
  /-- BYPASS (R629): The TAP BYPASS instruction selects the bypass register. -/
  | bypass
  /-- IDCODE (R832): The TAP IDCODE instruction returns the device IDCODE. -/
  | idcode
  /-- SAMPLE_PRELOAD (R629): The TAP SAMPLE/PRELOAD instruction samples and preloads the boundary register. -/
  | samplePreload (sample : List Bool) (preload : List Bool)
  /-- EXTEST (R629): The TAP EXTEST instruction drives boundary pins, only while no parcel is ACTIVE. -/
  | extest (sample : List Bool)
  /-- CLAMP (R629): The TAP CLAMP instruction holds pins at preloaded values, only while no parcel is ACTIVE. -/
  | clamp
  /-- BOOT_WAIT_EXPIRY (R683): When no answer to the first boot request arrives within BOOT_WAIT_MS, ST08 ends TIMEOUT and the die enters the RTP recovery state. -/
  | bootWaitExpiry
  /-- JUNCTION_TEMPERATURE_CHANGE (R653): The hottest junction sensor crosses 85 °C, ending or permitting boost at once, or reaches 115 °C, entering sag stage 7. -/
  | junctionTemperatureChange (t : Int)
  /-- FUSE_PROGRAMMING_DONE (R610): Fuse programming for a valid answer completes within 20 ms, the effect comes into force and the answer is replied 0x00 OK. -/
  | fuseProgrammingDone
  /-- DOMAIN_WAKE_COMPLETE (R641): A powered-off domain woken for a request reaches its setpoint after its wake latency, comes up zeroed and the waiting request proceeds. -/
  | domainWakeComplete (d : Fin 64)
  /-- READ_TIMING_DRIFT_LIMIT (R753): A controller's read-timing drift tracking reaches the end of its correction range and the controller becomes RETIRE_PENDING. -/
  | readTimingDriftLimit (c : Fin 4)
  /-- SEM_REMOTE_RETRY (R354): A remote acquire answered BUSY is retried by the requesting die itself after the 2 µs retry-after. -/
  | semRemoteRetry (q : Fin 1024)
  /-- RESPONSE_FRAME (R770): A dictionary response frame arrives on VC0 for a relayed, forwarded or probing request, and is returned in the window or completes the wait. -/
  | responseFrame (src : U16) (frame : List Byte)
  /-- VREQ_FRAME_REPEAT (R815): Every 100 µs the device resends the current VDD_ENG setpoint frame on VREQ_DAT. -/
  | vreqFrameRepeat
  /-- ATOMICOP_REQUESTER_ENABLE_CHANGE (R799): A change of the PCIe AtomicOp Requester Enable bit by the host re-evaluates XLAT_CAS_AVAILABLE. -/
  | atomicopRequesterEnableChange (enable : Bool)
deriving DecidableEq, Repr

end Sys2Proof
end

