-- ==== Sys2Proof/Config.lean ====
section
/-! DEFINITION. The free values: what the spec leaves open, as constants without a body, so that a claim holds for
every value of them (the assumption log names each). -/
namespace Sys2Proof

/-- Which of the fp32 values within the spec's bound EXP2, RSQRT and RECIP give (04 R130): function number, operand. -/
opaque Config.vecPick : Nat → U32 → Nat
/-- Which of the fp32 values within the spec's bound SIGMOID and SOFTMAX give (06 R215). -/
opaque Config.treePick : Nat → List U32 → Nat → Nat
/-- The byte an instruction writes where source and destination overlap in a way that R834 leaves open. -/
opaque Config.mixByte : Nat → Nat → Byte
/-- Whether an instruction of a stream modified while it runs is the old one (04 R104). -/
opaque Config.oldWord : Nat → Bool
/-- Whether a stopped writer leaves a 128-byte line of an unfinished granule new (03 R835): time, slice, the slice's count of
such granules, line. -/
opaque Config.stopNew : Nat → Nat → Nat → Nat → Bool
/-- A byte of a line that it leaves new (03 R835): time, slice, the slice's count, offset. -/
opaque Config.stopByte : Nat → Nat → Nat → Nat → Byte
/-- The translation-cache entry a miss replaces (08 R293). -/
opaque Config.xlatVictim : Nat → Nat
/-- Which entry of a full directory set is given up (07 R251): draw number, the number of entries. -/
opaque Config.dirVictim : Nat → Nat
/-- Which requester wins among simultaneous ones where software cannot predict it (02 R53). -/
opaque Config.arbiter : Nat → Nat
/-- SHA-384 of a byte string (16; the algorithm is outside the spec). -/
opaque Config.sha384 : List Byte → List Byte
/-- A 32-byte random nonce (16 R605). -/
opaque Config.nonce : Nat → List Byte
/-- An ECDSA P-384 signature under the device's key named by a number (16 R631, R634). -/
opaque Config.sign : Nat → List Byte → List Byte
/-- Whether a signature verifies: public-key digest, message, signature (16). -/
opaque Config.verify : List Byte → List Byte → List Byte → Bool
/-- The AES-256-GCM key stream (14 R518, 16 R618): key number, nonce count, byte place. -/
opaque Config.gcmStream : Nat → Nat → Nat → Byte
/-- The 16-byte AES-256-GCM tag: key number, nonce count, authenticated data, ciphertext. -/
opaque Config.gcmTag : Nat → Nat → List Byte → List Byte → List Byte
/-- A derived key's number from the exchanged material (16 R613, R616). -/
opaque Config.kdf : List Byte → Nat
/-- The public certificate chain of slot 0 (16 R634). -/
opaque Config.certChain : List Byte
/-- The per-die serial, 16 bytes (22 Table 22.2). -/
opaque Config.serial : List Byte
/-- The 97-byte identity public key, its endorsing vendor slot and 96-byte endorsement (16 R611). -/
opaque Config.identKey : List Byte
/-- The vendor slot that endorses the identity key (16 R611). -/
opaque Config.endorseSlot : Byte
/-- The vendor signature over the identity key (16 R611). -/
opaque Config.endorsement : List Byte
/-- The ephemeral ECDH public key of an agreement, by draw (16 R611). -/
opaque Config.ephemeral : Nat → List Byte
/-- The mel band value of a frame (13 R489), whose formula is outside finite arithmetic: the last 512 samples, the rate in kHz,
the number of bands, the band. -/
opaque Config.mel : List U16 → Nat → Nat → Nat → Byte
/-- Counts of engines and slices that a fabric parcel's other dies grant it (01 R29): fabric parcel, what is counted. -/
opaque Config.fabricShape : Nat → Nat → Nat
/-- The energy in µJ that a job's islands have taken (11 Table 11.10), by draw. -/
opaque Config.energyUj : Nat → Nat
/-- The tokens a sequence had output before it was opened at a position other than 0 (12 Table 12.5), by draw. -/
opaque Config.reopenCount : Nat → Nat
/-- The digest of a vendor key slot (16 R591). -/
opaque Config.vendorDigest : Nat → List Byte
/-- The host's PCIe PTM time less the source's, in quarter-nanoseconds (15 R577), by draw. -/
opaque Config.ptmTheta : Nat → Int
/-- A port's random delay (14 R527). -/
opaque Config.portDelay : Nat → Nat
/-- Whether an assertion of SAG_N of 20 to 49 ns is recognised (23 R818), by draw. -/
opaque Config.pinSeen : Nat → Bool
/-- Whether a VDD_ENG setpoint in µV that is no multiple of 2.5 mV is sent as the next code up (23 R815). -/
opaque Config.vreqUp : Nat → Bool
/-- Where in its range an island's mean frequency was measured (22 R797): island, time. -/
opaque Config.freeMean : Nat → Nat → Nat
/-- The stretched periods an adaptive island has counted (02 R39, 22 R797): island, time. -/
opaque Config.stretched : Nat → Nat → Nat

end Sys2Proof
end

