-- ==== Sys2Proof/Machine/Base.lean ====
section
/-! DEFINITION. Helpers over tables, bytes and bits: sparse tables in canonical form, little-endian integers (00 R5),
bit fields (00 R3), two's complement, CRC-32C and the local arbiter (02 R49). -/
namespace Sys2Proof

/-- The entry at a number: the listed one, or the type's default. -/
def Tab.rd {α : Type} [Inhabited α] (t : Tab α) (i : Nat) : α :=
  match t with
  | [] => default
  | (k, v) :: r => if k = i then v else Tab.rd r i

/-- Insert a non-default entry into a table that does not list its number, keeping the numbers rising. -/
def Tab.ins {α : Type} (i : Nat) (v : α) : Tab α → Tab α
  | [] => [(i, v)]
  | (k, x) :: r => if i < k then (i, v) :: (k, x) :: r else (k, x) :: Tab.ins i v r

/-- Remove a number's entry. -/
def Tab.del {α : Type} (i : Nat) : Tab α → Tab α
  | [] => []
  | (k, x) :: r => if k = i then Tab.del i r else (k, x) :: Tab.del i r

/-- Write an entry: writing the default unlists the number, so equal contents are equal tables. -/
def Tab.wr {α : Type} [Inhabited α] [DecidableEq α] (t : Tab α) (i : Nat) (v : α) : Tab α :=
  if v = default then Tab.del i t else Tab.ins i v (Tab.del i t)

/-- Change an entry. -/
def Tab.upd {α : Type} [Inhabited α] [DecidableEq α] (t : Tab α) (i : Nat) (f : α → α) : Tab α :=
  Tab.wr t i (f (Tab.rd t i))

/-- Change every entry whose number is below `n`. -/
def Tab.updAll {α : Type} [Inhabited α] [DecidableEq α] (t : Tab α) (n : Nat) (f : Nat → α → α) : Tab α :=
  (List.range n).foldl (fun t i => Tab.wr t i (f i (Tab.rd t i))) t

/-- Change the listed entries only (the others are at the default and stay there). -/
def Tab.updListed {α : Type} [Inhabited α] [DecidableEq α] (t : Tab α) (f : Nat → α → α) : Tab α :=
  (t.map Prod.fst).foldl (fun t i => Tab.wr t i (f i (Tab.rd t i))) t

/-- The numbers rise strictly. -/
def Tab.sorted {α : Type} : Tab α → Bool
  | [] => true
  | [_] => true
  | (k, _) :: (k', x') :: r => decide (k < k') && Tab.sorted ((k', x') :: r)

/-- The canonical form: numbers rise strictly and no entry is the default. -/
def Tab.wf {α : Type} [Inhabited α] [DecidableEq α] (t : Tab α) : Bool :=
  Tab.sorted t && t.all (fun p => decide (p.2 ≠ default))

/-- Read `n` bytes from an address. -/
def memRead (m : Tab Byte) (a n : Nat) : List Byte := (List.range n).map (fun i => Tab.rd m (a + i))

/-- Write bytes from an address. -/
def memWrite (m : Tab Byte) (a : Nat) : List Byte → Tab Byte
  | [] => m
  | b :: bs => memWrite (Tab.wr m a b) (a + 1) bs

/-- Write the bytes whose mask bit is set (14 R541, masked writes). -/
def memWriteMasked (m : Tab Byte) (a : Nat) : List (Byte × Bool) → Tab Byte
  | [] => m
  | (b, k) :: bs => memWriteMasked (if k then Tab.wr m a b else m) (a + 1) bs

/-- The unsigned little-endian value of a byte string (00 R5). -/
def leNat : List Byte → Nat
  | [] => 0
  | b :: bs => b.toNat + 256 * leNat bs

/-- The `n` little-endian bytes of a value. -/
def leBytes : Nat → Nat → List Byte
  | 0, _ => []
  | n + 1, v => BitVec.ofNat 8 v :: leBytes n (v / 256)

/-- Bits [hi:lo] of a value (00 R3). -/
def bitsOf (v hi lo : Nat) : Nat := (v >>> lo) % 2 ^ (hi + 1 - lo)

/-- One bit of a value. -/
def bitAt (v i : Nat) : Bool := (v >>> i) % 2 == 1

/-- The two's complement value of the low `n` bits. -/
def sext (n v : Nat) : Int := if v % 2 ^ n < 2 ^ (n - 1) then ((v % 2 ^ n : Nat) : Int) else ((v % 2 ^ n : Nat) : Int) - 2 ^ n

/-- The `n`-bit two's complement code of an integer. -/
def twos (n : Nat) (x : Int) : Nat := (x % (2 ^ n : Int)).toNat

/-- Bytes [lo, lo + n) of a byte string. -/
def slice (bs : List Byte) (lo n : Nat) : List Byte := (bs.drop lo).take n

/-- The little-endian field of `n` bytes at `lo` of a byte string. -/
def field (bs : List Byte) (lo n : Nat) : Nat := leNat (slice bs lo n)

/-- A byte string of exactly `n` bytes: cut or filled with zeros. -/
def padTo (n : Nat) (bs : List Byte) : List Byte := (bs ++ List.replicate n 0#8).take n

/-- The set bit numbers of a mask below `n`, ascending. -/
def maskBits (n m : Nat) : List Nat := (List.range n).filter (fun i => bitAt m i)

/-- The number of set bits below `n`. -/
def popCount (n m : Nat) : Nat := (maskBits n m).length

/-- A mask from bit numbers. -/
def maskOf (l : List Nat) : Nat := l.foldl (fun a i => a ||| (1 <<< i)) 0

/-- One step of CRC-32C over one bit. -/
def crc32cBit (c : Nat) : Nat := if c % 2 = 1 then (c / 2) ^^^ 0x82F63B78 else c / 2

/-- CRC-32C over one byte. -/
def crc32cByte (c : Nat) (b : Byte) : Nat := Nat.repeat crc32cBit 8 (c ^^^ b.toNat)

/-- CRC-32C with initial value and final XOR of all ones (19 Table 19.2). -/
def crc32c (bs : List Byte) : Nat := (bs.foldl crc32cByte 0xFFFFFFFF) ^^^ 0xFFFFFFFF

/-- A saturating 32-bit count. -/
def sat32 (n : Nat) : Nat := Nat.min n 0xFFFFFFFF

/-- The local arbiter of 02 R49: the first requester at or after the pointer, in circular order over `n` places. -/
def localGrant (n ptr : Nat) (req : Nat → Bool) : Option Nat :=
  ((List.range n).map (fun i => (ptr + i) % n)).find? req

/-- Replace the element at a position of a list. -/
def listSet {α : Type} (l : List α) (i : Nat) (v : α) : List α :=
  match l, i with
  | [], _ => []
  | _ :: t, 0 => v :: t
  | h :: t, i + 1 => h :: listSet t i v

/-- The code of a status (00 Table 0.8). -/
def Status.code : Status → Nat
  | .ok => 0 | .busy => 1 | .notReady => 2 | .denied => 3 | .faulted => 4 | .abandoned => 5 | .truncated => 6
  | .quarantined => 7 | .unleveled => 8 | .corrupt => 9 | .withdrawn => 10 | .retired => 11 | .replay => 12
  | .unsupported => 13

/-- The code of a cause (08 Table 8.5, 10 Table 10.9). -/
def Cause.code : Cause → Nat
  | .none => 0 | .notMapped => 1 | .permission => 2 | .noncanonical => 3 | .misaligned => 4 | .kindDenied => 5
  | .tableError => 6 | .shotDown => 7 | .extentLimit => 8 | .tableChanged => 9 | .watchdog => 0x40 | .decode => 0x41
  | .exec => 0x42 | .uncorr => 0x43 | .flushed => 0x44

/-- The class Park of Table 8.5. -/
def Cause.parks : Cause → Bool
  | .notMapped => true
  | .permission => true
  | .kindDenied => true
  | .tableError => true
  | _ => false

end Sys2Proof
end

