-- ==== Sys2Proof/Machine/Num.lean ====
section
/-! DEFINITION. The arithmetic of the matrix and vector instructions (04 R146-R156): integer and floating-point
element types, exact sums with one rounding, conversion with Table 4.9, and the sticky exception flags. -/
namespace Sys2Proof

/-- A floating-point value: a NaN, an infinity, or plus or minus `n` units of 2^-300. Every finite value of every
type of Table 4.8, and every product of two, is a whole number of those units. -/
inductive FVal where
  | nan | inf (neg : Bool) | fin (neg : Bool) (n : Nat)
deriving DecidableEq, Repr, Inhabited

/-- The unit's exponent. -/
def unitExp : Nat := 300

/-- A floating-point format of Table 4.8. -/
structure FFmt where
  eb : Nat
  mb : Nat
  bias : Nat
  hasInf : Bool
  canonNan : Nat
deriving DecidableEq, Repr

/-- The format of a floating type (Table 4.8); the integer types answer fp32's, which nothing reads. -/
def ElemType.fmt : ElemType → FFmt
  | .e4m3 => ⟨4, 3, 7, false, 0x7F⟩
  | .e5m2 => ⟨5, 2, 15, true, 0x7E⟩
  | .f16 => ⟨5, 10, 15, true, 0x7E00⟩
  | .bf16 => ⟨8, 7, 127, true, 0x7FC0⟩
  | _ => ⟨8, 23, 127, true, 0x7FC00000⟩

/-- Whether a type is an integer type. -/
def ElemType.isInt : ElemType → Bool
  | .int8 | .int4 | .int32 => true
  | _ => false

/-- The width of an element in bits (Table 4.2). -/
def ElemType.bits : ElemType → Nat
  | .int8 | .e4m3 | .e5m2 => 8
  | .int4 => 4
  | .bf16 | .f16 => 16
  | .int32 | .fp32 => 32

/-- The value of a floating-point code. -/
def FFmt.decode (f : FFmt) (w : Nat) : FVal :=
  let neg := bitAt w (f.eb + f.mb)
  let e := bitsOf w (f.eb + f.mb - 1) f.mb
  let m := w % 2 ^ f.mb
  let top := 2 ^ f.eb - 1
  if e = top ∧ f.hasInf = true then (if m = 0 then .inf neg else .nan)
  else if e = top ∧ m = 2 ^ f.mb - 1 then .nan
  else if e = 0 then .fin neg (m * 2 ^ (unitExp + 1 - f.bias - f.mb))
  else .fin neg ((2 ^ f.mb + m) * 2 ^ (unitExp + e - f.bias - f.mb))

/-- The exponent, in units, of a format's smallest step. -/
def FFmt.q0 (f : FFmt) : Nat := unitExp + 1 - f.bias - f.mb

/-- The largest finite code of a format, without its sign. -/
def FFmt.maxCode (f : FFmt) : Nat :=
  if f.hasInf then (2 ^ f.eb - 1) * 2 ^ f.mb - 1 else 2 ^ (f.eb + f.mb) - 2

/-- Round the positive value num/den units to a format, to nearest with ties to even: the unsigned code, which lies
above `maxCode` when the value rounds beyond the finite range (04 R154). -/
def FFmt.roundCode (f : FFmt) (num den : Nat) : Nat :=
  let q := Nat.max f.q0 (Nat.log2 (num / den) - f.mb)
  let d := den * 2 ^ q
  let r := num / d
  let rem := num % d
  let r' := if 2 * rem > d ∨ (2 * rem = d ∧ r % 2 = 1) then r + 1 else r
  if num / den = 0 ∧ r' = 0 then 0
  else if r' < 2 ^ f.mb then r'
  else (q - f.q0) * 2 ^ f.mb + r'

/-- The code below or at the positive value num/den units. -/
def FFmt.floorCode (f : FFmt) (num den : Nat) : Nat :=
  let q := Nat.max f.q0 (Nat.log2 (num / den) - f.mb)
  let r := num / (den * 2 ^ q)
  if r < 2 ^ f.mb then r else (q - f.q0) * 2 ^ f.mb + r

/-- Whether a code is exactly the positive value num/den units. -/
def FFmt.exactCode (f : FFmt) (num den : Nat) : Bool :=
  match f.decode (f.floorCode num den) with
  | .fin _ n => n * den == num
  | _ => false

/-- The four sticky exception flags of a task (04 R114). -/
structure Flags where
  sat : Bool := false
  ovf : Bool := false
  nan : Bool := false
  abn : Bool := false
deriving DecidableEq, Repr, Inhabited

/-- Flags accumulate: one set stays set. -/
def Flags.or (a b : Flags) : Flags := ⟨a.sat || b.sat, a.ovf || b.ovf, a.nan || b.nan, a.abn || b.abn⟩

/-- A computed result before conversion: an exact integer, an fp32 value, or a finite overflow with its sign
(04 R152). -/
inductive VRes where
  | int (i : Int) | flt (v : FVal) | overflowed (neg : Bool)
deriving DecidableEq, Repr

/-- Round an exact signed value to fp32 (04 R126, R148, R155). -/
def roundFp32 (neg : Bool) (num den : Nat) : VRes :=
  let f := ElemType.fmt .fp32
  let c := f.roundCode num den
  if c > f.maxCode then .overflowed neg
  else match f.decode c with
    | .fin _ n => .flt (.fin neg n)
    | v => .flt v

/-- Round an exact integer count of units to fp32; an exact zero is +0 (04 R150). -/
def roundInt (x : Int) : VRes := if x = 0 then .flt (.fin false 0) else roundFp32 (decide (x < 0)) x.natAbs 1

/-- The signed count of units of a finite value. -/
def signedUnits (neg : Bool) (n : Nat) : Int := if neg then -(n : Int) else n

/-- Saturate an integer to a range, telling whether it did. -/
def satRange (lo hi x : Int) : Int × Bool := if x < lo then (lo, true) else if x > hi then (hi, true) else (x, false)

/-- Saturate to int32 (04 R147). -/
def satInt32 (x : Int) : Int × Bool := satRange (-2147483648) 2147483647 x

/-- The range of an integer type (04 R146). -/
def ElemType.range : ElemType → Int × Int
  | .int8 => (-128, 127)
  | .int4 => (-8, 7)
  | _ => (-2147483648, 2147483647)

/-- Round a finite value to an integer, to nearest with ties to even (04 R155). -/
def unitsToInt (neg : Bool) (n : Nat) : Int :=
  let d := 2 ^ unitExp
  let r := n / d
  let rem := n % d
  let r' := if 2 * rem > d ∨ (2 * rem = d ∧ r % 2 = 1) then r + 1 else r
  signedUnits neg r'

/-- The code with a format's sign bit. -/
def FFmt.withSign (f : FFmt) (neg : Bool) (c : Nat) : Nat := if neg then c + 2 ^ (f.eb + f.mb) else c

/-- Settle a finite overflow for a floating type (04 Table 4.9). -/
def FFmt.overflow (f : FFmt) (sat neg : Bool) : Nat :=
  if sat then f.withSign neg f.maxCode
  else if f.hasInf then f.withSign neg ((2 ^ f.eb - 1) * 2 ^ f.mb)
  else f.withSign neg f.canonNan

/-- Convert a computed result to a type with Table 4.9: its code and the flags it sets. -/
def convert (t : ElemType) (sat : Bool) (r : VRes) : Nat × Flags :=
  if t.isInt then
    let (lo, hi) := t.range
    let put (x : Int) (ovf : Bool) : Nat × Flags :=
      let (y, s) := satRange lo hi x
      (twos t.bits y, ⟨s, ovf, false, false⟩)
    match r with
    | .int i => put i false
    | .flt .nan => (0, ⟨false, false, true, false⟩)
    | .flt (.inf neg) => put (if neg then lo - 1 else hi + 1) false
    | .flt (.fin neg n) => put (unitsToInt neg n) false
    | .overflowed neg => put (if neg then lo - 1 else hi + 1) true
  else
    let f := t.fmt
    let fin (neg : Bool) (n : Nat) : Nat × Flags :=
      let c := f.roundCode n 1
      if c > f.maxCode then (f.overflow sat neg, ⟨false, true, false, false⟩) else (f.withSign neg c, {})
    match r with
    | .int i => fin (decide (i < 0)) (i.natAbs * 2 ^ unitExp)
    | .flt .nan => (f.canonNan, ⟨false, false, true, false⟩)
    | .flt (.inf neg) =>
        if f.hasInf then (f.withSign neg ((2 ^ f.eb - 1) * 2 ^ f.mb), {})
        else (f.withSign neg f.canonNan, ⟨false, true, false, false⟩)
    | .flt (.fin neg n) => fin neg n
    | .overflowed neg => (f.overflow sat neg, ⟨false, true, false, false⟩)

/-- The integer value of an element code. -/
def elemInt (t : ElemType) (w : Nat) : Int := sext t.bits w

/-- The fp32 value an element is converted to on reading (04 R126): exact but for int32, which rounds. -/
def elemF32 (t : ElemType) (w : Nat) : FVal :=
  match t with
  | .int32 | .int8 | .int4 =>
      match roundInt (elemInt t w * (2 ^ unitExp : Nat)) with
      | .flt v => v
      | _ => .nan
  | _ => t.fmt.decode w

/-- The product of two values, exact: `none` where it is infinity times zero. The unit of the exact product of two
finite values is 2^-600. -/
def mulUnits (an bn : Nat) : Nat := an * bn

/-- A value is an infinity. -/
def FVal.isInf : FVal → Bool
  | .inf _ => true
  | _ => false

/-- A value is a NaN. -/
def FVal.isNan : FVal → Bool
  | .nan => true
  | _ => false

/-- A value is a zero of either sign. -/
def FVal.isZero : FVal → Bool
  | .fin _ 0 => true
  | _ => false

/-- The sign of a value. -/
def FVal.neg : FVal → Bool
  | .nan => false
  | .inf b => b
  | .fin b _ => b

/-- One term of an exact sum: NaN, a signed infinity, or a signed count of units of 2^-600. -/
inductive Term where
  | nan | inf (neg : Bool) | val (x : Int)
deriving DecidableEq, Repr

/-- The exact product of two values as a term (04 R151). -/
def mulTerm (a b : FVal) : Term :=
  match a, b with
  | .nan, _ => .nan
  | _, .nan => .nan
  | .inf s, .inf t => .inf (s != t)
  | .inf s, .fin t n => if n = 0 then .nan else .inf (s != t)
  | .fin s n, .inf t => if n = 0 then .nan else .inf (s != t)
  | .fin s n, .fin t m => .val (signedUnits (s != t) (n * m))

/-- A value as a term. -/
def FVal.term : FVal → Term
  | .nan => .nan
  | .inf s => .inf s
  | .fin s n => .val (signedUnits s (n * 2 ^ unitExp))

/-- The exact sum of terms (04 R151): NaN with a NaN or opposing infinities, else an infinity if any, else the sum. -/
def sumTerms (ts : List Term) : Term :=
  if ts.contains .nan then .nan
  else if ts.contains (.inf false) then (if ts.contains (.inf true) then .nan else .inf false)
  else if ts.contains (.inf true) then .inf true
  else .val (ts.foldl (fun a t => match t with | .val x => a + x | _ => a) 0)

/-- Round a term to fp32 once (04 R148): an exact zero is +0. -/
def Term.round : Term → VRes
  | .nan => .flt .nan
  | .inf s => .flt (.inf s)
  | .val x => if x = 0 then .flt (.fin false 0) else roundFp32 (decide (x < 0)) x.natAbs (2 ^ unitExp)

/-- One floating micro-step (04 R148-R152): accumulator value plus the exact products, rounded once. -/
def fpMicroStep (acc : FVal) (prods : List (FVal × FVal)) : FVal × Flags :=
  match (sumTerms (acc.term :: prods.map (fun p => mulTerm p.1 p.2))).round with
  | .flt .nan => (.nan, ⟨false, false, true, false⟩)
  | .overflowed neg => (.inf neg, ⟨false, true, false, false⟩)
  | .flt v => (v, {})
  | .int _ => (.nan, {})

/-- One integer micro-step (04 R147): the accumulator plus the exact dot product, saturated. -/
def intMicroStep (acc : Int) (prods : List (Int × Int)) : Int × Flags :=
  let (v, s) := satInt32 (prods.foldl (fun a p => a + p.1 * p.2) acc)
  (v, ⟨s, false, false, false⟩)

/-- The fp32 code of a value. -/
def fp32Code (v : FVal) : Nat := (convert .fp32 false (.flt v)).1

/-- The order of MAX, MIN, RELU and RMAX on non-NaN values, with -0 below +0 (04 R130): `a` is below `b`. -/
def FVal.below (a b : FVal) : Bool :=
  match a, b with
  | .inf true, .inf true => false
  | .inf true, _ => true
  | _, .inf true => false
  | .inf false, _ => false
  | _, .inf false => true
  | .fin s n, .fin t m =>
      if s && !t then true
      else if !s && t then false
      else if s then decide (m < n)
      else decide (n < m)
  | _, _ => false

/-- The greater of two values. -/
def FVal.max (a b : FVal) : FVal := if a.below b then b else a
/-- The lesser of two values. -/
def FVal.min (a b : FVal) : FVal := if b.below a then b else a

/-- The code of a value, rounded to the format to nearest with ties to even; beyond the finite range it is an infinity
(14 R553). -/
def FFmt.encode (f : FFmt) : FVal → Nat
  | .nan => f.canonNan
  | .inf neg => f.withSign neg ((2 ^ f.eb - 1) * 2 ^ f.mb)
  | .fin neg n =>
      let c := f.roundCode n 1
      if c > f.maxCode then f.withSign neg ((2 ^ f.eb - 1) * 2 ^ f.mb) else f.withSign neg c

/-- The exact sum of two values as IEEE 754 adds them (14 R553): opposing infinities and NaNs give NaN, two negative zeros
-0, any other exact zero +0. -/
def FVal.plus (a b : FVal) : FVal :=
  match a, b with
  | .nan, _ => .nan
  | _, .nan => .nan
  | .inf s, .inf t => if s = t then .inf s else .nan
  | .inf s, _ => .inf s
  | _, .inf t => .inf t
  | .fin s n, .fin t m =>
      let x := signedUnits s n + signedUnits t m
      if x = 0 then .fin (s && t) 0 else .fin (decide (x < 0)) x.natAbs

/-- An element of a floating collective (14 R553): 0 SUM, 1 MAX, 2 MIN; any NaN operand gives the canonical NaN. -/
def FFmt.collOp (f : FFmt) (op a b : Nat) : Nat :=
  let x := f.decode a
  let y := f.decode b
  if x.isNan || y.isNan then f.canonNan
  else match op with
    | 0 => f.encode (x.plus y)
    | 1 => f.encode (x.max y)
    | _ => f.encode (x.min y)

/-- The floor of the square root, bit by bit from 2^k downward. -/
def isqrtGo (n : Nat) : Nat → Nat → Nat
  | 0, r => r
  | k + 1, r =>
    let c := r + 2 ^ k
    isqrtGo n k (if c * c ≤ n then c else r)

/-- The floor of the square root of a number below 2^1400. -/
def isqrt (n : Nat) : Nat := isqrtGo n 700 0

/-- One of the fp32 codes within the bound of 04 R130, chosen by the free value: `lo` to `hi`, kept finite. -/
def pickCode (fn : Nat) (operand : Nat) (lo hi : Nat) : Nat :=
  let hi' := Nat.min hi (ElemType.fmt .fp32).maxCode
  let lo' := Nat.min lo hi'
  lo' + Config.vecPick fn (BitVec.ofNat 32 operand) % (hi' + 1 - lo')

/-- The fp32 value of a code with a sign. -/
def codeVal (neg : Bool) (c : Nat) : VRes :=
  match (ElemType.fmt .fp32).decode c with
  | .fin _ n => .flt (.fin neg n)
  | v => .flt v

/-- RECIP (04 R130): within one unit in the last place of 1/A. -/
def recipF (a : FVal) : VRes :=
  let f := ElemType.fmt .fp32
  match a with
  | .nan => .flt .nan
  | .inf s => .flt (.fin s 0)
  | .fin s 0 => .flt (.inf s)
  | .fin s n =>
      let num := 2 ^ (2 * unitExp)
      if f.roundCode num n > f.maxCode then .overflowed s
      else
        let c := f.floorCode num n
        let one := if f.exactCode num n then 1 else 0
        codeVal s (pickCode 2 (fp32Code a) (c - one) (c + 1))

/-- RSQRT (04 R130): within one unit in the last place of 1/√A. -/
def rsqrtF (a : FVal) : VRes :=
  let f := ElemType.fmt .fp32
  match a with
  | .nan => .flt .nan
  | .inf false => .flt (.fin false 0)
  | .inf true => .flt .nan
  | .fin s 0 => .flt (.inf s)
  | .fin true _ => .flt .nan
  | .fin false n =>
      let sq := 2 ^ (3 * unitExp) / n
      let r := isqrt sq
      let c := f.floorCode r 1
      let one := if decide (r * r * n = 2 ^ (3 * unitExp)) && f.exactCode r 1 then 1 else 0
      codeVal false (pickCode 1 (fp32Code a) (c - one) (c + 1))

/-- 2^(2^-i) for i = 1, 2, …, rounded down, in units of 2^-96. -/
def exp2Table : List Nat :=
  [0x16a09e667f3bcc908b2fb1366, 0x1306fe0a31b7152de8d5a4630, 0x1172b83c7d517adcdf7c8c50e, 0x10b5586cf9890f6298b92b718,
   0x1059b0d31585743ae7c548eb6, 0x102c9a3e778060ee6f7caca4f, 0x10163da9fb33356d84a66ae33, 0x100b1afa5abcbed6129ab13ec,
   0x10058c86da1c09ea1ff19d294, 0x1002c605e2e8cec506d21bfc8, 0x100162f3904051fa128bca9c5, 0x1000b175effdc76ba38e31671,
   0x100058ba01fb9f96d6cacd4b1, 0x10002c5cc37da9491d0985c34, 0x1000162e525ee054754457d59, 0x10000b17255775c040618bf4a,
   0x1000058b91b5bc9ae2eed81e9, 0x100002c5c89d5ec6ca4d7c8ac, 0x10000162e43f4f831060e02d8, 0x100000b1721bcfc99d9f890ea,
   0x10000058b90cf1e6d97f9ca14, 0x1000002c5c863b73f016468f6, 0x100000162e430e5a18f6119e3, 0x1000000b1721835514b86e6d9,
   0x100000058b90c0b48c6be5df8, 0x10000002c5c8601cc6b9e9421, 0x1000000162e42fff037df38aa, 0x10000000b17217fba9c739aa5,
   0x1000000058b90bfcdee5acd3c, 0x100000002c5c85fe31f35a6a3, 0x10000000162e42ff0999ce354, 0x100000000b17217f80f4ef5aa,
   0x10000000058b90bfbf8479bd5, 0x1000000002c5c85fdf84bd62a, 0x100000000162e42fefb2fed25, 0x1000000000b17217f7d5a7716,
   0x100000000058b90bfbe9ddbac, 0x10000000002c5c85fdf4b15de, 0x1000000000162e42fefa494f1, 0x10000000000b17217f7d20cf9]

/-- Multiply the factors of the set bits of a fraction of 40 bits, most significant first, rounding down. -/
def exp2Frac (frac : Nat) : Nat → List Nat → Nat → Nat
  | _, [], p => p
  | i, c :: cs, p => exp2Frac frac (i + 1) cs (if bitAt frac (39 - i) then p * c / 2 ^ 96 else p)

/-- A lower bound of 2^x in units of 2^-300, for x = `i` + `frac`/2^40 with -320 ≤ i ≤ 128; the exact power lies at
most one part in 2^39 above it. -/
def exp2Low (i : Int) (frac : Nat) : Nat :=
  let p := exp2Frac frac 0 exp2Table (2 ^ 96)
  let e := i + (unitExp : Int) - 96
  if e ≥ 0 then p * 2 ^ e.toNat else p / 2 ^ (-e).toNat

/-- EXP2 (04 R130): within two units in the last place of 2^A. -/
def exp2F (a : FVal) : VRes :=
  let f := ElemType.fmt .fp32
  match a with
  | .nan => .flt .nan
  | .inf false => .flt (.inf false)
  | .inf true => .flt (.fin false 0)
  | .fin s n =>
      let x := signedUnits s n
      let one : Int := (2 ^ unitExp : Nat)
      let i := x / one
      let fr := (x % one).toNat
      if i ≥ 128 then .overflowed false
      else if i < -160 then codeVal false (pickCode 0 (fp32Code a) 0 2)
      else
        let lo := exp2Low i (fr / 2 ^ (unitExp - 40))
        let c := f.floorCode lo 1
        if fr = 0 then codeVal false (pickCode 0 (fp32Code a) (c - 2) (c + 2))
        else codeVal false (pickCode 0 (fp32Code a) (c - 1) (f.floorCode (lo + lo / 2 ^ 39) 1 + 2))

end Sys2Proof
end

