-- ==== Sys2Proof/Machine/EngineIsa.lean ====
section
/-! DEFINITION. The decoder of the engine's 128-bit instruction word (04 Tables 4.1-4.7) and the shapes of its forms
(03 Table 3.2). -/
namespace Sys2Proof

/-- The stationary depth D of a form, in slots (Table 3.2). -/
def Form.depth : Form → Nat
  | .square => 32 | .twoWay => 16 | .fourWay => 8 | .wideShallow => 4

/-- The sub-lanes of a form (Table 3.2). -/
def Form.sublanes : Form → Nat
  | .square => 128 | .twoWay => 256 | .fourWay => 512 | .wideShallow => 1024

/-- The accumulator rows per half, Mmax (Table 3.2). -/
def Form.mmax : Form → Nat
  | .square => 128 | .twoWay => 64 | .fourWay => 32 | .wideShallow => 16

/-- Whether a form permits scratch accumulation (Table 3.2). -/
def Form.scratchAcc : Form → Bool
  | .square | .twoWay => true
  | _ => false

/-- The form of a code (Table 4.3). -/
def Form.ofCode : Nat → Form
  | 0 => .square | 1 => .twoWay | 2 => .fourWay | _ => .wideShallow

/-- The element type of a code (Table 4.2). -/
def ElemType.ofCode : Nat → ElemType
  | 0 => .int8 | 1 => .int4 | 2 => .e4m3 | 3 => .e5m2 | 4 => .bf16 | 5 => .f16 | 6 => .int32 | _ => .fp32

/-- The vector function of a code (Table 4.5); 0xF is reserved. -/
def VecFunc.ofCode : Nat → Option VecFunc
  | 0 => some .add | 1 => some .mul | 2 => some .max | 3 => some .min | 4 => some .scale | 5 => some .bias
  | 6 => some .axpy | 7 => some .relu | 8 => some .exp2 | 9 => some .rsqrt | 10 => some .recip | 11 => some .rsum
  | 12 => some .rmax | 13 => some .cvt | 14 => some .lut | _ => none

/-- Whether a vector function reads no B (04 R126). -/
def VecFunc.unary : VecFunc → Bool
  | .relu | .exp2 | .rsqrt | .recip | .rsum | .rmax => true
  | _ => false

/-- A scratch operand field at a bit position (04 R116). -/
def operandAt (w lo : Nat) : Operand := ⟨bitsOf w (lo + 19) (lo + 16), bitsOf w (lo + 15) lo⟩

/-- The fields of MM and MMA (Table 4.3). -/
def matFields (w : Nat) : MatFields :=
  { form := .ofCode (bitsOf w 9 8), dtype := .ofCode (bitsOf w 12 10), reuse := bitAt w 13, half := bitAt w 14,
    sacc := bitAt w 15, tra := bitAt w 16, trb := bitAt w 17, rela := bitAt w 18, relb := bitAt w 19,
    exact := bitAt w 20, a := operandAt w 24, b := operandAt w 44, c := operandAt w 64,
    m := bitsOf w 96 84 + 1, k := 4 * (bitsOf w 108 97 + 1), w := bitsOf w 118 109 + 1 }

/-- The first group of decode checks of a matrix instruction (04 R113): types, ranges, form and mode combinations. -/
def MatFields.valid (f : MatFields) : Bool :=
  f.dtype != .int32 && f.dtype != .fp32 && decide (f.w ≤ f.form.sublanes) && decide (f.k % f.form.depth = 0)
    && (!f.sacc || f.form.scratchAcc) && !((f.tra || f.trb) && f.dtype == .int4)
    && !(f.trb && (f.form == .fourWay || f.form == .wideShallow))

/-- The fields of VEC (Table 4.4). -/
def vecFields (func : VecFunc) (w : Nat) : VecFields :=
  { func := func, ity := .ofCode (bitsOf w 14 12), oty := .ofCode (bitsOf w 17 15), rela := bitAt w 18,
    relb := bitAt w 19, sat := bitAt w 20, a := operandAt w 24, b := operandAt w 44, d := operandAt w 64,
    rows := bitsOf w 96 84 + 1, len := 16 * (bitsOf w 108 97 + 1), bty := .ofCode (bitsOf w 111 109),
    imm := BitVec.ofNat 16 (bitsOf w 127 112) }

/-- The first group of decode checks of VEC (04 R126). -/
def VecFields.valid (f : VecFields) : Bool :=
  f.ity != .int4 && f.bty != .int4 && (f.oty != .int4 || f.func == .cvt)
    && (!(f.func.unary || f.func == .cvt) || f.bty == f.ity)
    && (f.func != .lut || (f.ity == .int8 && f.bty == .int8 && f.oty == .int8))

/-- The fields of LOOP (Table 4.6). -/
def loopFields (w : Nat) : LoopFields :=
  { firstInit := bitAt w 8, body := bitsOf w 25 16, cnt := bitsOf w 47 32 + 1, stra := sext 16 (bitsOf w 63 48),
    strb := sext 16 (bitsOf w 79 64), strc := sext 16 (bitsOf w 95 80) }

/-- The instruction of a 128-bit word, or `bad` where it fails a check of the first group (04 R113, R115). -/
def decodeEngine (word : BitVec 128) : EInstr :=
  let w := word.toNat
  match bitsOf w 7 0 with
  | 0x00 => if bitsOf w 127 8 = 0 then .fin else .bad
  | 0x02 => if bitsOf w 127 8 = 0 then .nop else .bad
  | 0x01 =>
      let f := loopFields w
      if bitsOf w 15 9 = 0 ∧ bitsOf w 31 26 = 0 ∧ bitsOf w 127 96 = 0 ∧ f.body ≠ 0 then .loop f else .bad
  | 0x10 =>
      let f := matFields w
      if bitsOf w 23 21 = 0 ∧ bitsOf w 127 119 = 0 ∧ f.valid = true then .mat false f else .bad
  | 0x11 =>
      let f := matFields w
      if bitsOf w 23 21 = 0 ∧ bitsOf w 127 119 = 0 ∧ f.valid = true then .mat true f else .bad
  | 0x20 =>
      match VecFunc.ofCode (bitsOf w 11 8) with
      | none => .bad
      | some fn =>
          let f := vecFields fn w
          if bitsOf w 23 21 = 0 ∧ f.valid = true then .vec f else .bad
  | 0x30 =>
      if bitsOf w 15 14 = 0 ∧ bitsOf w 127 32 = 0 ∧ bitsOf w 31 16 ≠ 0 then .fsig (bitsOf w 13 8) (bitsOf w 31 16) else .bad
  | 0x31 =>
      if bitsOf w 15 14 = 0 ∧ bitsOf w 127 32 = 0 ∧ bitsOf w 31 16 ≠ 0 then .fwait (bitsOf w 13 8) (bitsOf w 31 16) else .bad
  | 0x38 => if bitsOf w 127 17 = 0 then .semacq (bitsOf w 15 8) (bitAt w 16) else .bad
  | 0x39 => if bitsOf w 127 16 = 0 then .semrel (bitsOf w 15 8) else .bad
  | 0x3A =>
      if bitsOf w 127 10 = 0 then
        match bitsOf w 9 8 with
        | 0 => .fence .acquire
        | 1 => .fence .release
        | 2 => .fence .sc
        | _ => .bad
      else .bad
  | _ => .bad

/-- Whether an instruction consults the issue gate (Table 4.1). -/
def EInstr.gated : EInstr → Bool
  | .mat _ _ | .vec _ => true
  | _ => false

end Sys2Proof
end

