-- ==== Sys2Proof/Machine/StateCompute.lean ====
section
/-! DEFINITION. The state of the islands, the matrix engines, scratch, approximation and power (chapters 02-05, 17). -/
namespace Sys2Proof.Machine
open Sys2Proof

/-- One clock island (02 R36-R41): its target in MHz, its sag reports, and the target in force while a sag stage defers a write (17
R669). -/
structure Island where
  target : Nat := 1600
  sags : U32 := 0
  deferred : Option Nat := none
deriving DecidableEq, Repr, Inhabited

/-- One handshake channel (02 R42-R47): entries sent and received, modulo 2^32, the entries inside. -/
structure Chan where
  sent : U32 := 0
  recvd : U32 := 0
  fifo : List Nat := []
deriving DecidableEq, Repr, Inhabited

/-- The backing kinds of 08 R269: LOCAL, HOST, or FABRIC with the die that holds the memory. -/
inductive Backing where
  | loc | host | fabric (die : Nat)
deriving DecidableEq, Repr, Inhabited

/-- One translated extent (08 R290): a run of DVA bytes and where it lies. -/
structure Extent where
  dva : Nat := 0
  len : Nat := 0
  back : Backing := .loc
  addr : Nat := 0
  nocache : Bool := false
  write : Bool := false
deriving DecidableEq, Repr, Inhabited

/-- A reader's hold on a granule (03 R82). -/
structure Hold where
  slice : Nat
  gran : Nat
  rel : Bool
deriving DecidableEq, Repr, Inhabited

/-- A writer's claim on a granule, with the state it returns to if the writer is stopped (03 R81, R835). -/
structure Claim where
  slice : Nat
  gran : Nat
  prev : Presence
deriving DecidableEq, Repr, Inhabited

/-- A presence granule (03 Table 3.4). -/
structure Gran where
  st : Presence := .empty
  readers : Nat := 0
deriving DecidableEq, Repr, Inhabited

/-- A scratch slice (03 R80; 07): its bytes, granules, uncorrectable words, power and service state (20 R740-R752). `left` is the
model's own: how many unfinished granules stopped writers have left in it, for the free values of R835. -/
structure Slice where
  bytes : Tab Byte := []
  gran : Tab Gran := []
  bad : List Nat := []
  powered : Bool := false
  withdrawn : Bool := false
  retired : Bool := false
  tag : Option Nat := none
  sparesUsed : Nat := 0
  mapped : List Nat := []
  left : Nat := 0
deriving DecidableEq, Repr, Inhabited

/-- One level of a hardware loop (04 R131-R135). -/
structure LoopFrame where
  f : LoopFields := {}
  first : Nat := 0
  iter : Nat := 0
deriving DecidableEq, Repr, Inhabited

/-- An instruction that has passed the gate: its effective byte offsets, its holds and claims, and whether an MMA runs
as MM (04 R135). -/
structure Issued where
  instr : EInstr := .nop
  slA : Nat := 0
  offA : Nat := 0
  slB : Nat := 0
  offB : Nat := 0
  slC : Nat := 0
  offC : Nat := 0
  asMm : Bool := false
  holds : List Hold := []
  claims : List Claim := []
deriving DecidableEq, Repr, Inhabited

/-- The drain of an accumulator half (03 R74). -/
structure Drain where
  slice : Nat := 0
  off : Nat := 0
  m : Nat := 0
  w : Nat := 0
  claims : List Claim := []
deriving DecidableEq, Repr, Inhabited

/-- An accumulator half (03 R70, R73): values at row × 1,024 + column. -/
structure Half where
  form : Option Form := none
  vals : Tab U32 := []
  drain : Option Drain := none
deriving DecidableEq, Repr, Inhabited

/-- A stationary block held by an engine (03 R66-R69): its form and its bytes, slot row by slot row. -/
structure Block where
  form : Form := .square
  bytes : List Byte := []
deriving DecidableEq, Repr, Inhabited

/-- What a task waits for besides the gate. -/
inductive TaskWait where
  | none | flag | sem | fence
deriving DecidableEq, Repr, Inhabited

/-- A task on an engine (04 R111-R114): the command item it belongs to, its program, place, loops and flags. -/
structure Task where
  queue : Nat := 0
  cmd : Nat := 0
  item : Nat := 0
  parcel : Nat := 0
  job : Nat := 0
  prog : List Extent := []
  start : Nat := 0
  progLen : Nat := 0
  pc : Nat := 0
  level : Nat := 0
  loops : List LoopFrame := []
  flags : Flags := {}
  issued : Option Issued := none
  started : Bool := false
  voltWait : Bool := false
  wait : TaskWait := .none
  snapshot : List Byte := []
  killed : Option Cause := none
deriving DecidableEq, Repr, Inhabited

/-- A profile of an approximation level (05 Table 5.1). -/
structure AlProfile where
  int8T : Nat := 0
  int4T : Nat := 0
  fpExp : Option Int := none
  margin : Nat := 0
  limit : Nat := 16
deriving DecidableEq, Repr, Inhabited

/-- A matrix engine with its island's approximation state (chapters 03-05, 17). -/
structure Engine where
  powered : Bool := false
  retired : Bool := false
  withdrawn : Bool := false
  failedLanes : List Nat := []
  simmerEnable : Bool := true
  gap : Nat := 128
  density : Nat := 0
  block : Option Block := none
  half0 : Half := {}
  half1 : Half := {}
  inbox : List Task := []
  task : Option Task := none
  reserved : List Hold := []
  stopReq : Bool := false
  stopped : Bool := false
  shed : Bool := false
  halted : Bool := false
  winReplays : Nat := 0
  replays : U64 := 0
  stepUps : U32 := 0
  profile : AlProfile := {}
  level : Nat := 0
  offset : Nat := 0
  runCount : Nat := 0
  ceil : Nat := 0
  triple : Nat := 0
  stepPending : Bool := false
  tripled : Bool := false
  volt : Nat := 0
  freq : Nat := 0
  cyc : Nat := 0
  dispatchedAt : Nat := 0
deriving DecidableEq, Repr, Inhabited

/-- The approximation entries (05 R158-R174). -/
structure Approx where
  profiles : Tab AlProfile := []
  cap : Tab Nat := []
  stepdownWindows : Nat := 16
deriving DecidableEq, Repr, Inhabited

/-- A power domain's record (17 Table 17.7, PD_STATE). -/
inductive DomainState where
  | off | on | retention
deriving DecidableEq, Repr, Inhabited

/-- One power domain (17 R637, R671): its state as the last governor tick or wake saw it, its counts, and its energy count as it stood
at the last multiple of 100 ms (R673). -/
structure Domain where
  st : DomainState := .off
  wakes : U32 := 0
  onNs : U64 := 0
  energy : U64 := 0
  energy100 : U64 := 0
deriving DecidableEq, Repr, Inhabited

/-- The power states of 17 Table 17.3. -/
inductive PowerState where
  | kettleOnly | idle | active | boost | entering
deriving DecidableEq, Repr, Inhabited

/-- A sag stage's threshold and dwell (17 R659). -/
structure SagThresh where
  thresh : Nat := 0
  dwell : Nat := 0
deriving DecidableEq, Repr, Inhabited

/-- The governor, the sag responder and the energy meters (chapter 17). -/
structure Power where
  domains : Tab Domain := []
  state : PowerState := .idle
  budget : Nat := 38000
  boostEnable : Bool := false
  engineOffUs : Nat := 100
  capMhz : Nat := 1600
  avgMw : Nat := 0
  tjMax : Int := 25
  sagStage : Nat := 0
  thresh : Tab SagThresh := []
  pinStage : Nat := 4
  portKeep : Nat := 0
  sagCount : Tab U32 := []
  sagPin : Bool := false
  exitAt : Nat := 0
  slowed : List Nat := []
  railEn : Nat := 0
  wakeOut : Bool := false
  alert : Bool := false
  heldWake : Bool := false
  heldHostWake : Bool := false
  resumeImage : Bool := false
  resumeArea : Option Nat := none
  vreq : Nat := 0
deriving DecidableEq, Repr, Inhabited

end Sys2Proof.Machine
end

