-- ==== Sys2Proof/Machine/StateHost.lean ====
section
/-! DEFINITION. The state of memory, coherence, translation, semaphores, queues, parcels and jobs (chapters 07-11). -/
namespace Sys2Proof.Machine
open Sys2Proof

/-- A coherent agent (07 Table 7.2): host agent, descriptor cache or the node cache. -/
inductive Agent where
  | host (h : Nat) | desc (d : Nat) | node
deriving DecidableEq, Repr, Inhabited

/-- The request kinds the directory serves: the agents' messages and the device's own home writes and reads
(07 R249-R250). -/
inductive DirReq where
  | rdS | rdO | upg | homeWrite | homeRead | backInval
deriving DecidableEq, Repr, Inhabited

/-- The transaction in service for a line (07 R253): what was asked by whom, the snoops not yet answered, and whether
the grant has been sent. -/
structure DirTxn where
  req : DirReq := .rdS
  agent : Option Agent := none
  asked : DirReq := .rdS
  awaiting : List Agent := []
  granted : Bool := false
deriving DecidableEq, Repr, Inhabited

/-- The directory's record of a line (07 R251). -/
inductive LineState where
  | uncached | shared (holders : List Agent) | owned (h : Nat)
deriving DecidableEq, Repr, Inhabited

/-- A tracked line: its state, the transaction in service and the requests waiting behind it, in order. -/
structure DirLine where
  st : LineState := .uncached
  txn : Option DirTxn := none
  queue : List (DirReq × Agent) := []
deriving DecidableEq, Repr, Inhabited

/-- A line held in a Device Cache way (07 R235): its tag, its owner and the DVA it was allocated for. Its data is the home's. -/
structure DcLine where
  valid : Bool := false
  tag : Nat := 0
  dirty : Bool := false
  owner : Nat := 8
  dva : Nat := 0
deriving DecidableEq, Repr, Inhabited

/-- The states MC_STATE reports (07 R248). -/
inductive McState where
  | off | running | retired
deriving DecidableEq, Repr, Inhabited

/-- One memory controller (07 R243-R248, R264). -/
structure Mc where
  st : McState := .off
  devices : Bool := false
  gib : Nat := 0
  rateLimit : Nat := 9600
  rate : Nat := 0
  eccMode : Nat := 1
  eccInForce : Nat := 1
  shares : List Nat := [16, 16, 16, 16, 16, 16, 16, 16, 16]
  uncorr : Nat := 0
deriving DecidableEq, Repr, Inhabited

/-- One ECC_COUNTS record (07 R266). -/
structure EccCount where
  dataCorr : U32 := 0
  checkCorr : U32 := 0
  uncorr : U32 := 0
  refetch : U32 := 0
deriving DecidableEq, Repr, Inhabited

/-- Memory, the Device Cache, the directory and the controllers (chapter 07). The bytes of LOCAL memory are kept at
their physical addresses, those of HOST memory at their host addresses. -/
structure MemSys where
  loc : Tab Byte := []
  host : Tab Byte := []
  badLoc : List Nat := []
  dc : Tab DcLine := []
  plru : Tab Nat := []
  hostWays : Nat := 0
  retiredWays : Nat := 0
  dir : Tab DirLine := []
  mc : Tab Mc := []
  ecc : Tab EccCount := []
  sramPatrolMs : Nat := 100
  mcPatrolHours : Nat := 24
deriving DecidableEq, Repr, Inhabited

/-- A parcel's translation configuration (08 Table 8.2). -/
structure XlatConfig where
  mode : Nat := 0
  tableKind : Nat := 0
  count : Nat := 0
  base : Nat := 0
  apBase : Nat := 0
  apLen : Nat := 0
  apOff : U64 := 0
deriving DecidableEq, Repr, Inhabited

/-- A cached range entry or leaf entry (08 R293): the DVA run it covers, its backing and its permissions. -/
structure XlatEntry where
  start : Nat := 0
  len : Nat := 0
  kind : Nat := 0
  base : Nat := 0
  r : Bool := false
  w : Bool := false
  x : Bool := false
  remote : Bool := false
  nocache : Bool := false
  index : Nat := 0
deriving DecidableEq, Repr, Inhabited

/-- A fault record (08 Table 8.6). -/
structure FaultRec where
  seq : Nat := 0
  dva : Nat := 0
  time : Nat := 0
  queue : Nat := 0xFFFF
  parcel : Nat := 0
  cause : Cause := .none
  access : Nat := 0
  region : Nat := 0
deriving DecidableEq, Repr, Inhabited

/-- A fault that holds a descriptor at the head of its queue (08 R298): a descriptor as read, or a consumed command's serial. -/
structure Parked where
  queue : Nat := 0
  seq : Nat := 0
  dva : Nat := 0
  len : Nat := 0
  consumed : Option Nat := none
  cause : Cause := .none
  region : Nat := 0xFF
  bytes : List Byte := []
deriving DecidableEq, Repr, Inhabited

/-- A shootdown in progress (08 R306-R308); one started by XLAT_CONFIG carries no tag (R278). -/
structure Shoot where
  parcel : Nat := 0
  tag : Option U32 := none
  start : Nat := 0
  len : Nat := 0
deriving DecidableEq, Repr, Inhabited

/-- XLAT_STATS of a parcel. -/
structure XlatStats where
  hits : U64 := 0
  misses : U64 := 0
  faults : U32 := 0
deriving DecidableEq, Repr, Inhabited

/-- The kinds of advice a range can hold (08 R323). -/
inductive Advice where
  | normal | stream | keep
deriving DecidableEq, Repr, Inhabited

/-- An advice range (08 R324). -/
structure AdviceRange where
  kind : Advice := .normal
  start : Nat := 0
  len : Nat := 0
deriving DecidableEq, Repr, Inhabited

/-- The translation and DMA unit (chapter 08). -/
structure Xlat where
  cfg : Tab XlatConfig := []
  cache : Tab (List XlatEntry) := []
  stats : Tab XlatStats := []
  advice : Tab (List AdviceRange) := []
  ringBase : Nat := 0
  ringKind : Nat := 0
  ringLog2 : Nat := 0
  ringTail : U32 := 0
  ringHead : U32 := 0
  nextSeq : Nat := 1
  held : List FaultRec := []
  parked : List Parked := []
  shoots : List Shoot := []
  shootDone : U32 := 0
  casAvailable : Bool := true
deriving DecidableEq, Repr, Inhabited

/-- The identity of a semaphore's owner (09 Table 9.6). -/
inductive SemOwner where
  | engine (n : Nat) | queue (q : Nat) | die (d q : Nat)
deriving DecidableEq, Repr, Inhabited

/-- The states of Table 9.5. -/
inductive SemState where
  | free | held | abandoned
deriving DecidableEq, Repr, Inhabited

/-- An acquire that waits (09 R347): whether it accepts ACQUIRED_ABANDONED, and for a remote one its tag. -/
structure SemWaiter where
  owner : SemOwner
  abnOk : Bool
  tag : Nat := 0
deriving DecidableEq, Repr

/-- A hardware semaphore (09 R346, R355). -/
structure Sem where
  st : SemState := .free
  owner : Option SemOwner := none
  waiters : List SemWaiter := []
  abandons : U32 := 0
deriving DecidableEq, Repr, Inhabited

/-- The states of a queue (10 Table 10.2). -/
inductive QState where
  | closed | opened | parked | faulted
deriving DecidableEq, Repr, Inhabited

/-- What has become of an item of a command (10 R383-R386). -/
inductive ItemSt where
  | idle | waiting | running (engine : Nat) | done (s : Status) (c : Cause) | skipped
deriving DecidableEq, Repr, Inhabited

/-- A row of a caddy work list (12 Table 12.4). -/
structure WlRow where
  entry : Nat := 0
  kind : Nat := 0
  pos : Nat := 0
  token : Nat := 0
  firstRow : Nat := 0
deriving DecidableEq, Repr, Inhabited

/-- A consumed command (10 R381): its descriptor bytes, its pretranslation record by region, and its progress; for a MIGRATE the
entry in progress and its word 0 as read (08 R318). -/
structure Cmd where
  serial : Nat := 0
  index : Nat := 0
  bytes : List Byte := []
  record : List (Nat × List Extent) := []
  refusal : Option (Status × Cause) := none
  detail : Nat := 0xFF
  faultSeq : Nat := 0
  retrans : Bool := false
  started : Bool := false
  items : List ItemSt := []
  flags : Flags := {}
  watchdogAt : Nat := 0
  watchdogPaused : Nat := 0
  stopped : Option Cause := none
  claims : List (Nat × List Claim) := []
  gen : Option Nat := none
  mig : Option (Nat × Nat × Nat) := none
  rows : List WlRow := []
  stamped : Bool := false
  resultsDone : Bool := false
deriving DecidableEq, Repr, Inhabited

/-- A user queue (10 Table 10.1). -/
structure Queue where
  descBase : Nat := 0
  cplBase : Nat := 0
  descLog2 : Nat := 0
  cplLog2 : Nat := 0
  vector : Nat := 0
  watchdogUs : Nat := 0
  st : QState := .closed
  descHead : U32 := 0
  tail : U32 := 0
  cplHead : U32 := 0
  cplTail : U32 := 0
  stale : U32 := 0
  descRing : List Extent := []
  cplRing : List Extent := []
  consumed : List Cmd := []
  heldCpl : Bool := false
  closing : Bool := false
deriving DecidableEq, Repr, Inhabited

/-- A write burst of a host master that has been accepted and not yet received whole (10 R396). -/
structure Burst where
  agent : Nat := 0
  addr : Nat := 0
  beats : Nat := 0
  received : Nat := 0
deriving DecidableEq, Repr, Inhabited

/-- A read whose data has not yet been sent to its master (10 R396). -/
structure PendingRead where
  agent : Nat := 0
  tag : Nat := 0
  addr : Nat := 0
  len : Nat := 0
deriving DecidableEq, Repr, Inhabited

/-- The host attach (10 R394-R397): bursts in progress, and reads waiting for their data. -/
structure HostLink where
  bursts : List Burst := []
  reads : List PendingRead := []
  faultVector : Nat := 0xFFFF
deriving DecidableEq, Repr, Inhabited

/-- The states of a job (11 Table 11.6). -/
inductive JobSt where
  | ended | waiting | ready | holding | switching | suspended | faulted
deriving DecidableEq, Repr, Inhabited

/-- A resident entry of a job image (11 Table 11.5). -/
structure Resident where
  kind : Nat := 0
  scr : Operand := {}
  src : Nat := 0
  dst : Nat := 0
  len : Nat := 0
deriving DecidableEq, Repr, Inhabited

/-- A metered job's record (11 Table 11.10). -/
structure Acct where
  engineNs : U64 := 0
  bytesMc : List U64 := [0, 0, 0, 0]
  bytesSp : List U64 := [0, 0, 0, 0, 0, 0, 0, 0]
  energyUj : U64 := 0
  commands : U64 := 0
deriving DecidableEq, Repr, Inhabited

/-- A job (11 R402-R408). -/
structure Job where
  id : U32 := 0
  st : JobSt := .ended
  switches : U32 := 0
  lastSaved : U16 := 0
  cfg : XlatConfig := {}
  image : Nat := 0
  imageBytes : Nat := 0
  liveBudget : Nat := 0
  residents : List Resident := []
  forestOff : Nat := 0
  save : Nat := 0
  saved : Bool := false
  suspendReq : Bool := false
  ending : Bool := false
  qFirst : Nat := 0
  qCount : Nat := 0
  acct : Acct := {}
deriving DecidableEq, Repr, Inhabited

/-- A switch of a parcel in progress (11 Table 11.8): the incoming job's slot, 16 for none; whether the outgoing job is being
saved; how many resident entries have been infused; and whether step 7 is over (15 R575). -/
structure Switch where
  incoming : Nat := 16
  saving : Bool := false
  entry : Nat := 0
  done : Bool := false
deriving DecidableEq, Repr, Inhabited

/-- A parcel slot: its plat entries (11 Table 11.1), flags, slice and counts. -/
structure Parcel where
  active : Bool := false
  sealed : Bool := false
  tally : Bool := false
  floor : Nat := 0
  engines : Nat := 0
  slices : Nat := 0
  dcWays : Nat := 0
  controllers : Nat := 0
  qFirst : Nat := 0
  qCount : Nat := 0
  linkShare : Nat := 0
  sems : Nat := 0
  fabricId : Nat := 0
  leadDie : Nat := 0
  dies : Nat := 1
  flags : Tab Nat := []
  flagWaits : List (Nat × Nat) := []
  firstFree : List (Nat × Nat × Nat) := []
  holder : Option Nat := none
  quantumMs : Nat := 50
  graceMs : Nat := 5
  sliceEnd : Option Nat := none
  expired : Option Nat := none
  graceOver : Bool := false
  ordered : Option Nat := none
  switch : Option Switch := none
  created : U32 := 0
  ended : U32 := 0
  faulted : U32 := 0
  sealCount : U64 := 0
  sealKey : Option Nat := none
  sealRing : Nat := 0
  sealLog2 : Nat := 0
  sealOffered : Bool := false
deriving DecidableEq, Repr, Inhabited

/-- A result-bearing record (09 R364): none while not ready, else its bytes. -/
structure ResultRec where
  ready : Bool := false
  bytes : List Byte := []
deriving DecidableEq, Repr, Inhabited

end Sys2Proof.Machine
end

