-- ==== Sys2Proof/Machine/StateUnits.lean ====
section
/-! DEFINITION. The state of the tree engine and the caddy (chapters 06 and 12). -/
namespace Sys2Proof.Machine
open Sys2Proof

/-- A feature's code (06 R191-R196): 16 bits and the missing bit. -/
structure Code where
  v : Nat := 0
  missing : Bool := true
deriving DecidableEq, Repr, Inhabited

/-- A sample in the code buffer (06 R209-R210): its number in the command, codes by feature index, partial sums (fp32
bits), flag byte, tree and node. -/
structure TeSample where
  n : Nat := 0
  codes : Tab Code := []
  sums : List Nat := []
  flags : Nat := 0
  tree : Nat := 0
  node : Nat := 0
deriving DecidableEq, Repr, Inhabited

/-- A TREE_RUN in progress (06 R216-R217): its command, its buffers, the samples still to admit and in flight. -/
structure TeRun where
  queue : Nat := 0
  cmd : Nat := 0
  b : Nat := 0
  next : Nat := 0
  done : Nat := 0
  ins : Nat := 0
  outs : Nat := 0
  flags : Nat := 0
  inExts : List Extent := []
  outExts : List Extent := []
  flagExts : List Extent := []
  slots : List TeSample := []
deriving DecidableEq, Repr, Inhabited

/-- A bound forest image (06 R188): its DVA, header bytes and extents. -/
structure TeImage where
  dva : Nat := 0
  hdr : List Byte := []
  exts : List Extent := []
deriving DecidableEq, Repr, Inhabited

/-- A context of the tree engine (06 R184). -/
structure TeCtx where
  image : Option TeImage := none
  run : Option TeRun := none
deriving DecidableEq, Repr, Inhabited

/-- An entry of the associative memory (06 R201): whether it holds one. -/
structure AmEntry where
  held : Bool := false
  value : Nat := 0
  mask : Nat := 0
  payload : Nat := 0
deriving DecidableEq, Repr, Inhabited

/-- The tree engine (chapter 06). -/
structure Te where
  ctx : Tab TeCtx := []
  segments : Tab Nat := []
  nodeWays : Tab Nat := []
  am : Tab AmEntry := []
  paused : Bool := false
  withdrawn : Bool := false
  retired : Bool := false
deriving DecidableEq, Repr, Inhabited

/-- The states of a sequence (12 Table 12.1). -/
inductive SeqState where
  | free | prefill | ready | feedWait | done
deriving DecidableEq, Repr, Inhabited

/-- A caddy entry (12 R433). -/
structure Seq where
  st : SeqState := .free
  parcel : Nat := 0
  job : Nat := 0
  id : Nat := 0
  prio : Nat := 0
  external : Bool := false
  evictable : Bool := false
  prompt : Nat := 0
  promptLeft : Nat := 0
  promptExts : List Extent := []
  pos : Nat := 0
  token : Nat := 0
  state : Nat := 0
  stateBytes : Nat := 0
  stateExts : List Extent := []
  retrans : Bool := false
  out : Nat := 0
  outExts : List Extent := []
  maxNew : Nat := 0
  outs : Nat := 0
  stamp : Nat := 0
  stampExts : List Extent := []
  count : Nat := 0
  lastStep : Nat := 0
  order : Nat := 0
  fedWait : Bool := false
deriving DecidableEq, Repr, Inhabited

/-- A bucket of a step template (12 R445): its rows and the command image. -/
structure Bucket where
  rows : Nat := 1
  bytes : List Byte := []
deriving DecidableEq, Repr, Inhabited

/-- A job's caddy binding (12 R436, R443). -/
structure Binding where
  bound : Bool := false
  queue : Nat := 0
  rowBudget : Nat := 0
  chunk : Nat := 0
  share : Nat := 0
  report : Bool := false
  worklist : Nat := 0
  wlExts : List Extent := []
  result : Nat := 0
  resExts : List Extent := []
  wlScr : Nat := 0
  buckets : List Bucket := []
  stepNo : Nat := 0
deriving DecidableEq, Repr, Inhabited

/-- CADDY_STATS of a parcel (12 R461). -/
structure CaddyStats where
  steps : U64 := 0
  rows : U64 := 0
  padRows : U64 := 0
  evictions : U32 := 0
deriving DecidableEq, Repr, Inhabited

/-- The caddy (chapter 12): 1,024 entries, quotas by parcel, bindings by job. -/
structure Caddy where
  seqs : Tab Seq := []
  quota : Tab Nat := []
  bind : Tab Binding := []
  stats : Tab CaddyStats := []
  order : Nat := 0
deriving DecidableEq, Repr, Inhabited

end Sys2Proof.Machine
end

