-- ==== Sys2Proof/Machine/StateStart.lean ====
section
/-! DEFINITION. The state of the start, the boot window and the start ledger (chapter 18). -/
namespace Sys2Proof.Machine
open Sys2Proof

/-- The phases START_STATE reports (18 Table 18.8). -/
inductive Phase where
  | starting | opened | halted | recovery | fatalHold
deriving DecidableEq, Repr, Inhabited

/-- A controller's part of a start record (18 Table 18.6). -/
structure McRec where
  lastStep : Nat := 0
  outcome : Nat := 0xFF
  rateCode : Nat := 0
  sticky : Nat := 0
deriving DecidableEq, Repr, Inhabited

/-- A port's part of a start record. -/
structure PortRec where
  state : Nat := 0
  speed : Nat := 0
  sticky : Nat := 0
deriving DecidableEq, Repr, Inhabited

/-- A start record (18 Table 18.6): STATE 0 EMPTY, 1 IN_PROGRESS, 2 COMPLETE; tables by step, controller and port. -/
structure StartRecord where
  seq : Nat := 0
  kind : Nat := 0
  st : Nat := 0
  current : Nat := 0
  openMs : Nat := 0
  outcomes : List Nat := List.replicate 48 0xFF
  ms : List Nat := List.replicate 48 0
  mcs : List McRec := List.replicate 4 {}
  ports : List PortRec := List.replicate 8 {}
  slots : List Nat := List.replicate 8 0xFF
  sticky : List Nat := List.replicate 48 0
  engineFail : Nat := 0
deriving DecidableEq, Repr, Inhabited

/-- A soft-repair record (18 Table 18.5). -/
structure SoftRepair where
  kind : Nat := 1
  unit : Nat := 0
  index : Nat := 0
  seen : Nat := 0
deriving DecidableEq, Repr, Inhabited

/-- The start ledger (18 R694): header, two records, ledger-class entries by key, training seeds and soft repairs. -/
structure Ledger where
  latest : Nat := 0
  consec : Nat := 0
  resetCount : Nat := 0
  prefSlot : List Nat := [0, 0, 0, 0, 0, 0, 0, 0]
  rec0 : StartRecord := {}
  rec1 : StartRecord := {}
  entries : Tab (List Byte) := []
  seeds : Tab Nat := []
  soft : List SoftRepair := []
  clearPending : Bool := false
  clearSoft : Bool := false
  clearMcPending : Bool := false
  mcPending : Nat := 0
  clearPorts : List Nat := []
deriving DecidableEq, Repr, Inhabited

/-- The boot window (18 Table 18.4) and its image transfer. -/
structure Boot where
  reqSeq : U32 := 0
  kind : Nat := 0
  slot : Nat := 0
  offset : Nat := 0
  length : Nat := 0
  buf : Tab Byte := []
  respStatus : Nat := 0
  respLength : Nat := 0
  image : List Byte := []
  tried : Nat := 0
  waiting : Bool := false
  ignored : Nat := 0
deriving DecidableEq, Repr, Inhabited

/-- The start in progress and what it retired. `pre` holds the outcomes and times of ST00-ST02, before its record is opened; `prev` the
outcomes of the start before as ST03 evaluated them (18 R696); the actions are those of STEP_OUTCOME (R697). -/
structure Start where
  phase : Phase := .starting
  step : Nat := 0
  kind : Nat := 0
  openMs : Nat := 0
  began : Nat := 0
  boot : Boot := {}
  stepAt : Nat := 0
  zeroAt : Nat := 0
  openAt : Nat := 0
  held : Bool := false
  hung : Bool := false
  powerGood : Bool := false
  env : StartEnv := {}
  pre : List (Nat × Nat) := []
  prev : List Nat := List.replicate 48 0xFF
  actions : List Nat := List.replicate 48 0
  mcActions : List Nat := List.replicate 4 0
  portActions : List Nat := List.replicate 8 0
  bootWaitMs : Nat := 1000
  startLimit : Nat := 3
  dieIdNext : Option Nat := none
  fabricIdNext : Option Nat := none
  retiredFlags : Nat := 0
  autoResetAt : Option Nat := none
  fatalAutoMs : Nat := 0
deriving DecidableEq, Repr, Inhabited

end Sys2Proof.Machine
end

