-- ==== Sys2Proof/Machine/StateFabric.lean ====
section
/-! DEFINITION. The state of the Statislink ports, the router, the collectives and the agreement across dies (chapters 14
and 15). -/
namespace Sys2Proof.Machine
open Sys2Proof

/-- The states of a port (14 Table 14.4). -/
inductive PortState where
  | disabled | detect | equalize | laneMap | linkInit | linkAuth | active | retrain | down
deriving DecidableEq, Repr, Inhabited

/-- What LINK_INIT learned of the peer (14 R526, R529). -/
structure Peer where
  die : Nat := 0
  port : Nat := 0
  fabric : Nat := 0
deriving DecidableEq, Repr, Inhabited

/-- PORT_STATS (14 Table 14.11). -/
structure PortStats where
  flitsTx : U64 := 0
  flitsRx : U64 := 0
  crcRetries : U64 := 0
  tagFails : U32 := 0
  fecCorrected : U64 := 0
  fecUncorr : U64 := 0
  retrains : U32 := 0
deriving DecidableEq, Repr, Inhabited

/-- The key agreement of a port (16 R611-R613): its own HELLO and FINISH, the peer's parts by number, the peer's RCVD, and
its deadline. -/
structure Auth where
  running : Bool := false
  limitAt : Nat := 0
  hello : List Byte := []
  finish : List Byte := []
  peerHello : Tab (List Byte) := []
  peerFinish : Tab (List Byte) := []
  rcvd : Nat := 0
  resendAt : Nat := 0
deriving DecidableEq, Repr, Inhabited

/-- A port (14 R508-R530). Tables over streams are numbered by VC × 2 + class; a received byte carries the TRUNC mark of its
flit. `closeAt` is what had been received when the message under way on VC7 began, `closeGot` the same for the markers that wait
(15 R585). -/
structure Port where
  enable : Bool := true
  speedLimit : Nat := 0
  st : PortState := .disabled
  speed : Nat := 0
  txLanes : Nat := 0
  rxLanes : Nat := 0
  goodTx : Nat := 0
  goodRx : Nat := 0
  attempts : Nat := 0
  quarterTried : Bool := false
  detectAt : Nat := 0
  limitAt : Nat := 0
  finalRecorded : Bool := false
  spared : U32 := 0
  peer : Peer := {}
  admitted : Bool := false
  txKey : Option Nat := none
  rxKey : Option Nat := none
  rxNext : Option Nat := none
  nextKey : Option Nat := none
  rekeyDue : Bool := false
  keyPhase : Bool := false
  rxPhase : Bool := false
  txSeq : Nat := 0
  txCount : Nat := 0
  rxCount : Nat := 0
  replay : List (List Byte) := []
  out : Tab (List (Byte × Bool)) := []
  txRec : List (List Byte) := []
  txRecStart : Nat := 0
  rxSeq : Nat := 0
  naked : Bool := false
  rxRec : List (List Byte) := []
  recFails : Nat := 0
  rxIn : Tab (List (Byte × Bool)) := []
  sent : Tab Nat := []
  got : Tab Nat := []
  credGiven : Tab Nat := []
  credBack : Tab Nat := []
  credDirty : Bool := false
  closeAt : List Nat := []
  closeGot : List (List Nat) := []
  stats : PortStats := {}
  auth : Auth := {}
deriving DecidableEq, Repr, Inhabited

/-- Who waits for a gathered remote transfer: a step of a command, a job's image, a stream's entry, the tree engine's or the
caddy's command. -/
inductive GOwner where
  | step (q serial item : Nat) | image (p slot : Nat) | stream (n : Nat) | none
deriving DecidableEq, Repr, Inhabited

/-- A request not yet sent (14 R539): opcode, control bits, target die and its address, its payload, the place of its data
in the gathered buffer, and the bytes wanted of its lines. -/
structure Req where
  op : Nat := 0
  ctl : Nat := 0
  dest : Nat := 0
  addr : Nat := 0
  fabric : Nat := 0
  payload : List Byte := []
  off : Nat := 0
  skip : Nat := 0
  len : Nat := 0
deriving DecidableEq, Repr, Inhabited

/-- A remote transfer in progress: its phase, requests not yet sent, those outstanding, the bytes gathered, how it failed, and
the acquire that a BUSY makes it retry (09 R354). -/
structure Gather where
  owner : GOwner := .none
  phase : Nat := 0
  retry : Option Req := none
  retryAt : Nat := 0
  todo : List Req := []
  outstanding : Nat := 0
  buf : Tab Byte := []
  failed : Option (Status × Cause) := none
deriving DecidableEq, Repr, Inhabited

/-- An entry of the transaction table (14 R539-R543). -/
structure Txn where
  held : Bool := false
  dest : Nat := 0
  req : Req := {}
  owner : GOwner := .none
  deadline : Nat := 0
  timedOut : Bool := false
deriving DecidableEq, Repr, Inhabited

/-- A segment of a collective in progress (14 R550-R554). -/
structure CollSeg where
  seg : Nat := 0
  off : Nat := 0
  own : Option (List Byte) := none
  kid1 : Option (List Byte) := none
  kid2 : Option (List Byte) := none
  sentUp : Bool := false
  cmd : Option (Nat × Nat × Nat) := none
deriving DecidableEq, Repr, Inhabited

/-- A collective context (14 R547-R555). -/
structure Coll where
  kind : Nat := 0
  op : Nat := 0
  type : Nat := 0
  parcel : Nat := 0xFF
  root : Nat := 0
  result : Nat := 0
  length : Nat := 0
  seg : Nat := 0
  faulted : Bool := false
  segs : List CollSeg := []
deriving DecidableEq, Repr, Inhabited

/-- The fabric unit of a die (chapter 14). -/
structure Fabric where
  ports : Tab Port := []
  routes : Tab Nat := []
  txnTimeoutUs : Nat := 500
  txns : Tab Txn := []
  gathers : List Gather := []
  issued : U64 := 0
  completed : U64 := 0
  timedOut : U64 := 0
  tepoch : Nat := 0
  waitOut : List (Nat × Nat × Msg) := []
  arrived : List Msg := []
  bseq : Nat := 0
  bcastAt : List Nat := []
  seen : List (Nat × Nat) := []
  colls : Tab Coll := []
  fabricId : Nat := 0
  discarded : Nat := 0
deriving DecidableEq, Repr, Inhabited

/-! ## Agreement -/

/-- The standings of a die (15 Table 15.1). -/
inductive Standing where
  | admitted | quarantined | fenced
deriving DecidableEq, Repr, Inhabited

/-- A neighbour's last beacon (15 Table 15.2), when it arrived and when its SURV_SEQ last advanced; `heard` while it counts, `known`
once any has come. -/
structure Beacon where
  heard : Bool := false
  epoch : Nat := 0
  survEpoch : Nat := 0
  survDie : Nat := 0
  survHops : Nat := 0
  known : Bool := false
  flags : Nat := 0
  survSeq : Nat := 0
  resetCount : Nat := 0
  digest : List Byte := []
  at' : Nat := 0
  seqAt : Nat := 0
deriving DecidableEq, Repr, Inhabited

/-- A fabric parcel of the fabric plat (15 Table 15.3). -/
structure FPlat where
  fparcel : Nat := 0
  slot : Nat := 0
  lead : Nat := 0
  ranges : List (Nat × Nat) := []
deriving DecidableEq, Repr, Inhabited

/-- The datum (15 Table 15.3): VERSION_SET, FABRIC_PLAT in its stored byte form and as read from it, and BENCH_SOURCE.
FABRIC_CONFIG is the settings themselves (15 R565); the digest is kept where it was taken from a peer (15 Table 15.5 step 3). -/
structure Datum where
  epoch : Nat := 0
  versions : List (Nat × Nat × Nat) := []
  digest : List Byte := []
  platBytes : List Byte := [0#8, 0#8]
  plat : List FPlat := []
  benchDie : Nat := 0
  benchKind : Nat := 0
deriving DecidableEq, Repr, Inhabited

/-- A job record of a fabric parcel (15 R574): per job slot an identifier and a state. -/
structure JobRec where
  fparcel : Nat := 0
  epoch : Nat := 0
  holder : Nat := 0xFF
  jobs : List (Nat × Nat) := []
deriving DecidableEq, Repr, Inhabited

/-- Benchmark time (15 R577-R582), in quarter-nanoseconds: `ahead` of four times the local count in ns at the local time `since`;
`behind` is still to be held back at half rate from then, and `slew` is then spread over 10 ms. -/
structure Bench where
  ahead : Int := 0
  since : Nat := 0
  behind : Nat := 0
  slew : Int := 0
  parent : Option Nat := none
  parentDie : Nat := 0
  depth : Nat := 0
  source : Nat := 0
  leveled : Bool := false
  theta : Int := 0
  delay : Int := 0
  good : Nat := 0
  lastSync : Nat := 0
  seq : Nat := 0
  asked : Option (Nat × Nat) := none
  depths : Tab Nat := []
deriving DecidableEq, Repr, Inhabited

/-- CLOSURE_STATE (15 R587): passes, late passes, the last error record, whether an on-die pass is under way, and the fabric pass: the
ports whose marker is awaited, those whose marker came before this die's pass, its number and the local time it is late at. -/
structure Closure where
  diePasses : U64 := 0
  fabricPasses : U64 := 0
  late : U32 := 0
  lastError : List Byte := []
  dieEnd : Option Nat := none
  marks : List Nat := []
  early : List Nat := []
  passNo : Nat := 0
  passEnd : Nat := 0
deriving DecidableEq, Repr, Inhabited

/-- The adoption of a peer's datum in progress (15 Table 15.5): the die it is read from, its port for a neighbour, the epoch and
digest it showed, whether the read was repeated, and the parts read by subindex. -/
structure Adoption where
  die : Nat := 0
  port : Option Nat := none
  epoch : Nat := 0
  digest : List Byte := []
  retried : Bool := false
  got : Tab (List Byte) := []
deriving DecidableEq, Repr, Inhabited

/-- The agreement unit (chapter 15). Notices are kept by die ID as the notice's KIND + 1. -/
structure Agree where
  standing : Standing := .admitted
  survDie : Nat := 0
  survEpoch : Nat := 0
  survHops : Nat := 0
  survSeq : Nat := 0
  deferred : Nat := 0
  neigh : Tab Beacon := []
  datum : Datum := {}
  adoption : Option Adoption := none
  maxEpoch : Nat := 0
  result : ResultRec := {}
  notices : Tab Nat := []
  probes : List (Nat × Nat) := []
  jobRecs : Tab JobRec := []
  survJobs : List JobRec := []
  switchDone : List (Nat × Nat) := []
  bench : Bench := {}
  closure : Closure := {}
deriving DecidableEq, Repr, Inhabited

end Sys2Proof.Machine
end

