-- ==== Sys2Proof/Machine/StateDict.lean ====
section
/-! DEFINITION. The state of the object dictionary's transports: sessions, mailbox windows, relays and the sideband (chapter
21). -/
namespace Sys2Proof.Machine
open Sys2Proof

/-- A session (21 R780, R781): a segmented transfer in progress, the value read or the bytes written so far, and the last
segment answered. -/
structure Session where
  id : Nat := 0
  path : Path := .i3c
  index : Nat := 0
  sub : Nat := 0
  write : Bool := false
  total : Nat := 0
  data : List Byte := []
  next : Nat := 0
  lastAnswer : List Byte := []
  at' : Nat := 0
deriving DecidableEq, Repr, Inhabited

/-- A mailbox window (21 Table 21.3) and its binding (R773). -/
structure Window where
  req : List Byte := []
  busy : Bool := false
  rsp : List Byte := []
  rspSeq : U32 := 0
  stale : U32 := 0
  bindQ : Nat := 0xFFFF
  vector : Nat := 0xFFFF
deriving DecidableEq, Repr, Inhabited

/-- A window-0 frame relayed to another die (21 R770). -/
structure Relay where
  frame : List Byte := []
  target : Nat := 0
  deadline : Nat := 0
deriving DecidableEq, Repr, Inhabited

/-- A dictionary write this die makes to another, by a port for a neighbour, waiting for its session (15 R560, R566, R574, R575),
then for the answer to its segments. -/
structure Outgoing where
  dest : Nat := 0
  port : Option Nat := none
  index : Nat := 0
  sub : Nat := 0
  data : List Byte := []
  session : Nat := 0
  next : Nat := 0
deriving DecidableEq, Repr, Inhabited

/-- A dictionary read this die makes of another (15 R566, R568), its session once assigned and the bytes come so far. -/
structure Reading where
  dest : Nat := 0
  index : Nat := 0
  sub : Nat := 0
  session : Nat := 0
  total : Nat := 0
  buf : List Byte := []
deriving DecidableEq, Repr, Inhabited

/-- The I3C sideband target (21 R784): its dynamic address and the response it holds ready. -/
structure I3c where
  addr : Option Nat := none
  rsp : List Byte := []
  ready : Bool := false
deriving DecidableEq, Repr, Inhabited

/-- The SPDM responder (16 R634, R635; 21 R785): how far the connection is, the response and the transcript. -/
structure Spdm where
  phase : Nat := 0
  response : ResultRec := {}
  transcript : List Byte := []
deriving DecidableEq, Repr, Inhabited

/-- The dictionary's transports (chapter 21). -/
structure Dict where
  sessions : List Session := []
  nextId : Nat := 1
  peak : Nat := 0
  frames : U64 := 0
  busy : U32 := 0
  timeouts : U32 := 0
  relayTrunc : U32 := 0
  idleMs : Nat := 1000
  relayDie : Nat := 0xFFFF
  mboxVector : Nat := 0xFFFF
  windows : Tab Window := []
  relay : Option Relay := none
  outgoing : List Outgoing := []
  readings : List Reading := []
  i3c : I3c := {}
  spdm : Spdm := {}
deriving DecidableEq, Repr, Inhabited

end Sys2Proof.Machine
end

