-- ==== Sys2Proof/Machine/StateStream.lean ====
section
/-! DEFINITION. The state of the streams and of the Kettle island (chapter 13). -/
namespace Sys2Proof.Machine
open Sys2Proof

/-- A stream's configuration (13 Table 13.1). -/
structure StreamCfg where
  parcel : Nat := 0
  source : Nat := 0
  ringKind : Nat := 0
  log2 : Nat := 0
  jobId : Nat := 0
  entryBytes : Nat := 0
  ring : Nat := 0
  srcRing : Nat := 0
  srcLog2 : Nat := 0
  weight : Nat := 0
deriving DecidableEq, Repr, Inhabited

/-- The states of 13 Table 13.2 that are held; HELD follows from the job that holds the parcel (R479). -/
inductive StreamSt where
  | closed | opened | faulted | stopped
deriving DecidableEq, Repr, Inhabited

/-- A stream (13 R463-R481): counts, translated rings, CONS as last read, the entry the SIU has taken and not yet delivered with
how far it is, and what the next entry must report. -/
structure Stream where
  cfg : StreamCfg := {}
  st : StreamSt := .closed
  closing : Bool := false
  seq : U64 := 0
  dropped : U32 := 0
  srcHead : U32 := 0
  srcTail : U32 := 0
  ringExts : List Extent := []
  srcExts : List Extent := []
  cons : Nat := 0
  entry : Option (List Byte) := none
  phase : Nat := 0
deriving DecidableEq, Repr, Inhabited

/-- The states of Kettle (13 Table 13.9). -/
inductive KettleSt where
  | stopped | listening | waking | withdrawn
deriving DecidableEq, Repr, Inhabited

/-- A class's consecutive hits and the runs for which it does not decide again (13 R493). -/
structure KClass where
  hits : Nat := 0
  refract : Nat := 0
deriving DecidableEq, Repr, Inhabited

/-- A wake pin (13 R495): its level and when its held condition decides. -/
structure KPin where
  level : Bool := false
  deadline : Option Nat := none
deriving DecidableEq, Repr, Inhabited

/-- What a Kettle output holds for its stream (13 R497-R499): its start mark, its records with their times, and whether the next
entry is the first of a wake's pre-roll. -/
structure KOut where
  mark : Option Nat := none
  buf : List (Nat × List Byte) := []
  offer : Option (Nat × List Byte) := none
  lost : Nat := 0
  wake : Bool := false
deriving DecidableEq, Repr, Inhabited

/-- Kettle (chapter 13): image, target, data memory, filter memories, history, runs, decisions and outputs. The history is runs
of pairs, the filtered samples of channels 0 and 1, each with the time of its first; `histEnd` is the time of the next sample. -/
structure Kettle where
  st : KettleSt := .stopped
  stopDue : Bool := false
  frozen : Bool := false
  listenDue : Bool := false
  image : List Byte := []
  digest : List Byte := []
  target : Nat := 0xFF
  wakeEngines : Nat := 0
  vector : Nat := 0xFFFF
  data : Tab Byte := []
  filt : Tab (List Int) := []
  hist : List (Nat × List (U16 × U16)) := []
  histEnd : Nat := 0
  frames : Nat := 0
  due : Nat := 0
  pc : Option Nat := none
  scores : List Byte := []
  classes : Tab KClass := []
  pollAt : Tab Nat := []
  skips : Tab Nat := []
  pins : Tab KPin := []
  outs : Tab KOut := []
  cause : List Byte := []
  wakes : U32 := 0
  runs : U64 := 0
  runsSkipped : U32 := 0
  drops : U32 := 0
deriving DecidableEq, Repr, Inhabited

end Sys2Proof.Machine
end

