-- ==== Sys2Proof/Machine/StateSec.lean ====
section
/-! DEFINITION. The state of the root of trust: fuses, key slots, images, challenges, seals, reports and the test access port
(chapter 16). -/
namespace Sys2Proof.Machine
open Sys2Proof

/-- A key slot (16 R591). The digests of the vendor slots are the part's own. -/
structure KeySlot where
  enrolled : Bool := false
  revoked : Bool := false
  digest : List Byte := []
deriving DecidableEq, Repr, Inhabited

/-- The fuses (16 Table 16.1, R593): owner and vendor slots by number, state flags, SVN floors by image kind, field repair
records, and the words whose code reported an uncorrectable error at the last reading (0-7 key slots, 8-15 floors, 16 flags). -/
structure Fuses where
  slots : Tab KeySlot := []
  debugDisable : Bool := false
  rma : Bool := false
  production : Bool := false
  svn : Tab Nat := []
  repairs : List (List Byte) := []
  badWords : List Nat := []
deriving DecidableEq, Repr, Inhabited

/-- The states of a challenge record (16 R604). -/
inductive ChalSt where
  | free | opened | burned | closed
deriving DecidableEq, Repr, Inhabited

/-- A challenge record (16 R604-R608). -/
structure Challenge where
  st : ChalSt := .free
  op : Nat := 0
  tag : Nat := 0
  issued : Nat := 0
  arg : List Byte := []
  nonce : List Byte := []
  deadline : Nat := 0
  order : Nat := 0
deriving DecidableEq, Repr, Inhabited

/-- An accepted image as reports list it (16 Table 16.8). -/
structure ImageRec where
  kind : Nat := 0
  major : Nat := 0
  minor : Nat := 0
  slot : Nat := 0xFF
  svn : Nat := 0
  digest : List Byte := []
deriving DecidableEq, Repr, Inhabited

/-- The instructions of the test access port (16 Table 16.7, 23 R832). -/
inductive TapInstr where
  | bypass | idcode | samplePreload | extest | clamp
deriving DecidableEq, Repr, Inhabited

/-- The test access port: its instruction, the boundary register as preloaded, and the data register selected. -/
structure Tap where
  instr : TapInstr := .idcode
  preload : List Bool := []
  driven : Bool := false
  dr : List Bool := []
deriving DecidableEq, Repr, Inhabited

/-- The root of trust (chapter 16). A fuse operation in progress is its kind and argument; a report in progress is its unsigned
bytes. -/
structure Security where
  fuses : Fuses := {}
  debug : Nat := 0
  challenges : Tab Challenge := []
  chalOrder : Nat := 0
  invalid : Nat := 0
  programming : Option (Nat × List Byte) := none
  images : Tab ImageRec := []
  rotate : List Nat := []
  offers : Tab (List Byte) := []
  sealResult : Tab ResultRec := []
  attest : ResultRec := {}
  report : Option (List Byte) := none
  tap : Tap := {}
deriving DecidableEq, Repr, Inhabited

end Sys2Proof.Machine
end

