-- ==== Sys2Proof/Machine/StateService.lean ====
section
/-! DEFINITION. The state of the field book (chapter 19) and of self-test, repair and removal (chapter 20). -/
namespace Sys2Proof.Machine
open Sys2Proof

/-- A code's FB_CODE_CONFIG (19 Table 19.3). -/
structure CodeCfg where
  enable : Bool := true
  shift : Nat := 0
  rate : Nat := 6
deriving DecidableEq, Repr, Inhabited

/-- A code's open span (19 R714-R716): its start in ns, its windows, its counts, its extremes with the times that hold them, and its
flags. -/
structure Span where
  opened : Bool := false
  start : Nat := 0
  windows : Nat := 1
  count : Nat := 0
  binned : Bool := false
  min : Nat := 0
  max : Nat := 0
  minTime : Nat := 0
  maxTime : Nat := 0
  bins : List Nat := [0, 0, 0, 0, 0, 0, 0, 0, 0, 0, 0, 0, 0, 0, 0, 0]
  gap : Bool := false
  suppressed : Bool := false
  clipped : Bool := false
  late : Bool := false
deriving DecidableEq, Repr, Inhabited

/-- FB_SPILL (19 R726). -/
structure Spill where
  enable : Bool := false
  kind : Nat := 0
  log2 : Nat := 12
  base : Nat := 0
deriving DecidableEq, Repr, Inhabited

/-- The field book (chapter 19). The window in force begins at `winStart` and lasts `winMs`; `early` holds events of a later window taken
before this one closes; `used` is the tokens a code's bucket lacks; `last` is one more than the sequence number of a code's last
record; `bad` lists the ring slots whose check fails. -/
structure FieldBook where
  on : Bool := false
  windowMs : Nat := 1000
  winStart : Nat := 0
  winMs : Nat := 1000
  endSpans : Bool := false
  spans : Tab Span := []
  early : List (Nat × Nat × Bool × Nat × Nat) := []
  ring : Tab (List Byte) := []
  head : Nat := 1
  tail : Nat := 1
  gen : Nat := 0
  used : Tab Nat := []
  last : Tab Nat := []
  bad : List Nat := []
  cfg : Tab CodeCfg := []
  spill : Spill := {}
  spilled : Nat := 1
  lost : Nat := 0
  events : U64 := 0
  gapEvents : U64 := 0
  late : U64 := 0
  deferred : U64 := 0
deriving DecidableEq, Repr, Inhabited

/-- SELFTEST_CONFIG (20 Table 20.6). -/
structure SelfCfg where
  enable : Bool := true
  engineS : Nat := 60
  sliceS : Nat := 60
  teS : Nat := 60
  kettleS : Nat := 600
  maxConc : Nat := 2
deriving DecidableEq, Repr, Inhabited

/-- SELFTEST_UNIT of a unit (20 Table 20.6), with the number of its period, whether its segment of that period has started, and a
slice's next sub-array (20 R739). -/
structure SelfUnit where
  passes : U32 := 0
  transients : U32 := 0
  fails : U32 := 0
  aborts : U32 := 0
  skips : U32 := 0
  lastTime : U64 := 0
  lastOutcome : Nat := 0
  periodEnd : Nat := 0
  started : Bool := false
  sub : Nat := 0
deriving DecidableEq, Repr, Inhabited

/-- A segment in progress (20 R737): its unit (0-15 engines, 16-31 slices, 32 tree engine, 33 Kettle), a slice's sub-array, whether a
request asked for it, and whether an engine was stopped or the tree engine paused before it. -/
structure Segment where
  unit : Nat := 0
  sub : Nat := 0
  demand : Bool := false
deriving DecidableEq, Repr, Inhabited

/-- Self-test and service (chapter 20). `state` is SERVICE_STATE; `requested` is a SELFTEST_REQUEST that waits for R743. -/
structure Service where
  cfg : SelfCfg := {}
  units : Tab SelfUnit := []
  segs : List Segment := []
  requested : Option Segment := none
  result : ResultRec := {}
  state : Nat := 0
  drainFrom : Nat := 0
  retireUncorr : Nat := 4
deriving DecidableEq, Repr, Inhabited

end Sys2Proof.Machine
end

