-- ==== Sys2Proof/Machine/State.lean ====
section
/-! DEFINITION. The whole state of the block, its reasons to stop, and the state after reset. -/
namespace Sys2Proof.Machine
open Sys2Proof

/-- The reasons a command stops the machine with a fault. -/
inductive Fault where
  /-- Raised by no command: the spec gives every command an outcome. Safe. -/
  | none
deriving DecidableEq, Repr, Inhabited

/-- The reasons a command is refused a meaning. -/
inductive Refusal where
  /-- Raised by the dispatch for a command that has no meaning yet. Safe. -/
  | notModelled (mnemonic : String)
deriving DecidableEq, Repr, Inhabited

/-- The answer to the last request that has one: its status, the retry-after of a BUSY (00 R833), NOT_PERSISTED (21 R768) and its
data. -/
structure Reply where
  status : Status := .ok
  retryUs : Nat := 0
  notPersisted : Bool := false
  data : List Byte := []
deriving DecidableEq, Repr, Inhabited

/-- A field-book event entry (19 Table 19.1), parcel 0xFF for die-level events. -/
structure Event where
  isl : Nat := 0
  code : Nat := 0
  parcel : Nat := 0xFF
  value : Nat := 0
  time : Nat := 0
deriving DecidableEq, Repr, Inhabited

/-- What the block sends to the outside, newest first in the state's log. -/
inductive Sent where
  | intr (vector : Nat)
  | cmp (agent tag : Nat) (status : Status) (data : List Byte)
  | snoop (agent : Agent) (inval : Bool) (line : Nat)
  | grant (agent : Agent) (req : DirReq) (line : Nat) (data : List Byte) (poison : Bool)
  | wbDone (agent : Agent) (line : Nat)
  | flit (port : Nat) (bytes : List Byte)
  | msg (port : Nat) (m : Msg)
  | vreq (frame : Nat)
  | ibi (data : Byte)
deriving DecidableEq, Repr

/-- The plat's epoch and result (11 R398-R401), and the request that waits for controllers to be cleared (16 R622). -/
structure PlatRec where
  epoch : U64 := 0
  waiting : Option (List Byte) := none
  result : ResultRec := {}
deriving DecidableEq, Repr, Inhabited

/-- The state of the block. -/
@[ext]
structure State where
  now : Nat := 0
  reply : Reply := {}
  events : List Event := []
  gaps : Tab Nat := []
  sent : List Sent := []
  freeCtr : Nat := 0
  serial : Nat := 0
  fatal : Bool := false
  isl : Tab Island := []
  chans : Tab Chan := []
  eng : Tab Engine := []
  slc : Tab Slice := []
  approx : Approx := {}
  power : Power := {}
  mem : MemSys := {}
  xlat : Xlat := {}
  sems : Tab Sem := []
  te : Te := {}
  caddy : Caddy := {}
  queues : Tab Queue := []
  link : HostLink := {}
  parcels : Tab Parcel := []
  jobs : Tab Job := []
  plat : PlatRec := {}
  jobResult : ResultRec := {}
  nextJobId : Nat := 1
  start : Start := {}
  ledger : Ledger := {}
  dieId : Nat := 0
  fab : Fabric := {}
  agree : Agree := {}
  dict : Dict := {}
  streams : Tab Stream := []
  kettle : Kettle := {}
  sec : Security := {}
  fb : FieldBook := {}
  svc : Service := {}
  pending : List Instr := []
deriving DecidableEq, Repr

/-- The reset target of an island: the nominal of Table 2.2. -/
def islNominal (i : Nat) : Nat :=
  if i ≤ 52 ∨ i = 58 ∨ i = 62 ∨ i = 71 then 1600
  else if i ≤ 61 then 1200
  else if i ≤ 64 then 24
  else if i ≤ 68 then 400
  else if i ≤ 70 then 1000
  else 781

/-- The straps of the start (00 R2, 23 R810). -/
def State.straps (s : State) : StartEnv := s.start.env

/-- The profiles of AL0-AL7 after a start (05 Table 5.2). -/
def resetProfiles : Tab AlProfile :=
  [(1, { int8T := 2, int4T := 1, fpExp := some (-12), margin := 2, limit := 32 }),
   (2, { int8T := 3, int4T := 1, fpExp := some (-10), margin := 3, limit := 64 }),
   (3, { int8T := 4, int4T := 2, fpExp := some (-8), margin := 4, limit := 128 }),
   (4, { int8T := 6, int4T := 2, fpExp := some (-7), margin := 5, limit := 256 }),
   (5, { int8T := 8, int4T := 3, fpExp := some (-6), margin := 6, limit := 512 }),
   (6, { int8T := 12, int4T := 3, fpExp := some (-5), margin := 7, limit := 1024 }),
   (7, { int8T := 16, int4T := 4, fpExp := some (-4), margin := 8, limit := 2048 })]

/-- The thresholds of sag stages 1-6 after a start (17 Table 17.5). -/
def resetThresh : Tab SagThresh :=
  [(1, { thresh := 30, dwell := 1000 }), (2, { thresh := 40, dwell := 1000 }), (3, { thresh := 50, dwell := 500 }),
   (4, { thresh := 60, dwell := 200 }), (5, { thresh := 70, dwell := 200 }), (6, { thresh := 80, dwell := 100 })]

/-- The targets of the islands whose nominal is not that of the mesh (02 Table 2.2). -/
def resetIslands : Tab Island :=
  (List.range 80).foldl (fun t i => Tab.wr t i { target := islNominal i }) []

/-- The machine right after reset: power-good has not risen, and every entry of the dictionary holds its default (22 R792). A start
(18 R675) runs from this state with its fuses and ledger kept. -/
def State.reset : State :=
  { isl := resetIslands
    approx := { profiles := resetProfiles, cap := (List.range 8).map (fun p => (p, 7)) }
    power := { thresh := resetThresh }
    fb := { cfg := [(0x202, { shift := 4 })] } }

end Sys2Proof.Machine
end

