-- ==== Sys2Proof/Machine/Ops.lean ====
section
/-! DEFINITION. The named operations the commands share: answers, events, islands and their voltage, presence granules,
commands' items, semaphores and the end of a task. -/
namespace Sys2Proof.Machine
open Sys2Proof

/-- The result type of every meaning. -/
abbrev Out := Host.Outcome State Fault Refusal

/-! ## Answers, events and messages -/

/-- Answer the request with a status (00 R18); a BUSY without a named interval carries 0 (R833). -/
def State.answer (s : State) (st : Status) : State := { s with reply := { status := st } }

/-- Answer BUSY with a retry-after interval in µs (00 R833). -/
def State.busy (s : State) (us : Nat) : State := { s with reply := { status := .busy, retryUs := us } }

/-- Answer OK with data. -/
def State.give (s : State) (data : List Byte) : State := { s with reply := { data := data } }

/-- Log a message the block sends. -/
def State.send (s : State) (m : Sent) : State := { s with sent := m :: s.sent }

/-- Time reaches at least a moment (00 R12: benchmark time never decreases). -/
def State.reach (s : State) (t : Nat) : State := { s with now := Nat.max s.now t }

/-- The die's benchmark time in quarter-nanoseconds (15 R578, R580): it never decreases. -/
def State.benchQ (s : State) : Nat :=
  let b := s.agree.bench
  let run := s.now - b.since
  let held := Nat.min (2 * run) b.behind
  let slewed := b.slew * (Nat.min (run - (b.behind + 1) / 2) 10000000 : Nat) / 10000000
  (4 * (s.now : Int) + b.ahead - (held : Int) + slewed).toNat

/-- The die's benchmark time in ns (00 R12). -/
def State.bench (s : State) : Nat := s.benchQ / 4

/-- A time of the local count as a benchmark time. -/
def State.toBench (s : State) (t : Nat) : Nat := s.bench + t - s.now

/-- An island sends an event to the field book over its EVENT channel of four entries; past them it counts the events
it could not send and sends the count first once there is room (02 R46, 19 R709). -/
def State.emit (s : State) (isl code parcel value : Nat) : State :=
  let n := (s.events.filter (fun e => e.isl == isl)).length
  let g := s.gaps.rd isl
  let ev : Event := { isl := isl, code := code, parcel := parcel, value := value % 2 ^ 32, time := s.bench }
  if n ≥ 4 then { s with gaps := s.gaps.wr isl (g + 1) }
  else if g = 0 then { s with events := s.events ++ [ev] }
  else
    let gap : Event := { isl := isl, code := 0x001, value := g, time := s.bench }
    if n + 1 ≥ 4 then { s with events := s.events ++ [gap], gaps := s.gaps.wr isl 1 }
    else { s with events := s.events ++ [gap, ev], gaps := s.gaps.wr isl 0 }

/-- An engine. -/
def State.engine (s : State) (n : Nat) : Engine := s.eng.rd n
/-- Change an engine. -/
def State.updEng (s : State) (n : Nat) (f : Engine → Engine) : State := { s with eng := s.eng.upd n f }
/-- Change a slice. -/
def State.updSlc (s : State) (n : Nat) (f : Slice → Slice) : State := { s with slc := s.slc.upd n f }
/-- A parcel slot. -/
def State.parcel (s : State) (p : Nat) : Parcel := s.parcels.rd p
/-- Change a parcel slot. -/
def State.updPar (s : State) (p : Nat) (f : Parcel → Parcel) : State := { s with parcels := s.parcels.upd p f }
/-- A queue. -/
def State.queue (s : State) (q : Nat) : Queue := s.queues.rd q
/-- Change a queue. -/
def State.updQ (s : State) (q : Nat) (f : Queue → Queue) : State := { s with queues := s.queues.upd q f }
/-- A job by parcel and slot. -/
def State.job (s : State) (p slot : Nat) : Job := s.jobs.rd (p * 16 + slot)
/-- Change a job. -/
def State.updJob (s : State) (p slot : Nat) (f : Job → Job) : State := { s with jobs := s.jobs.upd (p * 16 + slot) f }

/-- Change a stream. -/
def State.updStream (s : State) (n : Nat) (f : Stream → Stream) : State := { s with streams := s.streams.upd n f }

/-- The job that holds a queue: parcel and slot (11 R404). -/
def State.jobOf (s : State) (q : Nat) : Option (Nat × Nat) :=
  ((List.range 128).find? (fun k =>
    let j := s.jobs.rd k
    j.st != .ended && decide (j.qFirst ≤ q ∧ q < j.qFirst + j.qCount))).map (fun k => (k / 16, k % 16))

/-- The start has completed ST47 and the die serves queues (18 R707). -/
def State.isOpen (s : State) : Bool := s.start.phase == .opened

/-- Queues cannot open after a failed ST12, ST13, ST35 or ST36 (18 R686). -/
def State.queuesRetired (s : State) : Bool := bitAt s.start.retiredFlags 6

/-! ## Readiness during the start (18 R685, R703-R707; 21 R779) -/

/-- The time ST27 takes in µs: the longest of the controllers' (18 Table 18.3). -/
def State.zeroUs (s : State) : Nat :=
  (List.range 4).foldl (fun a c =>
    let m := s.mem.mc.rd c
    if !m.devices || m.st == .retired then a else Nat.max a (250000 * (s.start.env.gib.getD c 0) * 9600 / (16 * Nat.max 1 m.rate))) 0

/-- The bound of a start step in µs (18 Table 18.3), image steps by the slots tried and, from a board, by the bytes transferred
(R691). ST27 runs beside ST28-ST41 and its end is awaited at ST42. -/
def State.stepBoundUs (s : State) (k : Nat) : Nat :=
  let image (us : Nat) : Nat :=
    if k = s.start.step then us * (1 + s.start.boot.tried) + (if s.start.env.bootHost then 0 else 800000 * s.start.boot.image.length / 1048576) else us
  match k with
  | 0 => 100 | 1 => 1000 | 2 => 1000 | 3 => 500 | 4 => 3000 | 5 => 500
  | 6 => if s.start.env.hostLink then 5000 else 60000
  | 7 => 1000 | 8 => 1000 * s.start.bootWaitMs | 9 => image 14000 | 10 => 30000
  | 11 => image 12000 | 12 => image 12000 | 13 => image 12000 | 14 => image 12000
  | 15 => 500 | 16 => 500 | 17 => 1000 | 18 => 2000 | 19 => 500 | 20 => 2000 | 21 => 3000 | 22 => 3000 | 23 => 3000 | 24 => 5000
  | 25 => 1000 | 26 => 1000 | 27 => 0 | 28 => 10000 | 29 => 2000 | 30 => 1000 | 31 => 1000 | 32 => 5000 | 33 => 3000 | 34 => 1000
  | 35 => 1000 | 36 => 1000 | 37 => 500 | 38 => 500 | 39 => 1000 | 40 => 1000 | 41 => 100
  | 42 => s.zeroUs - 31600
  | 43 => 500 | 44 => 200 | 45 => 100 | 46 => 1000 | _ => 2000

/-- What remains of the start until a step's bound, in µs (18 R704-R707). -/
def State.remainsUs (s : State) (k : Nat) : Nat :=
  let n := k + 1 - s.start.step
  (List.range n).foldl (fun a i => a + s.stepBoundUs (s.start.step + i)) 0 - (s.now - s.start.stepAt) / 1000

/-- The die is powered and neither in the Kettle-only state nor dark under sag stage 7 (17 Table 17.3, R668). -/
def State.awake (s : State) : Bool := s.start.powerGood && s.power.state != .kettleOnly && s.power.sagStage != 7

/-- A request that needs a start step to have completed, at least ST19: no interface answers before ST05 or in the Kettle-only
state (18 R703, 22 R794); a halted die refuses (18 R685, 16 R599); before the step it is BUSY (18 R704, R705). -/
def State.served (s : State) (step : Nat) (k : State → State) : State :=
  if !s.awake ∨ (s.start.phase = .starting ∧ s.start.step ≤ 5) then s
  else if s.start.phase = .halted ∨ s.start.phase = .recovery then s.answer .retired
  else if s.start.phase = .starting ∧ s.start.step ≤ step then s.busy (Nat.min 100000 (Nat.max 1000 (s.remainsUs step)))
  else k s

/-- A request that queues must be open for: BUSY for what remains of the start (18 R707). -/
def State.servedOpen (s : State) (step : Nat) (k : State → State) : State :=
  if s.awake ∧ s.start.phase = .starting ∧ 19 < s.start.step ∧ s.start.step ≤ step then
    s.busy (Nat.max 1000 (s.remainsUs step))
  else s.served 19 k

/-- A fresh number for a free value. -/
def State.bump (s : State) : State := { s with freeCtr := s.freeCtr + 1 }

/-! ## Islands, frequency and voltage (02 R40, 05 R170-R178, 17 R651) -/

/-- An island whose rate its interface sets (02 R38). -/
def islDisciplined (i : Nat) : Bool := (53 ≤ i && i ≤ 56) || i == 69 || i == 70 || 72 ≤ i

/-- The range of an adaptive island in MHz (02 Table 2.2). -/
def islRange (i : Nat) : Nat × Nat :=
  if i < 16 then (200, 1800)
  else if i ≤ 52 ∨ i = 58 ∨ i = 62 then (400, 1600)
  else if i = 57 then (400, 1200)
  else if i ≤ 61 then (300, 1200)
  else if i ≤ 64 then (8, 32)
  else if i ≤ 68 then (100, 400)
  else (800, 1600)

/-- V_nom(f) in µV for f in MHz (17 Table 17.2, linear between rows). -/
def vnom (f : Nat) : Nat :=
  if f ≤ 400 then 500000 + 250 * (f - 200)
  else if f ≤ 800 then 550000 + 150 * (f - 400)
  else if f ≤ 1600 then 610000 + 175 * (f - 800)
  else 750000 + 250 * (f - 1600)

/-- V_target in µV (05 R170). -/
def vTarget (f margin offset : Nat) : Nat :=
  Nat.min (Nat.max (vnom f + 12500 * offset - 12500 * margin) 500000) (vnom f + 25000)

/-- Whether V_target is at its upper clamp (05 R177). -/
def atClamp (margin offset : Nat) : Bool := decide (offset ≥ margin + 2)

/-- The target written for an island that is in force: a write deferred by a sag stage is not (17 R669). -/
def State.islTarget (s : State) (i : Nat) : Nat :=
  let x := s.isl.rd i
  x.deferred.getD x.target

/-- The effective target of an engine island (17 R651): the least of its target and the cap, less the reductions of
R59 and R177, down to 200 MHz, and 200 MHz while stage 4 sheds it. -/
def State.engTarget (s : State) (n : Nat) : Nat :=
  let e := s.engine n
  if e.shed then 200
  else Nat.max 200 (Nat.min (s.islTarget n) s.power.capMhz - 25 * (e.ceil + e.triple))

/-- The voltage target of an engine island at its effective target. -/
def State.engVTarget (s : State) (n : Nat) : Nat :=
  vTarget (s.engTarget n) (s.engine n).profile.margin (s.engine n).offset

/-- Follow a change of an engine's targets: a lowering takes effect at once and the voltage falls after it; a raise
waits for VOLTAGE_REACHED (05 R172). -/
def State.settleEng (s : State) (n : Nat) : State :=
  let f := s.engTarget n
  let v := s.engVTarget n
  s.updEng n (fun e =>
    if !e.powered then { e with freq := f }
    else { e with freq := Nat.min e.freq f, volt := Nat.min e.volt v })

/-- The state of an engine as ENGINE_STATE reports it (03 Table 3.6). -/
def Engine.state (e : Engine) : EngineState :=
  if e.retired then .retired
  else if e.withdrawn then .withdrawn
  else if !e.powered then .off
  else if e.stopped then .stopped
  else match e.task with
    | some t =>
        if t.issued.isSome then .running
        else if e.density > 0 ∧ t.wait ≠ .none then .simmer
        else .gated
    | none => if e.density > 0 then .simmer else .idle

/-! ## Presence granules (03 R80-R90, R835) -/

/-- Release a hold: the count falls, and with the release flag the granule becomes EMPTY at zero (03 R82). -/
def Gran.release (g : Gran) (rel : Bool) : Gran :=
  let r := g.readers - 1
  if rel && g.st == .present && r == 0 then { st := .empty, readers := 0 } else { g with readers := r }

/-- Release holds, with or without their release flags (03 R82, R835). -/
def State.release (s : State) (hs : List Hold) (flags : Bool) : State :=
  hs.foldl (fun s h => s.updSlc h.slice (fun x => { x with gran := x.gran.upd h.gran (fun g => g.release (h.rel && flags)) })) s

/-- Write bytes into a slice; a word written whole is read afresh (07 R836). -/
def Slice.store (x : Slice) (off : Nat) (bs : List Byte) : Slice :=
  { x with bytes := memWrite x.bytes off bs,
           bad := x.bad.filter (fun w => !decide (off ≤ w * 8 ∧ w * 8 + 8 ≤ off + bs.length)) }

/-- Each 128-byte line of a granule whose writer stopped keeps its old bytes or takes new ones, which of the two and which bytes
being free (03 R835). -/
def Slice.leave (x : Slice) (now sl g : Nat) : Slice :=
  let y := (List.range 8).foldl (fun (y : Slice) l =>
    if Config.stopNew now sl x.left (8 * g + l) then
      y.store (1024 * g + 128 * l) ((List.range 128).map (fun i => Config.stopByte now sl x.left (1024 * g + 128 * l + i)))
    else y) x
  { y with left := x.left + 1 }

/-- Return unfinished claims to the state before them (03 R835). -/
def State.unclaim (s : State) (cs : List Claim) : State :=
  cs.foldl (fun s c => s.updSlc c.slice (fun x =>
    let x := x.leave s.now c.slice c.gran
    { x with gran := x.gran.upd c.gran (fun g => { g with st := c.prev }) })) s

/-- Complete claims: their granules become PRESENT (03 R81). -/
def State.complete (s : State) (cs : List Claim) : State :=
  cs.foldl (fun s c => s.updSlc c.slice (fun x => { x with gran := x.gran.upd c.gran (fun g => { g with st := .present }) })) s

/-- A source granule can be held (03 R83). -/
def Gran.holdable (g : Gran) : Bool := g.st == .present && decide (g.readers < 15)

/-- A destination granule can be claimed (03 R81). -/
def Gran.claimable (g : Gran) : Bool := g.st == .empty || (g.st == .present && g.readers == 0)

/-- The granules of a byte range. -/
def granules (off len : Nat) : List Nat :=
  if len = 0 then [] else (List.range ((off + len - 1) / 1024 + 1 - off / 1024)).map (· + off / 1024)

/-- Take holds (03 R82). -/
def State.takeHolds (s : State) (hs : List Hold) : State :=
  hs.foldl (fun s h => s.updSlc h.slice (fun x => { x with gran := x.gran.upd h.gran (fun g => { g with readers := g.readers + 1 }) })) s

/-- Take claims on granules of a slice, recording what each was (03 R81). -/
def State.takeClaims (s : State) (sl : Nat) (gs : List Nat) : State × List Claim :=
  let x := s.slc.rd sl
  let cs := gs.map (fun g => { slice := sl, gran := g, prev := (x.gran.rd g).st : Claim })
  (s.updSlc sl (fun x => { x with gran := gs.foldl (fun t g => t.upd g (fun y => { y with st := .filling })) x.gran }), cs)

/-- Every granule of a slice can be claimed; a withdrawn slice makes its writers wait (03 R81, R90). -/
def State.canClaim (s : State) (sl : Nat) (gs : List Nat) : Bool :=
  let x := s.slc.rd sl
  !x.withdrawn && x.powered && gs.all (fun g => (x.gran.rd g).claimable)

/-- Whether a range of a slice reads an uncorrectable word (07 R262). -/
def Slice.badRange (x : Slice) (off len : Nat) : Bool := x.bad.any (fun w => decide (w * 8 < off + len ∧ off < w * 8 + 8))

/-- A count over a fabric parcel's other dies, which no transport of the spec carries: 0 and 1 the engines and slices of lower
dies, 2 and 3 of higher dies, 4 the most slices of another die. A die-local parcel has none. -/
def Parcel.others (p : Parcel) (what : Nat) : Nat := if p.fabricId = 0 then 0 else Config.fabricShape p.fabricId what

/-- The physical slice of a parcel-relative index, if it lies on this die (00 R29, 03 R89). -/
def Parcel.sliceOf (p : Parcel) (i : Nat) : Option Nat :=
  if i < p.others 1 then none else (maskBits 16 p.slices)[i - p.others 1]?

/-- The physical engine of a parcel-relative index, if it lies on this die (00 R29). -/
def Parcel.engineOf (p : Parcel) (i : Nat) : Option Nat :=
  if i < p.others 0 then none else (maskBits 16 p.engines)[i - p.others 0]?

/-- The size of a scratch slice in bytes. -/
def sliceBytes : Nat := 3 * 1024 * 1024

/-- An error correction or failure is counted in ECC_COUNTS and in the field book under the array's subindex (07 R266):
codes 0x310 data, 0x311 check, 0x312 uncorrectable. A refetch is counted in ECC_COUNTS alone. A controller whose UNCORR reaches
MC_RETIRE_UNCORR becomes RETIRE_PENDING (20 R753). -/
def State.countEcc (s : State) (isl arr data check uncorr refetch : Nat) : State :=
  let e := s.mem.ecc.rd arr
  let e' : EccCount := { dataCorr := e.dataCorr + BitVec.ofNat 32 data, checkCorr := e.checkCorr + BitVec.ofNat 32 check,
                         uncorr := e.uncorr + BitVec.ofNat 32 uncorr, refetch := e.refetch + BitVec.ofNat 32 refetch }
  let s := { s with mem := { s.mem with ecc := s.mem.ecc.wr arr e' } }
  let pend := decide (7 ≤ arr ∧ uncorr > 0) && decide (s.svc.retireUncorr ≤ e'.uncorr.toNat)
  let s := if pend then { s with ledger := { s.ledger with mcPending := s.ledger.mcPending ||| (1 <<< (arr - 7)) } } else s
  let s := (List.range data).foldl (fun s _ => s.emit isl 0x310 0xFF arr) s
  let s := (List.range check).foldl (fun s _ => s.emit isl 0x311 0xFF arr) s
  (List.range uncorr).foldl (fun s _ => s.emit isl 0x312 0xFF arr) s

/-! ## Commands and their items (10 R381-R387) -/

/-- Change the consumed command of a queue that has a serial number. -/
def State.updCmd (s : State) (q serial : Nat) (f : Cmd → Cmd) : State :=
  s.updQ q (fun x => { x with consumed := x.consumed.map (fun c => if c.serial = serial then f c else c) })

/-- Set an item of a command. -/
def Cmd.setItem (c : Cmd) (i : Nat) (st : ItemSt) : Cmd := { c with items := listSet c.items i st }

/-- Set an item of a queue's command. -/
def State.setItem (s : State) (q serial i : Nat) (st : ItemSt) : State := s.updCmd q serial (fun c => c.setItem i st)

/-- An item has ended. -/
def ItemSt.ended : ItemSt → Bool
  | .done _ _ => true
  | .skipped => true
  | _ => false

/-- An item has failed (10 R386). -/
def ItemSt.failed : ItemSt → Bool
  | .done .ok _ => false
  | .done _ _ => true
  | _ => false

/-- Every item of a command has ended, or it was refused: later steps of a failed command never start (10 R386). -/
def Cmd.isOver (c : Cmd) : Bool :=
  c.refusal.isSome || (c.started && c.items.all (fun x => x.ended || (x == .idle && (c.stopped.isSome || c.items.any (·.failed)))))

/-! ## Floors and paused watchdogs (17 R664, R667; 20 R740) -/

/-- A parcel's floor engines: its ENGINE_FLOOR lowest that are neither retired nor withdrawn (17 R664). -/
def State.floorOf (s : State) (p : Nat) : List Nat :=
  ((maskBits 16 (s.parcel p).engines).filter (fun n => !(s.engine n).retired && !(s.engine n).withdrawn)).take (s.parcel p).floor

/-- Sag stage 4 keeps an engine from being powered or started (17 R664). -/
def State.aboveFloor (s : State) (n : Nat) : Bool :=
  decide (s.power.sagStage ≥ 4) && (List.range 8).all (fun p => !(s.floorOf p).contains n)

/-- An engine whose task does not count against its command's watchdog. -/
def Engine.held (e : Engine) : Bool := e.stopped || e.halted || e.withdrawn

/-- A command has a task on an engine that is stopped or halted by sag or a segment. -/
def State.cmdHeld (s : State) (q serial : Nat) : Bool :=
  (List.range 16).any (fun n => match (s.engine n).task with
    | some t => t.queue == q && t.cmd == serial && (s.engine n).held
    | none => false)

/-- Begin and end the pauses of the commands' watchdogs: a pause moves the deadline by its length (17 R667, 20 R740). -/
def State.watchSettle (s : State) : State :=
  { s with queues := s.queues.updListed (fun q x => { x with consumed := x.consumed.map (fun c =>
      let held := s.cmdHeld q c.serial
      if held ∧ c.watchdogPaused = 0 then { c with watchdogPaused := s.now + 1 }
      else if !held ∧ c.watchdogPaused ≠ 0 then { c with watchdogAt := c.watchdogAt + (s.now + 1 - c.watchdogPaused), watchdogPaused := 0 }
      else c) }) }

/-! ## Semaphores (09 R345-R356) -/

/-- The queue-local identity an owner acts under. -/
def SemOwner.isEngine : SemOwner → Bool
  | .engine _ => true
  | _ => false

/-- An owner is struck by an abandoning event: its semaphores become ABANDONED and its waiting acquires are removed
(09 R348, R349). -/
def State.strike (s : State) (struck : SemOwner → Bool) : State :=
  (s.sems.map Prod.fst).foldl (fun s n =>
    let m := s.sems.rd n
    let ws := m.waiters.filter (fun w => !struck w.owner)
    match m.st, m.owner with
    | .held, some o =>
        if struck o then
          { s with sems := s.sems.wr n { m with st := .abandoned, waiters := ws, abandons := m.abandons + 1 } }.emit 57 0x330 0xFF n
        else { s with sems := s.sems.wr n { m with waiters := ws } }
    | _, _ => { s with sems := s.sems.wr n { m with waiters := ws } }) s

/-- The parcel-level record of a task's end on its command (03 R113, 04 R114): the item is done and the flags join the
command's. -/
def State.endItem (s : State) (t : Task) (st : Status) (c : Cause) : State :=
  s.updCmd t.queue t.cmd (fun x => { x.setItem t.item (.done st c) with flags := x.flags.or t.flags })

/-- Undo what an engine's task holds when it is stopped before its instruction finishes (03 R835). -/
def State.dropHolds (s : State) (n : Nat) : State :=
  let e := s.engine n
  let s := s.release e.reserved false
  let s := match e.task with
    | some t => match t.issued with
      | some i => (s.release i.holds false).unclaim i.claims
      | none => s
    | none => s
  s.updEng n (fun e => { e with reserved := [], task := e.task.map (fun t => { t with issued := none }) })

/-- The nanoseconds a task has held its engine go to its job's account in a metered parcel (11 R428). -/
def State.chargeEngine (s : State) (n : Nat) (t : Task) : State :=
  if (s.parcel t.parcel).tally then s
  else s.updJob t.parcel t.job (fun j =>
    { j with acct := { j.acct with engineNs := j.acct.engineNs + BitVec.ofNat 64 (s.now - (s.engine n).dispatchedAt) } })

/-- A task ends on its engine: its command learns the outcome, its holds go, and the engine's semaphores are abandoned
(04 R113, 09 R348). Waiters of an abandoned semaphore are granted by `semSettle`. -/
def State.taskEnd (s : State) (n : Nat) (st : Status) (c : Cause) : State :=
  match (s.engine n).task with
  | none => s
  | some t =>
      let s := s.dropHolds n
      let s := s.endItem t st c
      let s := s.chargeEngine n t
      let s := s.updPar t.parcel (fun p => { p with flagWaits := p.flagWaits.filter (fun w => w.1 != n) })
      let s := s.updEng n (fun e => { e with task := none })
      s.strike (fun o => o == .engine n)

/-- The instruction position after the one just executed: the end of a body goes back to its start until its last
iteration, then on (04 R134). Innermost loop first. -/
def loopNext : List LoopFrame → Nat → List LoopFrame × Nat
  | [], pc => ([], pc)
  | l :: ls, pc =>
      if pc = l.first + l.f.body then
        if l.iter + 1 < l.f.cnt then ({ l with iter := l.iter + 1 } :: ls, l.first) else loopNext ls pc
      else (l :: ls, pc)

/-- A task moves past its instruction (04 R111). -/
def Task.advance (t : Task) : Task :=
  let (ls, pc) := loopNext t.loops (t.pc + 1)
  { t with loops := ls, pc := pc, issued := none, wait := .none }

/-- An engine's task moves past its instruction. -/
def State.advance (s : State) (n : Nat) : State := s.updEng n (fun e => { e with task := e.task.map Task.advance })

/-- What a requester of a semaphore learns (09 R347). -/
inductive AcqResult where
  | acquired | abandoned | waits | fault
deriving DecidableEq, Repr

/-- An acquire (09 R347): the semaphore's new state and the answer. -/
def Sem.acquire (m : Sem) (o : SemOwner) (abnOk : Bool) (tag : Nat) : Sem × AcqResult :=
  match m.st with
  | .free => ({ m with st := .held, owner := some o }, .acquired)
  | .abandoned => ({ m with st := .held, owner := some o }, .abandoned)
  | .held =>
      if m.owner = some o then (m, .fault)
      else ({ m with waiters := m.waiters ++ [{ owner := o, abnOk := abnOk, tag := tag }] }, .waits)

end Sys2Proof.Machine
end

