-- ==== Sys2Proof/Machine/Link.lean ====
section
/-! DEFINITION. The Statislink link layer and router: messages, flits, records, credits, routes and the transaction table
(14 R512-R546). -/
namespace Sys2Proof

/-! ## Messages (14 R537) -/

/-- The virtual channel of an opcode (14 Table 14.7); none for an unknown opcode. -/
def msgVc (op : Nat) : Option Nat :=
  if 1 ≤ op ∧ op ≤ 6 then some 1
  else if op = 9 ∨ op = 0xA then some 4
  else if op = 0xC then some 5
  else if op = 0x20 ∨ op = 0x21 then some 3
  else if op = 0x30 then some 0
  else if op = 0x40 then some 6
  else if op = 0x50 then some 7
  else if op = 0x81 ∨ op = 0x82 ∨ op = 0x84 ∨ op = 0x85 then some 2
  else none

/-- LINES of a message. -/
def Msg.lines (m : Msg) : Nat := m.ctl % 4 + 1
/-- The transaction tag. -/
def Msg.tagNo (m : Msg) : Nat := m.tag % 4096
/-- The requester's reset epoch. -/
def Msg.tepoch (m : Msg) : Nat := m.tag / 4096
/-- The STATUS byte of a response. -/
def Msg.status (m : Msg) : Nat := m.addr % 256
/-- The retry-after of a BUSY response. -/
def Msg.retry (m : Msg) : Nat := m.addr / 256 % 256

/-- The payload length of a message (14 Table 14.7): by OPCODE and LINES, and by STATUS for RDR. -/
def payloadLen (op ctl addr : Nat) : Nat :=
  let lines := ctl % 4 + 1
  match op with
  | 2 => 128 * lines
  | 3 => 144
  | 4 => 16
  | 6 => 8
  | 0xA => 128 * lines
  | 0xC => 128 * lines
  | 0x20 => 128 * lines
  | 0x30 => 128 * lines
  | 0x40 => 128
  | 0x50 => 128
  | 0x81 => if addr % 256 = 0 then 128 * lines else 0
  | 0x84 => 8
  | 0x85 => 8
  | _ => 0

/-- A request, answered by a response (14 Table 14.7). -/
def isRequest (op : Nat) : Bool := (decide (1 ≤ op) && decide (op ≤ 6)) || op == 9 || op == 0xA || op == 0xC

/-- The opcode of a request's response. -/
def responseOp (op : Nat) : Nat :=
  if op = 1 ∨ op = 9 then 0x81 else if op = 4 then 0x84 else if op = 5 then 0x85 else 0x82

/-- A message carries a nonzero reserved field (14 Table 14.6, Table 14.7). -/
def Msg.reservedSet (m : Msg) : Bool :=
  m.ctl ≥ 128 || (m.op == 6 && !(m.payload.drop 4).all (· == 0#8)) || (m.op == 0x85 && !(m.payload.drop 1).all (· == 0#8))
    || (m.op ≥ 0x81 && m.addr ≥ 2 ^ 16)

/-- The bytes of a message. -/
def Msg.encode (m : Msg) : List Byte :=
  leBytes 1 m.op ++ leBytes 1 m.ctl ++ leBytes 2 m.dest ++ leBytes 2 m.src ++ leBytes 2 m.tag ++ leBytes 2 m.fabric
    ++ leBytes 6 m.addr ++ padTo (payloadLen m.op m.ctl m.addr) m.payload

/-- A response to a request: its opcode, STATUS, and data. -/
def Msg.respond (m : Msg) (st : Status) (retry : Nat) (data : List Byte) : Msg :=
  { op := responseOp m.op, ctl := m.ctl % 4, dest := m.src, src := m.dest, tag := m.tag, fabric := m.fabric,
    addr := st.code + 256 * retry, payload := data }

end Sys2Proof

namespace Sys2Proof.Machine
open Sys2Proof

/-! ## Ports -/

/-- A port. -/
def State.port (s : State) (p : Nat) : Port := s.fab.ports.rd p
/-- Change a port. -/
def State.updPort (s : State) (p : Nat) (f : Port → Port) : State := { s with fab := { s.fab with ports := s.fab.ports.upd p f } }

/-- The credits of a virtual channel and class: half of Table 14.3's. -/
def vcCredits (vc : Nat) : Nat :=
  match vc with
  | 0 => 8 | 1 => 128 | 2 => 128 | 3 => 96 | 4 => 96 | 5 => 32 | 6 => 8 | _ => 16

/-- The virtual channels a port carries (14 R529, 15 Table 15.1; 18 R680). -/
def State.carries (s : State) (p vc : Nat) : Bool :=
  let x := s.port p
  (x.st == .active || x.st == .retrain) &&
    (vc == 0 || (!s.fatal && (match s.agree.standing with
      | .admitted => x.admitted
      | .quarantined => false
      | .fenced => vc == 6 || vc == 7)))

/-- Bits of a port's VC_MASK. -/
def State.vcMask (s : State) (p : Nat) : Nat := maskOf ((List.range 8).filter (s.carries p))

/-- The die is alone: no port is ACTIVE and carries VC0 (15 R557). -/
def State.alone (s : State) : Bool := (List.range 8).all (fun p => !((s.port p).st == .active && s.carries p 0))

/-- The first word of a flit (14 Table 14.1). -/
def flitHead (fseq ack vc cls : Nat) (trunc tagf ctrl phase : Bool) : Nat :=
  fseq % 4096 + 4096 * (ack % 4096) + 2 ^ 24 * vc + 2 ^ 27 * cls + (if trunc then 2 ^ 28 else 0) + (if tagf then 2 ^ 29 else 0)
    + (if ctrl then 2 ^ 30 else 0) + (if phase then 2 ^ 31 else 0)

/-- A flit with its CRC. -/
def flitOf (head : Nat) (content : List Byte) : List Byte :=
  let b := leBytes 4 head ++ padTo 56 content
  b ++ leBytes 4 (crc32c b)

/-- Encrypt or decrypt content at a place of a record (14 R518). -/
def gcmXor (key nonce place : Nat) (bs : List Byte) : List Byte :=
  bs.zipIdx.map (fun (x : Byte × Nat) => x.1 ^^^ Config.gcmStream key nonce (place + x.2))

/-- The content flits of a record: not control, not tag. -/
def contentFlits (r : List (List Byte)) : List (List Byte) :=
  r.filter (fun f => !bitAt (field f 0 4) 30 && !bitAt (field f 0 4) 29)

/-- The authenticated data of a record (14 R518): bytes 0-3 of its flits, whole control flits. -/
def recordAad (r : List (List Byte)) : List Byte :=
  r.flatMap (fun f => if bitAt (field f 0 4) 30 then f else f.take 4)

/-- The ciphertext of a record. -/
def recordText (r : List (List Byte)) : List Byte := (contentFlits r).flatMap (fun f => slice f 4 56)

/-- Send a sequenced flit: it takes the next FSEQ, is kept for replay and counted (14 R514, R522). -/
def State.sendSeq (s : State) (p vc cls : Nat) (tagf trunc : Bool) (content : List Byte) : State :=
  let x := s.port p
  let raw := flitOf (flitHead x.txSeq (x.rxSeq + 4095) vc cls trunc tagf false x.keyPhase) content
  let s := s.updPort p (fun x => { x with
    txSeq := (x.txSeq + 1) % 4096, txCount := x.txCount + 1, replay := x.replay ++ [raw],
    sent := x.sent.upd (vc * 2 + cls) (· + 1), txRec := if tagf then [] else x.txRec ++ [raw],
    txRecStart := if x.txRec.isEmpty then x.txCount else x.txRecStart, stats := { x.stats with flitsTx := x.stats.flitsTx + 1 } })
  s.send (.flit p raw)

/-- Close the record in progress with its tag flit, on the stream of its last content flit (14 R519). -/
def State.closeRecord (s : State) (p : Nat) : State :=
  let x := s.port p
  match (contentFlits x.txRec).getLast? with
  | none => s
  | some f =>
      let h := field f 0 4
      let tag := Config.gcmTag (x.txKey.getD 0) x.txRecStart (recordAad x.txRec) (recordText x.txRec)
      s.sendSeq p (bitsOf h 26 24) (bitsOf h 27 27) true false (padTo 16 tag ++ leBytes 2 (contentFlits x.txRec).length)

/-- Send a control flit (14 R515); within a record it is authenticated with it. -/
def State.sendCtrl (s : State) (p ctype : Nat) (fields : List Byte) : State :=
  let x := s.port p
  let raw := flitOf (flitHead 0 (x.rxSeq + 4095) 0 0 false false true x.keyPhase) (leBytes 1 ctype ++ fields)
  let s := s.updPort p (fun x => { x with txRec := if x.txRec.isEmpty then [] else x.txRec ++ [raw],
                                          stats := { x.stats with flitsTx := x.stats.flitsTx + 1 } })
  s.send (.flit p raw)

/-- Credits held on a stream (14 R522). -/
def Port.credits (x : Port) (k : Nat) : Nat := vcCredits (k / 2) - (x.sent.rd k - x.credBack.rd k)

/-- The streams in the order egress serves them (14 R524): VC7, VC6, VC0, then VC2, VC3, VC1, VC5, VC4. -/
def streamOrder : List Nat := [14, 15, 12, 13, 0, 1, 4, 5, 6, 7, 2, 3, 10, 11, 8, 9]

/-- The next stream that has a whole piece to send and credits for it and for the tag flit that closes its record; `flush`
sends short pieces, filled with zeros. -/
def State.nextStream (s : State) (p : Nat) (flush : Bool) : Option Nat :=
  let x := s.port p
  if x.st ≠ .active ∨ x.txKey.isNone ∨ x.replay.length ≥ 511 then none
  else streamOrder.find? (fun k =>
    let n := (x.out.rd k).length
    decide (n > 0) && (flush || decide (n ≥ 56)) && decide (x.credits k ≥ 2) && s.carries p (k / 2))

/-- Send what can be sent on a port (14 R514, R519, R522). -/
def pumpGo (p : Nat) (flush : Bool) : Nat → State → State
  | 0, s => s
  | n + 1, s =>
      match s.nextStream p flush with
      | none => s
      | some k =>
          let x := s.port p
          let bytes := x.out.rd k
          let place := 56 * (contentFlits x.txRec).length
          let nonce := if x.txRec.isEmpty then x.txCount else x.txRecStart
          let piece := bytes.take 56
          let content := gcmXor (x.txKey.getD 0) nonce place (padTo 56 (piece.map (·.1)))
          let s := s.updPort p (fun x => { x with out := x.out.wr k (bytes.drop 56) })
          let s := s.sendSeq p (k / 2) (k % 2) false (piece.any (·.2)) content
          let s := if (contentFlits (s.port p).txRec).length ≥ 15 then s.closeRecord p else s
          pumpGo p flush n s

/-- Send whole pieces on a port. -/
def State.pump (s : State) (p : Nat) : State := pumpGo p false 1024 s

/-- The bytes of a message, those past what arrived marked as padding (14 R545). -/
def msgStream (m : Msg) : List (Byte × Bool) :=
  m.encode.zipIdx.map (fun (x : Byte × Nat) => (x.1, match m.kept with | some n => decide (x.2 ≥ 16 + n) | none => false))

/-- Put a message's bytes on a stream of a port and send what can be sent. -/
def State.putMsg (s : State) (p cls : Nat) (m : Msg) : State :=
  let k := (msgVc m.op).getD 0 * 2 + cls
  let s := s.send (.msg p m)
  (s.updPort p (fun x => { x with out := x.out.upd k (· ++ msgStream m) })).pump p

/-! ## Routing (14 R531-R536) -/

/-- A message cannot be routed: counted, and a request is answered FAULTED (14 R535). The answer of a request of this die is
delivered here. -/
def State.noRoute (s : State) (m : Msg) : State × Option Msg :=
  let s := s.emit 71 0x405 0xFF m.dest
  if isRequest m.op then (s, some { m.respond .faulted 0 [] with src := s.dieId }) else (s, none)

/-- Send a message by its route: by PORT while it is ACTIVE and carries the channel, by ALT where PORT is DOWN or DISABLED;
else it waits (14 R532). `cls` is the class it has. Answers none where no entry is valid. -/
def State.byRoute (s : State) (cls : Nat) (m : Msg) : Option State :=
  let e := s.fab.routes.rd m.dest
  if !bitAt e 3 then none
  else
    let c := match bitsOf e 9 8 with | 1 => 1 | 2 => 0 | _ => cls
    let vc := (msgVc m.op).getD 0
    let p := e % 8
    let x := s.port p
    let q := if (x.st == .down || x.st == .disabled) && bitAt e 7 then bitsOf e 6 4 else p
    if s.carries q vc then some (s.putMsg q c m)
    else some { s with fab := { s.fab with waitOut := s.fab.waitOut ++ [(q, c, m)] } }

/-- Deliver a message to this die's units. -/
def State.arrive (s : State) (m : Msg) : State := { s with fab := { s.fab with arrived := s.fab.arrived ++ [m] } }

/-- Forward a broadcast on every ACTIVE port that carries its channel but one (14 R536). -/
def State.forwardAll (s : State) (from' : Option Nat) (m : Msg) : State :=
  (List.range 8).foldl (fun s p =>
    if some p = from' ∨ (s.port p).st ≠ .active ∨ s.carries p ((msgVc m.op).getD 0) = false then s else s.putMsg p 0 m) s

/-- A message at the router (14 R532, R535-R537, R573): `from'` is the port it came by, none for one of this die. -/
def State.route (s : State) (from' : Option Nat) (cls : Nat) (m : Msg) : State :=
  match msgVc m.op with
  | none => { s with fab := { s.fab with discarded := s.fab.discarded + 1 } }
  | some vc =>
      if m.reservedSet then
        let s := { s with fab := { s.fab with discarded := s.fab.discarded + 1 } }
        if isRequest m.op then
          let r : Msg := { m.respond .unsupported 0 [] with src := s.dieId }
          if r.dest = s.dieId then s.arrive r
          else match s.byRoute 0 r with
            | some s => s
            | none => s.emit 71 0x405 0xFF r.dest
        else s
      else if m.dest = 0xFFFF then
        if vc = 0 ∨ vc = 6 then
          if s.fab.seen.contains (m.src, m.tag) then s
          else
            let s := { s with fab := { s.fab with seen := ((m.src, m.tag) :: s.fab.seen).take 4096 } }
            let s := if from'.isSome then s.arrive m else s
            s.forwardAll from' m
        else if vc = 3 then s.arrive m
        else s.emit 71 0x409 0xFF vc
      else if m.dest = s.dieId then s.arrive m
      else
        match s.byRoute cls m with
        | some s => s
        | none =>
            match s.noRoute m with
            | (s, none) => s
            | (s, some r) =>
                if r.dest = s.dieId then s.arrive r
                else match s.byRoute 0 r with
                  | some s => s
                  | none => s.emit 71 0x405 0xFF r.dest

/-- Messages that wait for a port leave once it carries their channel (14 R532). -/
def State.freeWaiting (s : State) (p : Nat) : State :=
  let go := s.fab.waitOut.filter (fun w => w.1 == p && s.carries p ((msgVc w.2.2.op).getD 0))
  let s := { s with fab := { s.fab with waitOut := s.fab.waitOut.filter (fun w => !go.contains w) } }
  (go.foldl (fun s w => s.putMsg p w.2.1 w.2.2) s).pump p

/-- Originate a broadcast: BSEQ rises by 1 (15 R573), at most 1,000 in a second. -/
def State.broadcast (s : State) (m : Msg) : State :=
  let recent := s.fab.bcastAt.filter (fun t => decide (s.now < t + 1000000000))
  if recent.length ≥ 1000 then s
  else
    let m := { m with dest := 0xFFFF, src := s.dieId, tag := s.fab.bseq }
    let s := { s with fab := { s.fab with bseq := (s.fab.bseq + 1) % 65536, bcastAt := s.now :: recent } }
    s.route none 0 m

/-! ## The transaction table (14 R539-R543) -/

/-- The gathered transfer of an owner. -/
def State.gatherOf (s : State) (o : GOwner) : Option Gather := s.fab.gathers.find? (fun g => g.owner == o)

/-- Change the gathered transfer of an owner. -/
def State.updGather (s : State) (o : GOwner) (f : Gather → Gather) : State :=
  { s with fab := { s.fab with gathers := s.fab.gathers.map (fun g => if g.owner = o then f g else g) } }

/-- Drop an owner's transfer; what is outstanding for it is answered to no one. -/
def State.dropGather (s : State) (o : GOwner) : State :=
  { s with fab := { s.fab with gathers := s.fab.gathers.filter (fun g => g.owner != o),
                               txns := s.fab.txns.updListed (fun _ t => if t.owner = o then { t with owner := .none } else t) } }

/-- A transfer is complete: nothing to send and nothing outstanding. -/
def Gather.ready (g : Gather) : Bool := g.todo.isEmpty && g.outstanding == 0 && g.retry.isNone

/-- The number of a free tag. -/
def State.freeTag (s : State) : Option Nat := (List.range 4096).find? (fun t => !(s.fab.txns.rd t).held)

/-- A request writes its line (14 R540). -/
def writesLine (op : Nat) : Bool := op == 2 || op == 3 || op == 4 || op == 0xA || op == 0xC

/-- The 128-byte lines a request touches. -/
def Req.lineSet (r : Req) : List Nat := (List.range (r.ctl % 4 + 1)).map (· + r.addr / 128)

/-- An earlier write or atomic to one of the request's lines is outstanding (14 R540). -/
def State.lineHeld (s : State) (r : Req) : Bool :=
  writesLine r.op && s.fab.txns.any (fun e =>
    let t := e.2
    t.held && !t.timedOut && t.dest == r.dest && writesLine t.req.op && t.req.lineSet.any (fun l => r.lineSet.contains l))

/-- The status with which a request to a die ends at once (15 Table 15.1, R572). -/
def State.barred (s : State) (die : Nat) : Option Status :=
  match s.agree.standing with
  | .quarantined => some .quarantined
  | .fenced => some .denied
  | .admitted =>
      match s.agree.notices.rd die with
      | 2 => some .quarantined
      | 3 => some .denied
      | _ => none

/-- Count bytes moved over a port for the job of a transfer, in a metered parcel (11 R428). -/
def State.chargeSp (s : State) (o : GOwner) (dest n : Nat) : State :=
  let who := match o with
    | .step q _ _ => s.jobOf q
    | .image p k => some (p, k)
    | _ => none
  match who with
  | none => s
  | some (p, k) =>
      if (s.parcel p).tally then s
      else
        let port := s.fab.routes.rd dest % 8
        s.updJob p k (fun j => { j with acct := { j.acct with
          bytesSp := listSet j.acct.bytesSp port (j.acct.bytesSp.getD port 0 + BitVec.ofNat 64 n) } })

/-- Send what a transfer can send: a request takes a free tag and waits while none is free or its line is held (14 R539,
R540). -/
def issueGo (o : GOwner) : Nat → State → State
  | 0, s => s
  | n + 1, s =>
      match s.gatherOf o with
      | none => s
      | some g =>
          match g.todo with
          | [] => s
          | r :: rest =>
              match s.barred r.dest with
              | some st => s.updGather o (fun g => { g with todo := [], failed := some (g.failed.getD (st, .none)) })
              | none =>
                  if s.lineHeld r then s
                  else match s.freeTag with
                    | none => s
                    | some t =>
                        let x : Txn := { held := true, dest := r.dest, req := r, owner := o,
                                         deadline := s.now + 1000 * s.fab.txnTimeoutUs }
                        let s := s.updGather o (fun g => { g with todo := rest, outstanding := g.outstanding + 1 })
                        let s := { s with fab := { s.fab with txns := s.fab.txns.wr t x, issued := s.fab.issued + 1 } }
                        let m : Msg := { op := r.op, ctl := r.ctl, dest := r.dest, src := s.dieId,
                                         tag := t + 4096 * (s.fab.tepoch % 16), fabric := r.fabric, addr := r.addr,
                                         payload := r.payload }
                        issueGo o n ((s.route none 0 m).chargeSp o r.dest m.encode.length)

/-- Send what every transfer can send. -/
def State.issueAll (s : State) : State :=
  (s.fab.gathers.map (·.owner)).foldl (fun s o => issueGo o 8192 s) s

/-- Start a transfer. -/
def State.startGather (s : State) (g : Gather) : State :=
  issueGo g.owner 8192 { s with fab := { s.fab with gathers := s.fab.gathers ++ [g] } }

/-- A tag is freed by its response or at its release (14 R543): counted, and its owner learns the outcome. -/
def State.endTag (s : State) (t : Nat) (failed : Option (Status × Cause)) (data : List Byte) : State :=
  let x := s.fab.txns.rd t
  let s := { s with fab := { s.fab with txns := s.fab.txns.wr t {}, completed := s.fab.completed + 1 } }
  let s := s.chargeSp x.owner x.dest (16 + data.length)
  let s := s.updGather x.owner (fun g => { g with
    outstanding := g.outstanding - 1,
    todo := if failed.isSome then [] else g.todo,
    failed := if g.failed.isSome then g.failed else failed,
    buf := if failed.isSome then g.buf else memWrite g.buf x.req.off (slice data x.req.skip x.req.len) })
  s.issueAll

/-- End every outstanding request to a die with a status (14 R545, 15 R572). -/
def State.endTagsTo (s : State) (die : Nat) (st : Status) : State :=
  ((s.fab.txns.filter (fun e => e.2.held && e.2.dest == die && !e.2.timedOut)).map Prod.fst).foldl
    (fun s t => s.endTag t (some (st, .none)) []) s

/-- A status from its code. -/
def statusOf (n : Nat) : Status :=
  match n with
  | 0 => .ok | 1 => .busy | 2 => .notReady | 3 => .denied | 4 => .faulted | 5 => .abandoned | 6 => .truncated
  | 7 => .quarantined | 8 => .unleveled | 9 => .corrupt | 10 => .withdrawn | 11 => .retired | 12 => .replay
  | _ => .unsupported

/-- A message is taken from those delivered, where it stands among them. -/
def State.take (s : State) (m : Msg) : State := { s with fab := { s.fab with arrived := s.fab.arrived.erase m } }

/-- A response is matched with its tag: a wrong TEPOCH, a tag not held, or one timed out makes it late (14 R542, R543).
Answers the tag of a response in time. -/
def State.matchResponse (s : State) (m : Msg) : State × Option Nat :=
  let x := s.fab.txns.rd m.tagNo
  if m.tepoch ≠ s.fab.tepoch % 16 ∨ x.held = false ∨ m.op ≠ responseOp x.req.op then (s.emit 71 0x407 0xFF m.src, none)
  else if x.timedOut then
    let s := s.emit 71 0x407 0xFF m.src
    (({ s with fab := { s.fab with txns := s.fab.txns.wr m.tagNo {}, timedOut := s.fab.timedOut + 1 } }).issueAll, none)
  else (s, some m.tagNo)

/-- The failure a response of a nonzero status carries: no route and refused checks at the target give EXEC where FAULTED. -/
def respFailure (m : Msg) : Option (Status × Cause) :=
  if m.status = 0 then none
  else
    let st := statusOf m.status
    some (st, if st = .faulted then .exec else .none)

/-- RDR (14 R542, R543). -/
def execRdr (m : Msg) (s : State) : Out :=
  .next (match (s.take m).matchResponse m with
    | (s, none) => s
    | (s, some t) => s.endTag t (respFailure m) m.payload)

/-- SL_ACK (14 R336, R540, R543): the write is applied at its target. -/
def execSlAck (m : Msg) (s : State) : Out :=
  .next (match (s.take m).matchResponse m with
    | (s, none) => s
    | (s, some t) => s.endTag t (respFailure m) [])

/-- ATOMR (14 R543; 09 R342): the previous value. -/
def execAtomr (m : Msg) (s : State) : Out :=
  .next (match (s.take m).matchResponse m with
    | (s, none) => s
    | (s, some t) => s.endTag t (respFailure m) m.payload)

/-- SEMR (14 R543; 09 R351, R354): the result of a remote semaphore step; a BUSY is kept for SEM_REMOTE_RETRY. -/
def execSemr (m : Msg) (s : State) : Out :=
  .next (match (s.take m).matchResponse m with
    | (s, none) => s
    | (s, some t) =>
        if m.status = 1 then
          let x := s.fab.txns.rd t
          let s := { s with fab := { s.fab with txns := s.fab.txns.wr t {}, completed := s.fab.completed + 1 } }
          s.updGather x.owner (fun g => { g with outstanding := g.outstanding - 1, retry := some x.req,
                                                 retryAt := s.now + 1000 * m.retry })
        else s.endTag t (respFailure m) m.payload)

/-- SEM_REMOTE_RETRY (09 R354): an acquire answered BUSY is sent again by this die after the retry-after. -/
def execSemRemoteRetry (q : Fin 1024) (s : State) : Out :=
  .next (
    match s.fab.gathers.find? (fun g => g.retry.isSome && (match g.owner with | .step k _ _ => k == q.val | _ => false)) with
    | some g =>
        match g.retry with
        | some r =>
            let s := s.reach g.retryAt
            issueGo g.owner 8 (s.updGather g.owner (fun g => { g with todo := [r], retry := none }))
        | none => s
    | none => s)

/-- TXN_TIMEOUT (14 R542): no response in time; the step ends TRUNCATED and the tag stays held. -/
def execTxnTimeout (t : Fin 4096) (s : State) : Out :=
  .next (
    let x := s.fab.txns.rd t
    if !x.held || x.timedOut then s
    else
      let s := (s.reach x.deadline).emit 71 0x406 0xFF x.dest
      let s := { s with fab := { s.fab with txns := s.fab.txns.wr t { x with timedOut := true } } }
      s.updGather x.owner (fun g => { g with outstanding := g.outstanding - 1, todo := [],
                                             failed := some (g.failed.getD (.truncated, .none)) }))

/-- TAG_RELEASE_TIMEOUT (14 R542): twice TXN_TIMEOUT_US has passed. -/
def execTagReleaseTimeout (t : Fin 4096) (s : State) : Out :=
  .next (
    let x := s.fab.txns.rd t
    if !x.held || !x.timedOut then s
    else
      let s := s.reach (x.deadline + 1000 * s.fab.txnTimeoutUs)
      ({ s with fab := { s.fab with txns := s.fab.txns.wr t {}, timedOut := s.fab.timedOut + 1 } }).issueAll)

/-- ROUTE_TABLE_WRITE (14 R531, R533): entries from a byte offset; CLS 3 and reserved bits are refused. -/
def execRouteTableWrite (by' : Principal) (first : Fin 65536) (entries : List U16) (s : State) : Out :=
  .next (s.served 40 fun s =>
    if by' ≠ .surv ∧ by' ≠ .hostk ∧ by' ≠ .rtp then s.answer .denied
    else if entries.any (fun e => bitsOf e.toNat 9 8 = 3 || bitsOf e.toNat 15 10 ≠ 0) ∨ first.val + entries.length > 65536 then
      s.answer .unsupported
    else
      let rt := entries.zipIdx.foldl (fun (t : Tab Nat) (e : U16 × Nat) => t.wr (first.val + e.2) e.1.toNat) s.fab.routes
      ({ s with fab := { s.fab with routes := rt } }).answer .ok)

end Sys2Proof.Machine
end

