-- ==== Sys2Proof/Machine/Sems.lean ====
section
/-! DEFINITION. The grant of semaphores to their waiters, and the end of a task (09 R349-R353; 04 R113). -/
namespace Sys2Proof.Machine
open Sys2Proof

/-- A waiter learns that it holds the semaphore: an engine's task goes on, a command's step is done, a remote request
is answered by the caller's message (09 R351-R353). -/
def State.tellGrant (s : State) (w : SemWaiter) (abandoned : Bool) : State :=
  match w.owner with
  | .engine n =>
      (s.updEng n (fun e => { e with task := e.task.map (fun t =>
        { t with flags := t.flags.or { abn := abandoned } }) })).advance n
  | .queue q =>
      s.updQ q (fun x => match x.consumed with
        | c :: cs => { x with consumed := { c.setItem w.tag (.done .ok .none) with flags := c.flags.or { abn := abandoned } } :: cs }
        | [] => x)
  | .die d _ => s.route none 0 { op := 0x85, dest := d, src := s.dieId, tag := w.tag,
                                 payload := padTo 8 (leBytes 1 (if abandoned then 1 else 0)) }

/-- A waiter that does not accept ACQUIRED_ABANDONED ends with ABANDONED (04 R143, 09 R351). -/
def State.tellAbandoned (s : State) (w : SemWaiter) : State :=
  match w.owner with
  | .engine n => s.taskEnd n .abandoned .none
  | .queue q =>
      s.updQ q (fun x => match x.consumed with
        | c :: cs => { x with consumed := c.setItem w.tag (.done .abandoned .none) :: cs }
        | [] => x)
  | .die d _ => s.route none 0 { op := 0x85, dest := d, src := s.dieId, tag := w.tag, addr := Status.code .abandoned,
                                 payload := padTo 8 (leBytes 1 1) }

/-- Grant free and abandoned semaphores to their first waiters until none of those has a waiter (09 R349, R352, R353).
Each round takes one waiter off a queue, so the number of waiters bounds the rounds. -/
def semSettleGo : Nat → State → State
  | 0, s => s
  | k + 1, s =>
      match (s.sems.map Prod.fst).find? (fun n => (s.sems.rd n).st != .held && !(s.sems.rd n).waiters.isEmpty) with
      | none => s
      | some n =>
          let m := s.sems.rd n
          match m.waiters with
          | [] => s
          | w :: ws =>
              let ab := m.st == .abandoned
              if ab && !w.abnOk then
                semSettleGo k (({ s with sems := s.sems.wr n { m with waiters := ws } }).tellAbandoned w)
              else
                semSettleGo k (({ s with sems := s.sems.wr n { m with st := .held, owner := some w.owner, waiters := ws } }).tellGrant w ab)

/-- Grant what can be granted. -/
def State.semSettle (s : State) : State :=
  semSettleGo (s.sems.foldl (fun k p => k + p.2.waiters.length) 0) s

/-- A task ends, and what that frees is granted. -/
def State.finishTask (s : State) (n : Nat) (st : Status) (c : Cause) : State := (s.taskEnd n st c).semSettle

end Sys2Proof.Machine
end

