-- ==== Sys2Proof/Machine/CollOps.lean ====
section
/-! DEFINITION. The collective contexts, their members and trees, and their abort (14 R547-R549, R554). -/
namespace Sys2Proof.Machine
open Sys2Proof

/-- Insert a number in rising order, once. -/
def insNat (n : Nat) : List Nat → List Nat
  | [] => [n]
  | x :: xs => if n < x then n :: x :: xs else if n = x then x :: xs else x :: insNat n xs

/-- The member dies of a fabric parcel, rising (14 R549; 15 R564). -/
def State.fabricDies (s : State) (fabricId : Nat) : List Nat :=
  match s.agree.datum.plat.find? (fun e => e.fparcel == fabricId) with
  | some e => e.ranges.foldl (fun l r => (List.range (r.2 + 1 - r.1)).foldl (fun l k => insNat (r.1 + k) l) l) []
  | none => []

/-- A context. -/
def State.coll (s : State) (c : Nat) : Coll := s.fab.colls.rd c
/-- Change a context. -/
def State.updColl (s : State) (c : Nat) (f : Coll → Coll) : State := { s with fab := { s.fab with colls := s.fab.colls.upd c f } }

/-- The members of a context by rank (14 R549): rising die IDs turned so that the root comes first. -/
def State.ranked (s : State) (c : Coll) : List Nat :=
  let ms := s.fabricDies (s.parcel c.parcel).fabricId
  let root := if c.kind = 1 ∨ c.kind = 2 then c.root else ms.headD 0
  let j := (ms.findIdx? (· == root)).getD 0
  ms.drop j ++ ms.take j

/-- This die's rank, its parent and its children (14 R549). -/
def State.treePlace (s : State) (c : Coll) : Nat × Option Nat × Option Nat × Option Nat :=
  let ms := s.ranked c
  let k := (ms.findIdx? (· == s.dieId)).getD 0
  (k, if k = 0 then none else ms[(k - 1) / 2]?, ms[2 * k + 1]?, ms[2 * k + 2]?)

/-- End the pending segments of a context here: their steps end FAULTED, cause EXEC, and the context is FAULTED (14 R554). -/
def State.failColl (s : State) (c : Nat) : State :=
  let x := s.coll c
  let s := x.segs.foldl (fun (s : State) (e : CollSeg) => match e.cmd with
    | some (q, serial, i) => s.setItem q serial i (.done .faulted .exec)
    | none => s) s
  (s.updColl c (fun x => { x with faulted := true, segs := [] })).emit 71 0x40A 0xFF c

/-- Abort a context: every other member is sent CABORT, and it ends here (14 R554, R555). -/
def State.abortColl (s : State) (c : Nat) : State :=
  let x := s.coll c
  let fid := (s.parcel x.parcel).fabricId
  let s := ((s.fabricDies fid).filter (· ≠ s.dieId)).foldl (fun (s : State) d =>
    s.route none 0 { op := 0x21, dest := d, src := s.dieId, fabric := fid, addr := c }) s
  s.failColl c

/-- A stopped command's contributions abort their contexts (14 R554). -/
def State.abortCollsOf (s : State) (q serial : Nat) : State :=
  (List.range 8).foldl (fun s c =>
    if (s.coll c).segs.any (fun e => match e.cmd with | some (k, n, _) => k == q && n == serial | none => false) then s.abortColl c
    else s) s

end Sys2Proof.Machine
end

