-- ==== Sys2Proof/Machine/Memory.lean ====
section
/-! DEFINITION. Access to memory: the physical map and its owners (07 R245-R248), the Device Cache (07 R235-R242), the
directory (07 R251-R258), and reads and writes through the extents of a record (08 R291). -/
namespace Sys2Proof.Machine
open Sys2Proof

/-- The size of a controller's window of physical addresses (07 R245). -/
def mcWindow : Nat := 0x400000000

/-- The bytes of a controller that requests reach: its populated capacity, less the top sixteenth that holds check
bytes in mode 1 (07 R245, R264). -/
def Mc.reach (m : Mc) : Nat :=
  let cap := m.gib * 1024 * 1024 * 1024
  if m.eccInForce = 1 then cap - cap / 16 else cap

/-- The parcel that owns a controller, if any (07 R246). -/
def State.mcOwner (s : State) (c : Nat) : Option Nat :=
  (List.range 8).find? (fun p => bitAt (s.parcel p).controllers c)

/-- The size of the resume area (16 R602). -/
def resumeBytes : Nat := 4 * 1024 * 1024

/-- The resume area overlaps a physical range (16 R602). -/
def State.inResume (s : State) (pa len : Nat) : Bool :=
  match s.power.resumeArea with
  | some b => decide (b < pa + len ∧ pa < b + resumeBytes)
  | none => false

/-- Whether an access of physical addresses reaches memory (07 R245). -/
def State.paReaches (s : State) (pa len : Nat) : Bool :=
  let c := pa / mcWindow
  let m := s.mem.mc.rd c
  decide (c < 4) && m.st == .running && decide (pa % mcWindow + len ≤ m.reach)

/-- Who makes an access: a parcel's work, for its holding job or for the job of a named slot, or the host and the kernel driver's own
reads (07 R237). -/
inductive Who where
  | parcel (p : Nat) | job (p slot : Nat) | host
deriving DecidableEq, Repr

/-- The parcel an access is for. -/
def Who.par : Who → Option Nat
  | .parcel p => some p
  | .job p _ => some p
  | .host => none

/-- Whether the owner of a controller lets a requester reach it (07 R246, R247). -/
def State.paAllowed (s : State) (w : Who) (pa len : Nat) : Bool :=
  !s.inResume pa len &&
  match s.mcOwner (pa / mcWindow) with
  | none => true
  | some p => w.par == some p

/-! ## The Device Cache -/

/-- The set of a physical address (07 R235). -/
def dcSet (pa : Nat) : Nat := bitsOf pa 19 7
/-- The tag of a physical address (07 R235). -/
def dcTag (pa : Nat) : Nat := bitsOf pa 35 20

/-- The ways of a requester (07 R236, R237). -/
def State.waysOf (s : State) (w : Who) : Nat :=
  match w.par with
  | some p => (s.parcel p).dcWays
  | none => s.mem.hostWays

/-- The index of a way's line in the table. -/
def dcKey (way set : Nat) : Nat := way * 8192 + set

/-- The way that holds a line, if any. -/
def State.dcFind (s : State) (pa : Nat) : Option Nat :=
  (List.range 16).find? (fun w => let l := s.mem.dc.rd (dcKey w (dcSet pa)); l.valid && l.tag == dcTag pa)

/-- Mark a way most recently used in a set's tree of 15 nodes: each node on its path points away from it (07 R238). -/
def plruTouch (bits way : Nat) : Nat :=
  (List.range 4).foldl (fun b d =>
    let node := 2 ^ d - 1 + way / 2 ^ (4 - d)
    let right := bitAt way (3 - d)
    if right then b &&& (0xFFFF ^^^ (1 <<< node)) else b ||| (1 <<< node)) bits

/-- The way the tree points at, among the candidate ways: at each node the pointed half, or the other where the pointed
half holds no candidate (07 R238). -/
def plruVictim (bits cand : Nat) : Nat → Nat → Nat
  | 0, lo => lo
  | d + 1, lo =>
      let size := 2 ^ (d + 1)
      let half := size / 2
      let node := 16 / size - 1 + lo / size
      let leftHas := (bitsOf cand (lo + half - 1) lo) != 0
      let rightHas := (bitsOf cand (lo + size - 1) (lo + half)) != 0
      if (bitAt bits node && rightHas) || !leftHas then plruVictim bits cand d (lo + half) else plruVictim bits cand d lo

/-- The advice in force at a DVA of a parcel: the newest range that covers it (08 R324). -/
def State.adviceAt (s : State) (p dva : Nat) : Advice :=
  match (s.xlat.advice.rd p).reverse.find? (fun r => decide (r.start ≤ dva ∧ dva < r.start + r.len)) with
  | some r => r.kind
  | none => .normal

/-- The victim way for a line among a requester's ways: an invalid one, else the tree's choice, lines without KEEP
advice before those with it (07 R238, 08 R323). `keep` tells which ways hold kept lines. -/
def State.dcVictim (s : State) (ways keep set : Nat) : Nat :=
  match (maskBits 16 ways).find? (fun w => !(s.mem.dc.rd (dcKey w set)).valid) with
  | some w => w
  | none =>
      let plain := maskOf ((maskBits 16 ways).filter (fun w => !bitAt keep w))
      plruVictim (s.mem.plru.rd set) (if plain = 0 then ways else plain) 4 0

/-- The ways of a set that hold lines under KEEP advice (08 R323). -/
def State.keptWays (s : State) (set : Nat) : Nat :=
  maskOf ((List.range 16).filter (fun w =>
    let l := s.mem.dc.rd (dcKey w set)
    l.valid && decide (l.owner < 8) && s.adviceAt l.owner l.dva == .keep))

/-- A line passes through the Device Cache: a hit is used where it lies, a miss allocates in the requester's ways unless
it has none or the access does not allocate (07 R237-R239; 08 R323, R325). -/
def State.dcTouch (s : State) (w : Who) (pa dva : Nat) (write alloc : Bool) : State :=
  let set := dcSet pa
  match s.dcFind pa with
  | some way =>
      let dc := s.mem.dc.upd (dcKey way set) (fun l => { l with dirty := l.dirty || write })
      { s with mem := { s.mem with dc := dc, plru := s.mem.plru.upd set (plruTouch · way) } }
  | none =>
      let ways := s.waysOf w
      if ways = 0 ∨ alloc = false then s
      else
        let way := s.dcVictim ways (s.keptWays set) set
        let owner := w.par.getD 8
        let dc := s.mem.dc.wr (dcKey way set) { valid := true, tag := dcTag pa, dirty := write, owner := owner, dva := dva }
        { s with mem := { s.mem with dc := dc, plru := s.mem.plru.upd set (plruTouch · way) } }

/-- Clear a way: its lines written back, invalidated and zeroed (07 R240). Its data lies in memory already. -/
def State.wayClear (s : State) (way : Nat) : State :=
  { s with mem := { s.mem with dc := s.mem.dc.filter (fun p => !decide (p.1 / 8192 = way)) } }

/-- Clear every way of a mask (07 R240, R241). -/
def State.waysClear (s : State) (mask : Nat) : State := (maskBits 16 mask).foldl (fun s w => s.wayClear w) s

/-- Invalidate a line wherever it is held, its data written back (08 R323, DROP). -/
def State.dcDrop (s : State) (pa : Nat) : State :=
  match s.dcFind pa with
  | some way => { s with mem := { s.mem with dc := s.mem.dc.wr (dcKey way (dcSet pa)) default } }
  | none => s

/-! ## The directory, for the device's own accesses -/

/-- The host agents a line's state names. -/
def LineState.hosts : LineState → List Agent
  | .uncached => []
  | .shared hs => hs.filter (fun a => match a with | .host _ => true | _ => false)
  | .owned h => [.host h]

/-- The line numbers of a byte range. -/
def linesOf (pa len : Nat) : List Nat :=
  if len = 0 then [] else (List.range ((pa + len - 1) / 128 + 1 - pa / 128)).map (· + pa / 128)

/-- A home write must wait for a line: a transaction is in service or a host agent holds it (07 R253, R258). A home read
waits only for an owner. -/
def State.lineBusy (s : State) (write : Bool) (l : Nat) : Bool :=
  let d := s.mem.dir.rd l
  d.txn.isSome || (match d.st with
    | .owned _ => true
    | st => write && !st.hosts.isEmpty)

/-- The home snoops the host agents that stand in the way of its own access (07 R258). -/
def State.homeSnoop (s : State) (write : Bool) (l : Nat) : State :=
  let d := s.mem.dir.rd l
  if d.txn.isSome then s
  else
    let hs := d.st.hosts
    if hs.isEmpty then s
    else
      let s := hs.foldl (fun s a => s.send (.snoop a write l)) s
      let rq : DirReq := if write then .homeWrite else .homeRead
      let t : DirTxn := { req := rq, asked := rq, awaiting := hs }
      { s with mem := { s.mem with dir := s.mem.dir.wr l { d with txn := some t } } }

/-- A home write invalidates the device's own shared copies of a line (03 R101, 07 R258). -/
def State.homeInval (s : State) (l : Nat) : State :=
  let d := s.mem.dir.rd l
  match d.st with
  | .shared _ => { s with mem := { s.mem with dir := s.mem.dir.wr l { d with st := .uncached } } }
  | _ => s

/-! ## Accesses through extents -/

/-- The outcome of an access: done, waiting for the home's snoops or for a remote die, or refused. -/
inductive Acc (α : Type) where
  | ok (a : α) (s : State)
  | wait (s : State)
  | remote (die addr : Nat)
  | fail (st : Status) (c : Cause)

/-- Where a byte run of a region lies: backing and address, and whether it may allocate. -/
structure Piece where
  back : Backing
  addr : Nat
  len : Nat
  nocache : Bool
  dva : Nat
deriving DecidableEq, Repr

/-- The pieces of a DVA run within the extents of a record (08 R291); none where the run leaves them. -/
def pieces (exts : List Extent) : Nat → Nat → Nat → Option (List Piece)
  | 0, _, len => if len = 0 then some [] else none
  | fuel + 1, dva, len =>
      if len = 0 then some []
      else
        match exts.find? (fun e => decide (e.dva ≤ dva ∧ dva < e.dva + e.len)) with
        | none => none
        | some e =>
            let n := Nat.min len (e.dva + e.len - dva)
            (pieces exts fuel (dva + n) (len - n)).map
              (fun ps => { back := e.back, addr := e.addr + (dva - e.dva), len := n, nocache := e.nocache, dva := dva } :: ps)

/-- The job whose account an access goes to. -/
def State.payer (s : State) : Who → Option (Nat × Nat)
  | .host => none
  | .parcel p => (s.parcel p).holder.map (fun k => (p, k))
  | .job p k => some (p, k)

/-- Count bytes moved at a controller for a job: its commands, infusions and saves (11 R428). -/
def State.chargeMc (s : State) (w : Who) (pa len : Nat) : State :=
  match s.payer w with
  | none => s
  | some (p, slot) =>
          if (s.parcel p).tally || (s.job p slot).st == .ended then s
          else s.updJob p slot (fun j =>
            let c := pa / mcWindow
            { j with acct := { j.acct with bytesMc := listSet j.acct.bytesMc c (j.acct.bytesMc.getD c 0 + BitVec.ofNat 64 len) } })

/-- The line of a piece may allocate in the Device Cache: not NOCACHE and not under STREAM advice. -/
def State.mayAlloc (s : State) (w : Who) (p : Piece) : Bool :=
  !p.nocache && (match w.par with | some q => s.adviceAt q p.dva != .stream | none => true)

/-- Read one piece. -/
def State.readPiece (s : State) (w : Who) (p : Piece) : Acc (List Byte) :=
  match p.back with
  | .host => .ok (memRead s.mem.host p.addr p.len) s
  | .fabric d => .remote d p.addr
  | .loc =>
      if !s.paReaches p.addr p.len || !s.paAllowed w p.addr p.len then .fail .faulted .exec
      else
        let ls := linesOf p.addr p.len
        if ls.any (s.lineBusy false) then .wait (ls.foldl (fun s l => s.homeSnoop false l) s)
        else if s.mem.badLoc.any (fun l => ls.contains l) then .fail .faulted .uncorr
        else
          let s := ls.foldl (fun s l => s.dcTouch w (l * 128) (p.dva + l * 128 - p.addr) false (s.mayAlloc w p)) s
          let s := s.chargeMc w p.addr p.len
          .ok (memRead s.mem.loc p.addr p.len) s

/-- Write one piece, in lines each whole or masked (08 R315). -/
def State.writePiece (s : State) (w : Who) (p : Piece) (bs : List Byte) : Acc Unit :=
  match p.back with
  | .host => .ok () { s with mem := { s.mem with host := memWrite s.mem.host p.addr bs } }
  | .fabric d => .remote d p.addr
  | .loc =>
      if !s.paReaches p.addr p.len || !s.paAllowed w p.addr p.len then .fail .faulted .exec
      else
        let ls := linesOf p.addr p.len
        if ls.any (s.lineBusy true) then .wait (ls.foldl (fun s l => s.homeSnoop true l) s)
        else
          let s := ls.foldl (fun s l => (s.homeInval l).dcTouch w (l * 128) (p.dva + l * 128 - p.addr) true (s.mayAlloc w p)) s
          let s := s.chargeMc w p.addr p.len
          let whole := ls.filter (fun l => decide (p.addr ≤ l * 128 ∧ l * 128 + 128 ≤ p.addr + p.len))
          .ok () { s with mem := { s.mem with loc := memWrite s.mem.loc p.addr bs,
                                              badLoc := s.mem.badLoc.filter (fun l => !whole.contains l) } }

/-- Read pieces in order. -/
def State.readPieces (s : State) (w : Who) : List Piece → Acc (List Byte)
  | [] => .ok [] s
  | p :: ps =>
      match s.readPiece w p with
      | .ok bs s =>
          match s.readPieces w ps with
          | .ok cs s => .ok (bs ++ cs) s
          | .wait s => .wait s
          | .remote d a => .remote d a
          | .fail st c => .fail st c
      | .wait s => .wait s
      | .remote d a => .remote d a
      | .fail st c => .fail st c

/-- Write bytes over pieces in order. -/
def State.writePieces (s : State) (w : Who) : List Piece → List Byte → Acc Unit
  | [], _ => .ok () s
  | p :: ps, bs =>
      match s.writePiece w p (bs.take p.len) with
      | .ok _ s => s.writePieces w ps (bs.drop p.len)
      | .wait s => .wait s
      | .remote d a => .remote d a
      | .fail st c => .fail st c

/-- Read a DVA run through extents; a run outside them faults the reader (08 R291). -/
def State.readDva (s : State) (w : Who) (exts : List Extent) (dva len : Nat) : Acc (List Byte) :=
  match pieces exts 65 dva len with
  | none => .fail .faulted .exec
  | some ps => s.readPieces w ps

/-- Write a DVA run through extents. -/
def State.writeDva (s : State) (w : Who) (exts : List Extent) (dva : Nat) (bs : List Byte) : Acc Unit :=
  match pieces exts 65 dva bs.length with
  | none => .fail .faulted .exec
  | some ps => s.writePieces w ps bs

end Sys2Proof.Machine
end

