-- ==== Sys2Proof/Machine/VecUnit.lean ====
section
/-! DEFINITION. What MM, MMA and VEC compute (03 R61-R79, 04 R119-R130, R146-R156): operand layouts, passes over the
stationary block, zero-skip, and the vector functions. -/
namespace Sys2Proof

/-- A byte of a string. -/
def byteAt (bs : List Byte) (i : Nat) : Nat := (bs.getD i 0#8).toNat

/-- The bytes of an element, 0 for a nibble type. -/
def ElemType.size : ElemType → Nat
  | .int8 | .e4m3 | .e5m2 => 1
  | .bf16 | .f16 => 2
  | .int32 | .fp32 => 4
  | .int4 => 0

/-- A nibble of a slot: the even element low, the odd one high (04 R123). -/
def nibble (b k : Nat) : Nat := if k % 2 = 0 then b % 16 else b / 16

/-- The elements along K that one pass of D slots covers (03 Table 3.1). -/
def passElems (t : ElemType) (d : Nat) : Nat :=
  match t with
  | .int4 => 2 * d
  | .bf16 | .f16 => d / 2
  | _ => d

/-- The code of element `k` of row `i` of A (04 R122). -/
def aElem (f : MatFields) (a : List Byte) (i k : Nat) : Nat :=
  let s := f.dtype.size
  if s = 0 then nibble (byteAt a (i * f.k + k / 2)) k
  else if f.tra then leNat (slice a ((k * f.m + i) * s) s)
  else leNat (slice a (i * f.k + k * s) s)

/-- The byte of slot `t` of column `j` of B (04 R122). -/
def bSlot (f : MatFields) (b : List Byte) (t j : Nat) : Byte :=
  if f.trb then b.getD (j * f.k + t) 0#8
  else if f.dtype.size = 2 then b.getD ((t / 2 * f.w + j) * 2 + t % 2) 0#8
  else b.getD (t * f.w + j) 0#8

/-- The stationary block of pass `p`: D slot rows of one byte per sub-lane, zero beyond W (03 R66, R79). -/
def loadBlock (f : MatFields) (b : List Byte) (p : Nat) : List Byte :=
  (List.range f.form.depth).flatMap (fun r =>
    (List.range f.form.sublanes).map (fun j => if j < f.w then bSlot f b (p * f.form.depth + r) j else 0#8))

/-- The code of element `e` of column `j` of a stationary block. -/
def blockElem (f : MatFields) (blk : List Byte) (e j : Nat) : Nat :=
  let sub := f.form.sublanes
  match f.dtype.size with
  | 0 => nibble (byteAt blk (e / 2 * sub + j)) e
  | 2 => byteAt blk (2 * e * sub + j) + 256 * byteAt blk ((2 * e + 1) * sub + j)
  | _ => byteAt blk (e * sub + j)

/-- The thresholds in force for an instruction (04 R153, 05 R167): off with EXACT. -/
structure SkipThr where
  int8T : Nat := 0
  int4T : Nat := 0
  fpExp : Option Int := none
deriving DecidableEq, Repr

/-- Zero-skip of an integer A element (05 R167). -/
def skipInt (th : SkipThr) (t : ElemType) (v : Int) : Int :=
  let lim := if t == .int4 then th.int4T else th.int8T
  if v.natAbs < lim then 0 else v

/-- Zero-skip of a floating A element: a finite one below the threshold becomes +0 (05 R167). -/
def skipFp (th : SkipThr) (v : FVal) : FVal :=
  match th.fpExp, v with
  | some e, .fin s n => if (n : Int) < 2 ^ ((unitExp : Int) + e).toNat then .fin false 0 else .fin s n
  | _, v => v

/-- One element of C: the passes in order, each one micro-step (04 R147, R148). `blk` gives each pass's block, `acc` the
32-bit code the first pass adds to. -/
def matElem (f : MatFields) (th : SkipThr) (a : List Byte) (blk : Nat → List Byte) (i j acc : Nat) : Nat × Flags :=
  let ne := passElems f.dtype f.form.depth
  let np := f.k / f.form.depth
  if f.dtype.isInt then
    let r := (List.range np).foldl (fun (st : Int × Flags) p =>
      let (v, fl) := intMicroStep st.1 ((List.range ne).map (fun e =>
        (skipInt th f.dtype (elemInt f.dtype (aElem f a i (p * ne + e))), elemInt f.dtype (blockElem f (blk p) e j))))
      (v, st.2.or fl)) (sext 32 acc, {})
    (twos 32 r.1, r.2)
  else
    let fmt := f.dtype.fmt
    let r := (List.range np).foldl (fun (st : FVal × Flags) p =>
      let (v, fl) := fpMicroStep st.1 ((List.range ne).map (fun e =>
        (skipFp th (fmt.decode (aElem f a i (p * ne + e))), fmt.decode (blockElem f (blk p) e j))))
      (v, st.2.or fl)) ((ElemType.fmt .fp32).decode acc, {})
    (fp32Code r.1, r.2)

/-- The whole of C, row by row, with the flags it sets (04 R124). -/
def matResult (f : MatFields) (th : SkipThr) (a : List Byte) (blk : Nat → List Byte) (acc : Nat → Nat → Nat) :
    List Nat × Flags :=
  ((List.range f.m).flatMap (fun i => (List.range f.w).map (fun j => (i, j)))).foldl
    (fun (st : List Nat × Flags) ij =>
      let (v, fl) := matElem f th a blk ij.1 ij.2 (acc ij.1 ij.2)
      (st.1 ++ [v], st.2.or fl)) ([], {})

/-- The bytes each operand of a matrix instruction occupies (04 R122). -/
def matLens (f : MatFields) : Nat × Nat × Nat := (f.m * f.k, f.k * f.w, 4 * f.m * f.w)

/-- The engine cycles of a matrix instruction from issue to its last micro-step (03 R66-R71, R98): `stall` per loaded
block. -/
def matCycles (f : MatFields) (reused : Bool) (stall : Nat) : Nat :=
  let trans := if f.tra || (f.trb && !reused) then 2 else 0
  f.k / f.form.depth * ((if reused then 0 else stall) + f.m) + trans

/-! ## VEC -/

/-- The elements of B that a vector function reads: none, a row, a table, or the shape of A (04 R128). -/
inductive VecB where
  | none | row | table | full
deriving DecidableEq, Repr

/-- The shape of a function's B. -/
def VecFunc.bShape : VecFunc → VecB
  | .add | .mul | .max | .min | .axpy => .full
  | .scale | .bias => .row
  | .lut => .table
  | _ => .none

/-- Whether a function gives one element per row. -/
def VecFunc.reduces : VecFunc → Bool
  | .rsum | .rmax => true
  | _ => false

/-- The bytes of `n` elements of a type. -/
def elemBytes (t : ElemType) (n : Nat) : Nat := n * t.bits / 8

/-- The bytes each operand of VEC occupies (04 R128). -/
def vecLens (f : VecFields) : Nat × Nat × Nat :=
  let n := f.rows * f.len
  let b := match f.func.bShape with
    | .none => 0 | .row => elemBytes f.bty f.len | .table => 256 | .full => elemBytes f.bty n
  (elemBytes f.ity n, b, if f.func.reduces then elemBytes f.oty f.rows else elemBytes f.oty n)

/-- Whether a function computes in int32 (04 R126). -/
def VecFields.intMode (f : VecFields) : Bool :=
  f.ity.isInt && f.bty.isInt && (match f.func with
    | .exp2 | .rsqrt | .recip | .cvt | .lut => false
    | _ => true)

/-- The product of two fp32 values, rounded once (04 R130). -/
def mulF (a b : FVal) : VRes :=
  match a, b with
  | .fin s n, .fin t m => roundFp32 (s != t) (n * m) (2 ^ unitExp)
  | _, _ => (mulTerm a b).round

/-- The sum of two fp32 values, rounded once (04 R130). -/
def addF (a b : FVal) : VRes := (sumTerms [a.term, b.term]).round

/-- NaN if either operand is, else a function of both (04 R130). -/
def nanOr (a b : FVal) (f : FVal → FVal → FVal) : VRes := if a.isNan || b.isNan then .flt .nan else .flt (f a b)

/-- A saturated int32 result with its flag. -/
def satRes (x : Int) : VRes × Flags := let (v, s) := satInt32 x; (.int v, ⟨s, false, false, false⟩)

/-- The bf16 immediate as an fp32 value. -/
def immF (f : VecFields) : FVal := (ElemType.fmt .bf16).decode f.imm.toNat

/-- The bf16 immediate as an int32 value (04 R126). -/
def immI (f : VecFields) : Int := sext 32 (convert .int32 true (.flt (immF f))).1

/-- An element-wise function on integers (04 R126, R130). -/
def vecInt (f : VecFields) (a b : Int) : VRes × Flags :=
  match f.func with
  | .add | .bias => satRes (a + b)
  | .mul | .scale => satRes (a * b)
  | .max => (.int (if a < b then b else a), {})
  | .min => (.int (if b < a then b else a), {})
  | .axpy => satRes (a * immI f + b)
  | .relu => (.int (if a < 0 then 0 else a), {})
  | _ => (.int a, {})

/-- An element-wise function in fp32 (04 R130). -/
def vecFp (f : VecFields) (a b : FVal) : VRes :=
  match f.func with
  | .add | .bias => addF a b
  | .mul | .scale => mulF a b
  | .max => nanOr a b .max
  | .min => nanOr a b .min
  | .axpy => (sumTerms [mulTerm a (immF f), b.term]).round
  | .relu => nanOr a (.fin false 0) .max
  | .exp2 => exp2F a
  | .rsqrt => rsqrtF a
  | .recip => recipF a
  | .cvt => mulF a (immF f)
  | _ => .flt a

/-- A reduction over a row of codes (04 R130). -/
def vecReduce (f : VecFields) (row : List Nat) : VRes × Flags :=
  if f.ity.isInt then
    match f.func with
    | .rsum => satRes (row.foldl (fun x c => x + elemInt f.ity c) 0)
    | _ => (.int ((row.map (elemInt f.ity)).foldl (fun x y => if x < y then y else x) (elemInt f.ity (row.headD 0))), {})
  else
    let vs := row.map (elemF32 f.ity)
    match f.func with
    | .rsum => ((sumTerms (vs.map FVal.term)).round, {})
    | _ => (if vs.any FVal.isNan then .flt .nan else .flt (vs.foldl FVal.max (vs.headD .nan)), {})

/-- The code of an element of a byte string. -/
def elemCode (t : ElemType) (bs : List Byte) (i : Nat) : Nat :=
  if t.size = 0 then nibble (byteAt bs (i / 2)) i else leNat (slice bs (i * t.size) t.size)

/-- Pack element codes into bytes, two to a byte for int4 (04 R123, R128). -/
def packElems (t : ElemType) : List Nat → List Byte
  | [] => []
  | [x] => leBytes (Nat.max 1 t.size) x
  | x :: y :: r =>
      if t.size = 0 then BitVec.ofNat 8 (x % 16 + 16 * (y % 16)) :: packElems t r
      else leBytes t.size x ++ packElems t (y :: r)

/-- The result of one output element of VEC and its flags. -/
def vecOut (f : VecFields) (a b : List Byte) (i j : Nat) : Nat × Flags :=
  let idx := i * f.len + j
  let bi := match f.func.bShape with | .row => j | _ => idx
  if f.func == .lut then (byteAt b ((elemInt .int8 (elemCode .int8 a idx) + 128).toNat), {})
  else if f.func.reduces then
    let (r, fl) := vecReduce f ((List.range f.len).map (fun j => elemCode f.ity a (i * f.len + j)))
    let (c, fl') := convert f.oty f.sat r
    (c, fl.or fl')
  else if f.intMode then
    let (r, fl) := vecInt f (elemInt f.ity (elemCode f.ity a idx)) (elemInt f.bty (elemCode f.bty b bi))
    let (c, fl') := convert f.oty f.sat r
    (c, fl.or fl')
  else
    convert f.oty f.sat (vecFp f (elemF32 f.ity (elemCode f.ity a idx)) (elemF32 f.bty (elemCode f.bty b bi)))

/-- The destination bytes of VEC and the flags it sets. -/
def vecResult (f : VecFields) (a b : List Byte) : List Byte × Flags :=
  let pts := (List.range f.rows).flatMap (fun i =>
    if f.func.reduces then [(i, 0)] else (List.range f.len).map (fun j => (i, j)))
  let rs := pts.map (fun p => vecOut f a b p.1 p.2)
  (packElems f.oty (rs.map Prod.fst), rs.foldl (fun x r => x.or r.2) {})

/-- The engine cycles of VEC from issue to its last write (04 R127). -/
def vecCycles (f : VecFields) : Nat :=
  match f.func with
  | .exp2 | .rsqrt | .recip => 4 + f.rows * ((f.len + 31) / 32)
  | .rsum | .rmax => 4 + f.rows * ((f.len + 127) / 128 + 8)
  | _ => 4 + f.rows * ((f.len + 127) / 128)

end Sys2Proof
end

