-- ==== Sys2Proof/Machine/Engines.lean ====
section
/-! DEFINITION. Matrix engines: timing-error replay (02 R54-R60), the issue gate and presence (03 R80-R91), stops and
simmer (03 R92-R96), approximation profiles and voltage (05). -/
namespace Sys2Proof.Machine
open Sys2Proof

/-! ## Reading the program and resolving operands -/

/-- The instruction word a task is at (04 R111, 03 R102): read through the program's extents. Where the stream was
modified while the task runs, the word is wholly the old or wholly the new one, a free value (03 R104). -/
def State.fetchWord (s : State) (t : Task) : Acc (BitVec 128) :=
  if t.pc ≥ t.progLen then .fail .faulted .exec
  else
    match s.readDva (.parcel t.parcel) t.prog (t.start + 16 * t.pc) 16 with
    | .ok bs s =>
        let old := slice t.snapshot (16 * t.pc) 16
        if old.length = 16 ∧ old ≠ bs then
          .ok (BitVec.ofNat 128 (leNat (if Config.oldWord s.freeCtr then old else bs))) s.bump
        else .ok (BitVec.ofNat 128 (leNat bs)) s
    | .wait s => .wait s
    | .remote _ _ => .fail .faulted .exec
    | .fail st c => .fail st c

/-- The sum of the loop increments of an operand in bytes (04 R133). -/
def loopOff (ls : List LoopFrame) (sel : LoopFields → Int) : Int :=
  64 * ls.foldl (fun a l => a + (l.iter : Int) * sel l.f) 0

/-- An operand's slice and effective byte offset, or none where the slice index is beyond the parcel or the extent leaves
the slice (03 R89, 04 R117, R133). -/
def Parcel.resolve (p : Parcel) (o : Operand) (inc : Int) (len : Nat) : Option (Nat × Nat) :=
  match p.sliceOf o.slice with
  | none => none
  | some sl =>
      let off : Int := 64 * (o.off64 : Int) + inc
      if off < 0 ∨ off + (len : Int) > (sliceBytes : Int) then none else some (sl, off.toNat)

/-- The resolved operands of a gated instruction: A, B where it is read, and the destination, each slice, offset, bytes. -/
structure GateOps where
  a : Nat × Nat × Nat
  b : Option (Nat × Nat × Nat)
  d : Nat × Nat × Nat
deriving DecidableEq, Repr

/-- Whether an MMA in a FIRSTINIT loop runs as MM (04 R135): loops innermost first. -/
def firstInit : List LoopFrame → Bool
  | [] => false
  | l :: ls => l.iter == 0 && (l.f.firstInit || firstInit ls)

/-- The half an instruction names. -/
def Engine.half (e : Engine) (h : Bool) : Half := if h then e.half1 else e.half0
/-- Change a half. -/
def Engine.setHalf (e : Engine) (h : Bool) (x : Half) : Engine := if h then { e with half1 := x } else { e with half0 := x }

/-- Whether the held stationary block serves an instruction without a load (03 R65, R68, R69). -/
def Engine.reuses (e : Engine) (f : MatFields) : Bool :=
  f.reuse && (match e.block with | some b => b.form == f.form | none => false)

/-- The second group of decode checks (04 R113) with the operands it leaves: rows above Mmax (R72), a half of another
form (R73), a destination outside the paired slice (R120), a slice index beyond the parcel (R89), an extent outside the
slice (R117). -/
def State.gateOps (s : State) (n : Nat) (t : Task) (i : EInstr) : Option GateOps :=
  let p := s.parcel t.parcel
  let e := s.engine n
  match i with
  | .mat acc f =>
      let (la, lb, lc) := matLens f
      let asMm := acc && firstInit t.loops
      if !f.sacc && decide (f.m > f.form.mmax) then none
      else if acc && !asMm && !f.sacc && decide ((e.half f.half).form ≠ some f.form) then none
      else
        match p.resolve f.a (loopOff t.loops (·.stra)) la, p.resolve f.b (loopOff t.loops (·.strb)) lb,
            p.resolve f.c (loopOff t.loops (·.strc)) lc with
        | some (sa, oa), some (sb, ob), some (sc, oc) =>
            if sc ≠ n then none
            else some ⟨(sa, oa, la), if e.reuses f then none else some (sb, ob, lb), (sc, oc, lc)⟩
        | _, _, _ => none
  | .vec f =>
      let (la, lb, ld) := vecLens f
      match p.resolve f.a (loopOff t.loops (·.stra)) la, p.resolve f.d (loopOff t.loops (·.strc)) ld with
      | some (sa, oa), some (sd, od) =>
          if sd ≠ n then none
          else if lb = 0 then some ⟨(sa, oa, la), none, (sd, od, ld)⟩
          else
            match p.resolve f.b (loopOff t.loops (·.strb)) lb with
            | some (sb, ob) => some ⟨(sa, oa, la), some (sb, ob, lb), (sd, od, ld)⟩
            | none => none
      | _, _ => none
  | _ => none

/-- The release flags of an instruction. -/
def instrRels : EInstr → Bool × Bool
  | .mat _ f => (f.rela, f.relb)
  | .vec f => (f.rela, f.relb)
  | _ => (false, false)

/-- The holds an instruction needs, one per granule (03 R82). A granule of both sources is last read with A by a matrix
instruction, with both by VEC. -/
def gateHolds (i : EInstr) (o : GateOps) : List Hold :=
  let (ra, rb) := instrRels i
  let ga := (granules o.a.2.1 o.a.2.2).map (fun g => (o.a.1, g))
  let gb := match o.b with | some b => (granules b.2.1 b.2.2).map (fun g => (b.1, g)) | none => []
  let both := match i with | .vec _ => ra || rb | _ => ra
  ga.map (fun g => ⟨g.1, g.2, if gb.contains g then both else ra⟩)
    ++ (gb.filter (fun g => !ga.contains g)).map (fun g => ⟨g.1, g.2, rb⟩)

/-- Reserve granules of other slices, one slice at a time in ascending slice number, keeping what was obtained while the
next slice is waited for (03 R85). Answers whether all are held. -/
def State.reserve (s : State) (n : Nat) (hs : List Hold) : List Nat → State × Bool
  | [] => (s, true)
  | sl :: rest =>
      let need := hs.filter (fun h => h.slice == sl)
      let x := s.slc.rd sl
      let have' := (s.engine n).reserved.filter (fun h => h.slice == sl)
      if need.isEmpty || !have'.isEmpty then s.reserve n hs rest
      else if !x.withdrawn && x.powered && need.all (fun h => (x.gran.rd h.gran).holdable) then
        ((s.takeHolds need).updEng n (fun e => { e with reserved := e.reserved ++ need })).reserve n hs rest
      else (s, false)

/-- INSTRUCTION_ISSUE (03 R83-R90, R834; 04 R113): the instruction at the head is decoded; one that fails a check ends
its task; one whose sources are all PRESENT and whose destinations are claimable takes its holds and claims at once. -/
def issueNext (s : State) (n : Nat) (t : Task) : State :=
  match s.fetchWord t with
  | .wait s => s
  | .remote _ _ => s.finishTask n .faulted .exec
  | .fail st c => s.finishTask n st c
  | .ok w s =>
      let i := decodeEngine w
      if i = .bad then s.finishTask n .unsupported .decode
      else if !i.gated then s
      else
        match s.gateOps n t i with
        | none => s.finishTask n .faulted .decode
        | some o =>
            let draining := match i with
              | .mat _ f => !f.sacc && ((s.engine n).half f.half).drain.isSome
              | _ => false
            if t.voltWait || draining then s
            else
              let hs := gateHolds i o
              let (s, all) := s.reserve n hs ((List.range 16).filter (· ≠ n))
              if !all then s
              else
                let own := hs.filter (fun h => h.slice == n)
                let dst := granules o.d.2.1 o.d.2.2
                let x := s.slc.rd n
                let ownOk := own.all (fun h =>
                  let g := x.gran.rd h.gran
                  if dst.contains h.gran then g.st == .present && g.readers == 0 else g.holdable)
                let dstOk := dst.all (fun g =>
                  if own.any (fun h => h.gran == g) then true else (x.gran.rd g).claimable)
                if x.withdrawn || !x.powered || !ownOk || !dstOk then s
                else
                  let reserved := (s.engine n).reserved
                  let s := s.takeHolds own
                  let (s, cs) := s.takeClaims n dst
                  let iss : Issued := {
                    instr := i, slA := o.a.1, offA := o.a.2.1, slB := (o.b.map (·.1)).getD 0,
                    offB := (o.b.map (·.2.1)).getD 0, slC := o.d.1, offC := o.d.2.1,
                    asMm := (match i with | .mat acc _ => acc && firstInit t.loops | _ => false),
                    holds := reserved ++ own, claims := cs }
                  s.updEng n (fun e => { e with reserved := [], task := e.task.map (fun t => { t with issued := some iss }) })

/-- An engine can execute: powered, in service, neither stopped nor halted. -/
def Engine.runs (e : Engine) : Bool := e.powered && !e.retired && !e.withdrawn && !e.stopped && !e.stopReq && !e.halted

/-- INSTRUCTION_ISSUE (03 R83). -/
def execInstructionIssue (n : Fin 16) (s : State) : Out :=
  .next (match (s.engine n).task with
    | some t =>
        if (s.engine n).runs && t.started && t.issued.isNone && t.wait == .none then issueNext s n t else s
    | none => s)

/-! ## Claims, drains, stops and simmer -/

/-- ACCUMULATOR_DRAIN_DONE (03 R74, R75): the half's values are written to the paired slice, its granules become
PRESENT and the half is free. -/
def execAccumulatorDrainDone (n : Fin 16) (h : Bool) (s : State) : Out :=
  .next (match ((s.engine n).half h).drain with
    | none => s
    | some d =>
        let hf := (s.engine n).half h
        let bs := (List.range d.m).flatMap (fun i => (List.range d.w).flatMap (fun j =>
          leBytes 4 (hf.vals.rd (i * 1024 + j)).toNat))
        let s := s.updSlc d.slice (fun x => x.store d.off bs)
        let s := s.complete d.claims
        s.updEng n (fun e => e.setHalf h { hf with drain := none }))

/-- SIMMER_RAMP_DOWN (03 R94, R96): one step of the ramp, an eighth of density every 8 engine cycles from the 64th cycle
of a gap, until the lanes are clock-gated; with simmer off the engine is idle at once. -/
def execSimmerRampDown (n : Fin 16) (s : State) : Out :=
  .next (s.updEng n (fun e =>
    if (match e.task with | some t => t.issued.isSome | none => false) then e
    else if !e.simmerEnable then { e with gap := 128, density := 0 }
    else if e.density = 0 then e
    else { e with density := e.density - 1, gap := Nat.max 64 e.gap + 8 }))

/-- An engine is at an instruction boundary with no drain in progress (03 R91). -/
def Engine.atBoundary (e : Engine) : Bool :=
  (match e.task with | some t => t.issued.isNone | none => true) && e.half0.drain.isNone && e.half1.drain.isNone

/-- An engine asked to stop halts at its boundary, keeping its block and accumulators and giving up its reservations
(03 R85, R91, 02 R57). -/
def State.stopEngine (s : State) (n : Nat) : State :=
  let e := s.engine n
  if e.atBoundary then (s.release e.reserved false).updEng n (fun e => { e with stopReq := false, stopped := true, reserved := [] })
  else s.updEng n (fun e => { e with stopReq := true })

/-- ENGINE_STOP (03 R91; 10 R388): an engine asked to stop halts at its boundary; a task that its command's watchdog or a
forced shootdown stops ends there. -/
def execEngineStop (n : Fin 16) (s : State) : Out :=
  .next (
    let e := s.engine n
    if !e.stopReq || e.halted || !e.atBoundary then s
    else
      match e.task.bind (·.killed) with
      | some c => (s.updEng n (fun e => { e with stopReq := false })).finishTask n .faulted c
      | none => (s.stopEngine n).watchSettle)

/-- Ask an engine's task to end at its next boundary with a cause, at once where it is there (10 R388, 08 R311). -/
def State.killTask (s : State) (n : Nat) (c : Cause) : State :=
  let e := s.engine n
  if e.atBoundary && !e.halted then s.finishTask n .faulted c
  else s.updEng n (fun e => { e with stopReq := true, task := e.task.map (fun t => { t with killed := some c }) })

/-! ## Timing errors and replay windows -/

/-- TIMING_ERROR_REPLAY (02 R55, R56): the micro-step's commit is suppressed and it executes again, 3 engine cycles. -/
def execTimingErrorReplay (n : Fin 16) (s : State) : Out :=
  .next (s.updEng n (fun e =>
    match e.task with
    | some t =>
        if t.issued.isSome && !e.halted then
          { e with winReplays := e.winReplays + 1, replays := e.replays + 1, cyc := e.cyc + 3 }
        else e
    | none => e))

/-- The parcel an engine works for, for event attribution: 0xFF when none. -/
def State.engParcel (s : State) (n : Nat) : Nat :=
  match (s.engine n).task with | some t => t.parcel | none => 0xFF

/-- A step-up: OFFSET rises by 1 and the request is in progress (02 R58, 05 R174). -/
def State.stepUp (s : State) (n : Nat) : State :=
  let s := s.emit n 0x2A3 (s.engParcel n) n
  s.updEng n (fun e => { e with offset := e.offset + 1, stepUps := e.stepUps + 1, stepPending := true, runCount := 0 })

/-- The upper clamp is reached: the target falls by 25 MHz, down to 200 MHz, and AL_CEILING is recorded (05 R177). -/
def State.alCeiling (s : State) (n : Nat) : State :=
  let s := s.emit n 0x2A2 (s.engParcel n) n
  if s.engTarget n ≥ 225 then (s.updEng n (fun e => { e with ceil := e.ceil + 1, runCount := 0 })).settleEng n
  else s.updEng n (fun e => { e with runCount := 0 })

/-- REPLAY_WINDOW_END (02 R58; 05 R174-R177): the window is judged against the latched profile's limit. -/
def execReplayWindowEnd (n : Fin 16) (s : State) : Out :=
  let e := s.engine n
  let r := e.winReplays
  let clear (s : State) : State := s.updEng n (fun e => { e with winReplays := 0, tripled := false })
  .next (
    if !e.powered || e.halted then s
    else
      let s := if r = 0 then s else s.emit n 0x2A0 (s.engParcel n) r
      if r > e.profile.limit then
        clear (if atClamp e.profile.margin e.offset then s.alCeiling n else s.stepUp n)
      else if r ≤ e.profile.limit / 4 then
        if e.ceil > 0 then clear ((s.updEng n (fun e => { e with ceil := e.ceil - 1, runCount := e.runCount + 1 })).settleEng n)
        else if e.runCount + 1 ≥ s.approx.stepdownWindows ∧ e.tripled = false then
          clear ((s.updEng n (fun e => { e with offset := e.offset - 1, runCount := 0 })).settleEng n)
        else clear (s.updEng n (fun e => { e with runCount := e.runCount + 1 }))
      else clear (s.updEng n (fun e => { e with runCount := 0 })))

/-- TRIPLE_FLAG (02 R59, 05 R178): the target falls by 25 MHz and a step-up is requested at once; at the upper clamp the
reduction is an AL_CEILING one. -/
def execTripleFlag (n : Fin 16) (s : State) : Out :=
  .next (
    let e := s.engine n
    if !e.powered || e.halted then s
    else if atClamp e.profile.margin e.offset then (s.alCeiling n).updEng n (fun e => { e with tripled := true })
    else ((s.stepUp n).updEng n (fun e => { e with triple := e.triple + 1, tripled := true })).settleEng n)

/-- STEP_UP_COMPLETE (02 R58, R59): the voltage reaches its target and the reductions of triple flags end. The
frequency then rises as the voltage of the higher frequency is reached (05 R172). -/
def execStepUpComplete (n : Fin 16) (s : State) : Out :=
  .next (
    let e := s.engine n
    if !e.stepPending then s
    else (s.updEng n (fun e => { e with stepPending := false, triple := 0, volt := Nat.max e.volt (s.engVTarget n) })).settleEng n)

/-! ## Approximation profiles -/

/-- The FP_EXP byte of a profile (05 Table 5.1): 0x80 is off; a signed value otherwise. -/
def fpExpOf (b : Byte) : Option Int := if b = 0x80#8 then none else some (sext 8 b.toNat)

/-- The ranges of Table 5.1 (05 R160). -/
def profileInRange (int8T int4T : Byte) (fpExp margin : Byte) (limit : U16) : Bool :=
  decide (int8T.toNat ≤ 64) && decide (int4T.toNat ≤ 8)
    && (match fpExpOf fpExp with | none => true | some x => decide (-24 ≤ x ∧ x ≤ 8))
    && decide (margin.toNat ≤ 8) && decide (1 ≤ limit.toNat ∧ limit.toNat ≤ 8192)

/-- AL_PROFILE_WRITE (05 R159, R160, R163; 00 R9; 15 R565). -/
def execAlProfileWrite (by' : Principal) (level : Fin 8) (int8T int4T fpExp margin : Byte) (limit reserved : U16)
    (s : State) : Out :=
  .next (s.served 19 fun s =>
    if by' ≠ .hostk ∧ by' ≠ .rtp then s.answer .denied
    else if level.val = 0 then s.answer .denied
    else if reserved ≠ 0 ∨ profileInRange int8T int4T fpExp margin limit = false then s.answer .unsupported
    else if !s.alone then s.answer .denied
    else
      let p : AlProfile := { int8T := int8T.toNat, int4T := int4T.toNat, fpExp := fpExpOf fpExp,
                             margin := margin.toNat, limit := limit.toNat }
      { s with approx := { s.approx with profiles := s.approx.profiles.wr level p } }.answer .ok)

/-- PARCEL_AL_CAP_WRITE (05 R164, R165). -/
def execParcelAlCapWrite (by' : Principal) (p : Fin 8) (v : Byte) (s : State) : Out :=
  .next (s.served 19 fun s =>
    if by' ≠ .hostk ∧ by' ≠ .rtp then s.answer .denied
    else if v.toNat > 7 then s.answer .unsupported
    else { s with approx := { s.approx with cap := s.approx.cap.wr p v.toNat } }.answer .ok)

/-- VOLTAGE_REACHED (05 R172, 17 R651, R655): the island's voltage reaches the target of its next frequency, at most
100 MHz above the one in force; a task whose first gated instruction waited goes on. -/
def execVoltageReached (n : Fin 16) (s : State) : Out :=
  .next (s.updEng n (fun e =>
    if !e.powered then e
    else
      let f := Nat.min (s.engTarget n) (e.freq + 100)
      let v := vTarget f e.profile.margin e.offset
      { e with freq := f, volt := Nat.max e.volt v, task := e.task.map (fun t => { t with voltWait := false }) }))

end Sys2Proof.Machine
end

