-- ==== Sys2Proof/Machine/Frames.lean ====
section
/-! DEFINITION. Dictionary frames on VC0 (21 R774, R783) and the job record that a fabric parcel's lead die keeps (15 R574). -/
namespace Sys2Proof.Machine
open Sys2Proof

/-- A dictionary frame (21 Table 21.4), padded to 128 bytes. -/
def frameBytes (ftype flags session index sub status param : Nat) (data : List Byte) (target : Nat) : List Byte :=
  padTo 128 (leBytes 1 ftype ++ leBytes 1 flags ++ leBytes 2 session ++ leBytes 2 index ++ leBytes 1 sub ++ leBytes 1 status
    ++ leBytes 4 param ++ leBytes 2 data.length ++ leBytes 2 target ++ data)

/-- Send a frame on VC0 as one MGMT message (21 R783). -/
def State.mgmt (s : State) (dest : Nat) (frame : List Byte) : State :=
  s.route none 0 { op := 0x30, dest := dest, src := s.dieId, payload := frame }

/-- Send a frame to a neighbour by its port (15 R560). -/
def State.mgmtBy (s : State) (port : Option Nat) (dest : Nat) (frame : List Byte) : State :=
  match port with
  | some p => if s.carries p 0 then s.putMsg p 0 { op := 0x30, dest := dest, src := s.dieId, payload := frame } else s
  | none => s.mgmt dest frame

/-- Write an entry of another die as a session, whose segments follow the answer to WRITE_INIT (21 R775, R776). A newer value of a
beacon or job record takes the place of one whose session is not yet open. -/
def State.writeLong (s : State) (port : Option Nat) (dest index sub : Nat) (data : List Byte) : State :=
  let o : Outgoing := { dest := dest, port := port, index := index, sub := sub, data := data }
  let keep := s.dict.outgoing.filter (fun (x : Outgoing) =>
    index == 0x4102 || !(x.dest == dest && x.port == port && x.index == index && x.sub == sub))
  let s := { s with dict := { s.dict with outgoing := keep ++ [o] } }
  s.mgmtBy port dest (frameBytes 0x12 0 0 index sub 0 data.length [] dest)

/-- Write an entry of another die: a value of at most 8 bytes expedited, a longer one as a session (21 R775, R776). -/
def State.writeTo (s : State) (dest index sub : Nat) (data : List Byte) : State :=
  if data.length ≤ 8 then s.mgmt dest (frameBytes 0x11 1 0 index sub 0 0 data dest) else s.writeLong none dest index sub data

/-- Read an entry of another die (21 R775). -/
def State.readFrom (s : State) (dest index sub : Nat) : State :=
  let keep := s.dict.readings.filter (fun (x : Reading) => !(x.dest == dest && x.index == index && x.sub == sub))
  let r : Reading := { dest := dest, index := index, sub := sub }
  let s := { s with dict := { s.dict with readings := keep ++ [r] } }
  s.mgmt dest (frameBytes 0x10 0 0 index sub 0 0 [] dest)

/-! ## Job records (15 R574) -/

/-- The code of a job state (11 Table 11.6). -/
def JobSt.code : JobSt → Nat
  | .ended => 0 | .waiting => 1 | .ready => 2 | .holding => 3 | .switching => 4 | .suspended => 5 | .faulted => 6

/-- This die times a parcel's slices: a die-local parcel's own die, or the lead die (11 R424). -/
def State.leads (s : State) (p : Nat) : Bool := (s.parcel p).fabricId == 0 || (s.parcel p).leadDie == s.dieId

/-- The bytes of a job record. -/
def JobRec.bytes (r : JobRec) : List Byte :=
  leBytes 2 r.fparcel ++ leBytes 8 r.epoch ++ leBytes 1 r.holder
    ++ (List.range 16).flatMap (fun k => let (i, st) := r.jobs.getD k (0, 0); leBytes 4 i ++ leBytes 1 st)

/-- The states that the lead's record shows: the job to be switched in is SWITCHING with the one it replaces. -/
def State.recordJobs (s : State) (p : Nat) : List (Nat × Nat) :=
  let inc := match (s.parcel p).switch with | some w => w.incoming | none => 16
  (List.range 16).map (fun k =>
    let j := s.job p k
    (j.id.toNat, if k = inc ∧ j.st ≠ .ended ∧ j.st ≠ .faulted then JobSt.switching.code else j.st.code))

/-- Put a record in the surveyor's copies. -/
def putRec (l : List JobRec) (r : JobRec) : List JobRec := r :: l.filter (fun (x : JobRec) => x.fparcel != r.fparcel)

/-- The lead raises the job epoch and writes the record to every member and to the surveyor (15 R574). -/
def State.jobEpochUp (s : State) (p : Nat) : State :=
  let x := s.parcel p
  if x.fabricId = 0 ∨ s.leads p = false then s
  else
    let r : JobRec := { fparcel := x.fabricId, epoch := (s.agree.jobRecs.rd p).epoch + 1, holder := x.holder.getD 0xFF,
                        jobs := s.recordJobs p }
    let s := { s with agree := { s.agree with jobRecs := s.agree.jobRecs.wr p r } }
    let ms := insNat s.agree.survDie (s.fabricDies x.fabricId)
    let s := if s.agree.survDie = s.dieId then { s with agree := { s.agree with survJobs := putRec s.agree.survJobs r } } else s
    (ms.filter (· ≠ s.dieId)).foldl (fun (s : State) d => s.writeTo d 0x4105 (p + 1) r.bytes) s

end Sys2Proof.Machine
end

