-- ==== Sys2Proof/Machine/Coherence.lean ====
section
/-! DEFINITION. The directory and its agents' messages (07 R249-R259, Tables 7.2 and 7.3). -/
namespace Sys2Proof.Machine
open Sys2Proof

/-- Change the directory's record of a line. -/
def State.updLine (s : State) (l : Nat) (f : DirLine → DirLine) : State :=
  { s with mem := { s.mem with dir := s.mem.dir.upd l f } }

/-- The directory's record of a line. -/
def State.dirLine (s : State) (l : Nat) : DirLine := s.mem.dir.rd l

/-- Every holder of a line. -/
def LineState.holders : LineState → List Agent
  | .uncached => []
  | .shared hs => hs
  | .owned h => [.host h]

/-- The holders that answer snoops over the host link; the device's own caches answer at once. -/
def hostAgents (hs : List Agent) : List Agent := hs.filter (fun a => match a with | .host _ => true | _ => false)

/-- The entries of the directory set of a line that are in use (07 R251): 16,384 sets of 16. -/
def State.dirSetUse (s : State) (l : Nat) : List Nat :=
  (s.mem.dir.filter (fun p => p.1 % 16384 == l % 16384 && (p.2.st != .uncached || p.2.txn.isSome))).map Prod.fst

/-- Grant a request whose snoops have all been answered (07 R253, R257): the copy is sent with the line's data, and the
transaction waits for GNT_ACK. -/
def State.sendGrant (s : State) (l : Nat) (rq : DirReq) (a : Agent) : State :=
  let s := s.dcTouch .host (l * 128) 0 false true
  let data := match rq with | .upg => [] | _ => memRead s.mem.loc (l * 128) 128
  let s := s.send (.grant a rq l data (s.mem.badLoc.contains l))
  s.updLine l (fun d => { d with txn := d.txn.map (fun t => { t with granted := true, awaiting := [] }) })

/-- Begin a transaction: snoop the holders that stand in its way, and grant at once where none does (07 R257, R258). -/
def State.beginTxn (s : State) (l : Nat) (rq : DirReq) (a : Agent) : State :=
  let d := s.dirLine l
  let hs := d.st.holders
  let rq' : DirReq := match rq with | .upg => if hs.contains a then .upg else .rdO | r => r
  let targets : List Agent := match rq' with
    | .rdS => match d.st with | .owned h => if Agent.host h = a then [] else [.host h] | _ => []
    | _ => hs.filter (· ≠ a)
  let inval : Bool := match rq' with | .rdS => false | _ => true
  let wait := hostAgents targets
  let left : LineState := match rq', d.st with
    | .rdS, st => st
    | _, .owned h => .owned h
    | _, .shared hs => .shared (hs.filter (fun x => (hostAgents [x]) ≠ [] || x = a))
    | _, .uncached => .uncached
  let t : DirTxn := { req := rq', agent := some a, asked := rq, awaiting := wait }
  let s := s.updLine l (fun d => { d with txn := some t, st := left })
  let s := wait.foldl (fun s x => s.send (.snoop x inval l)) s
  if wait.isEmpty then s.sendGrant l rq' a else s

/-- Back-invalidate the holders of an entry so that its directory set has room (07 R251). -/
def State.backInval (s : State) (l : Nat) : State :=
  let wait := hostAgents (s.dirLine l).st.holders
  if wait.isEmpty then s.updLine l (fun d => { d with st := .uncached })
  else
    let s := wait.foldl (fun s x => s.send (.snoop x true l)) s
    s.updLine l (fun d => { d with txn := some { req := .backInval, asked := .backInval, awaiting := wait } })

/-- Serve the first waiting request of a line that has no transaction in service (07 R253); a line without an entry in
a full set waits for the back-invalidation of a victim, a free choice (07 R251). -/
def State.pumpLine (s : State) (l : Nat) : State :=
  let d := s.dirLine l
  match d.txn, d.queue with
  | none, (rq, a) :: rest =>
      let full := (s.dirSetUse l).filter (fun x => x ≠ l)
      if d.st = .uncached ∧ 16 ≤ full.length then
        let idle := full.filter (fun x => (s.dirLine x).txn.isNone)
        match idle[Config.dirVictim s.freeCtr % Nat.max 1 idle.length]? with
        | none => s
        | some v =>
            let s := (s.bump).backInval v
            if (s.dirLine v).txn.isNone then (s.updLine l (fun d => { d with queue := rest })).beginTxn l rq a else s
      else (s.updLine l (fun d => { d with queue := rest })).beginTxn l rq a
  | _, _ => s

/-- A line's transaction has ended: its next request is served, and so is a line of its set that waited for room. -/
def State.endTxn (s : State) (l : Nat) : State :=
  let s := (s.updLine l (fun d => { d with txn := none })).pumpLine l
  match s.mem.dir.find? (fun p => p.1 % 16384 == l % 16384 && p.2.txn.isNone && !p.2.queue.isEmpty) with
  | some p => s.pumpLine p.1
  | none => s

/-- A host agent exists only on the host link (07 R249). Its request for a line that reaches no memory, or for another
owner's controller, is answered and nothing else happens (07 R245, R246). -/
def agentRequest (s : State) (l : Nat) (k : State → State) : State :=
  if !s.straps.hostLink then s
  else if !s.paReaches (l * 128) 128 then s.answer .faulted
  else if !s.paAllowed .host (l * 128) 128 then s.answer .denied
  else k s

/-- A request joins its line's queue and is served when no transaction is in service (07 R253). -/
def State.request (s : State) (l : Nat) (rq : DirReq) (a : Agent) : State :=
  (s.updLine l (fun d => { d with queue := d.queue ++ [(rq, a)] })).pumpLine l

/-- RD_S (07 R253, R258): a read for a shared copy. -/
def execRdS (h : Fin 16) (line : Nat) (s : State) : Out := .next (agentRequest s line (·.request line .rdS (.host h)))

/-- RD_O (07 R253, R258): a read for ownership. -/
def execRdO (h : Fin 16) (line : Nat) (s : State) : Out := .next (agentRequest s line (·.request line .rdO (.host h)))

/-- UPG (07 R257): shared to owned without data, or RD_O where the agent is no holder any more. -/
def execUpg (h : Fin 16) (line : Nat) (s : State) : Out := .next (agentRequest s line (·.request line .upg (.host h)))

/-- Take a whole line of data at its home: it lies in the Device Cache in the host's ways (07 R237, R254), and a line
written whole is fresh (07 R836). -/
def State.takeLine (s : State) (l : Nat) (data : List Byte) : State :=
  let s := s.dcTouch .host (l * 128) 0 true true
  { s with mem := { s.mem with loc := memWrite s.mem.loc (l * 128) (padTo 128 data),
                               badLoc := s.mem.badLoc.filter (· ≠ l) } }

/-- The recorded owner gives up a line ahead of every queued request (07 R254). A snoop that crossed it is still to be
answered (07 R255). -/
def State.giveUp (s : State) (h l : Nat) : State :=
  let s := (s.updLine l (fun d => { d with st := .uncached })).send (.wbDone (.host h) l)
  s.pumpLine l

/-- WB (07 R254): the owner's dirty line is written and answered WB_DONE. -/
def execWb (h : Fin 16) (line : Nat) (data : List Byte) (s : State) : Out :=
  .next (
    if s.straps.hostLink && (s.dirLine line).st == .owned h then (s.takeLine line data).giveUp h line else s)

/-- EVICT (07 R254): the owner's clean line is given up and answered WB_DONE. -/
def execEvict (h : Fin 16) (line : Nat) (s : State) : Out :=
  .next (if s.straps.hostLink && (s.dirLine line).st == .owned h then s.giveUp h line else s)

/-- A snoop is answered (07 R253, R255, R258): after the last answer the grant is sent; a home access that waited goes on
when its step is taken again, and a back-invalidated entry is free. -/
def State.snoopDone (s : State) (a : Agent) (l : Nat) : State :=
  match (s.dirLine l).txn with
  | none => s
  | some t =>
      let rest := t.awaiting.erase a
      let s := s.updLine l (fun d => { d with txn := some { t with awaiting := rest } })
      if !rest.isEmpty then s
      else
        match t.req, t.agent with
        | .homeWrite, _ => (s.updLine l (fun d => { d with st := .uncached })).endTxn l
        | .backInval, _ => (s.updLine l (fun d => { d with st := .uncached })).endTxn l
        | .homeRead, _ =>
            (s.updLine l (fun d => { d with st := match d.st with | .owned h => .shared [.host h] | st => st })).endTxn l
        | .rdS, some b =>
            (s.updLine l (fun d => { d with st := match d.st with | .owned h => .shared [.host h] | st => st })).sendGrant l .rdS b
        | rq, some b =>
            (s.updLine l (fun d => { d with st := if d.st.holders.contains b then .shared [b] else .uncached })).sendGrant l rq b
        | _, none => s

/-- A snoop of a host agent is outstanding for a line. -/
def State.snooped (s : State) (h l : Nat) : Bool :=
  match (s.dirLine l).txn with
  | some t => t.awaiting.contains (.host h)
  | none => false

/-- ACK (07 R255): a snoop answer without dirty data. -/
def execAck (h : Fin 16) (line : Nat) (s : State) : Out :=
  .next (if s.snooped h line then s.snoopDone (.host h) line else s)

/-- ACK_D (07 R258): a snoop answer whose dirty data the home takes. -/
def execAckD (h : Fin 16) (line : Nat) (data : List Byte) (s : State) : Out :=
  .next (if s.snooped h line then (s.takeLine line data).snoopDone (.host h) line else s)

/-- GNT_ACK (07 R253): the grantee holds the line as granted, its transaction ends and the next request is served. -/
def execGntAck (h : Fin 16) (line : Nat) (s : State) : Out :=
  .next (
    match (s.dirLine line).txn with
    | some t =>
        if t.granted && t.agent == some (.host h) then
          let a : Agent := .host h
          let st' : LineState := match t.req with
            | .rdS => match (s.dirLine line).st with
              | .shared hs => .shared (hs.filter (· ≠ a) ++ [a])
              | _ => .shared [a]
            | _ => .owned h
          (s.updLine line (fun d => { d with st := st' })).endTxn line
        else s
    | none => s)

/-- SNOOP_SLOW (07 R259): a snoop without an answer for 10 µs is counted, with the wait in µs. -/
def execSnoopSlow (h : Fin 16) (line : Nat) (us : Nat) (s : State) : Out :=
  .next (if s.snooped h line && decide (10 ≤ us) then s.emit 52 0x314 0xFF us else s)

/-- HOST_DC_WAYS_WRITE (07 R236, R240): the host's ways change after the removed ones are written back, invalidated and
zeroed. -/
def execHostDcWaysWrite (by' : Principal) (v : U16) (s : State) : Out :=
  .next (s.served 31 fun s =>
    if by' ≠ .rtp then s.answer .denied
    else if (List.range 8).any (fun p => (s.parcel p).dcWays &&& v.toNat ≠ 0) then s.answer .unsupported
    else if s.mem.retiredWays &&& v.toNat ≠ 0 then s.answer .retired
    else
      let gone := maskOf ((maskBits 16 s.mem.hostWays).filter (fun w => !bitAt v.toNat w))
      let s := s.waysClear gone
      { s with mem := { s.mem with hostWays := v.toNat } }.answer .ok)

end Sys2Proof.Machine
end

