-- ==== Sys2Proof/Machine/Operands.lean ====
section
/-! DEFINITION. The operands of a command descriptor: head slot, items, regions and the checks made at enqueue (10
R375-R380, Tables 10.4-10.7, 10.14; 12 R434-R435, Table 12.2). -/
namespace Sys2Proof.Machine
open Sys2Proof

/-- A task entry (10 Table 10.6). -/
structure TaskEntry where
  prog : Nat := 0
  len : Nat := 1
  engine : Nat := 0
  al : Nat := 0
deriving DecidableEq, Repr, Inhabited

/-- A step entry (10 Table 10.7), its fields as they stand. -/
structure StepEntry where
  kind : Nat := 0
  ctl : Nat := 0
  mode : Nat := 0
  sem : Nat := 0
  scr : Nat := 0
  dva : Nat := 0
  dva2 : Nat := 0
  size : Nat := 0
deriving DecidableEq, Repr, Inhabited

/-- CTL bits (10 Table 10.7). -/
def StepEntry.ord (x : StepEntry) : Nat := x.ctl % 4
/-- POST: the step starts after every task has ended. -/
def StepEntry.post (x : StepEntry) : Bool := bitAt x.ctl 2
/-- REL: the release flag on scratch source holds. -/
def StepEntry.rel (x : StepEntry) : Bool := bitAt x.ctl 3
/-- ABNOK: ACQUIRED_ABANDONED is accepted. -/
def StepEntry.abnok (x : StepEntry) : Bool := bitAt x.ctl 4

/-- The scratch operand of a field (04 R116): slice index in bits 19:16, offset in 64-byte units below. -/
def scrOperand (v : Nat) : Operand := { slice := bitsOf v 19 16, off64 := v % 65536 }

/-- The element width in bits of a DMA mode; 0 for COPY (08 Table 8.8). -/
def modeBits (m : Nat) : Nat := match m % 8 with | 1 => 32 | 2 => 16 | 3 => 8 | 4 => 4 | _ => 0

/-- Rows of a transposition. -/
def StepEntry.rows (x : StepEntry) : Nat := x.size % 65536
/-- Columns of a transposition. -/
def StepEntry.cols (x : StepEntry) : Nat := x.size / 65536 % 65536

/-- The bytes a DMA step moves. -/
def StepEntry.bytes (x : StepEntry) : Nat :=
  if x.mode % 8 = 0 then x.size % 2 ^ 32 else x.rows * x.cols * modeBits x.mode / 8

/-- The width in bytes of an atomic (10 Table 10.7). -/
def StepEntry.width (x : StepEntry) : Nat := if bitAt x.mode 4 then 8 else 4

/-- Read a task entry. -/
def parseTask (b : List Byte) : TaskEntry :=
  { prog := field b 0 8, len := field b 8 4, engine := field b 12 1, al := field b 13 1 % 8 }

/-- Read a step entry. -/
def parseStep (b : List Byte) : StepEntry :=
  { kind := field b 0 1, ctl := field b 1 1, mode := field b 2 1, sem := field b 3 1, scr := field b 4 4,
    dva := field b 8 8, dva2 := field b 16 8, size := field b 24 8 }

/-- The opcode of a descriptor. -/
def dOp (b : List Byte) : Nat := field b 0 1
/-- The continuation slots a head slot names. -/
def dSlots (b : List Byte) : Nat := field b 1 1 % 8
/-- FLAGS.STAMP. -/
def dStamped (b : List Byte) : Bool := bitAt (field b 2 1) 0
/-- FLAGS.IRQ. -/
def dIrq (b : List Byte) : Bool := bitAt (field b 2 1) 1
/-- WATCHDOG_US. -/
def dWatchdog (b : List Byte) : Nat := field b 4 4
/-- JOB_SEQ. -/
def dJobSeq (b : List Byte) : Nat := field b 8 8
/-- The stamp region's DVA. -/
def dStamp (b : List Byte) : Nat := field b 16 8
/-- Tasks and steps of a RUN. -/
def dNTasks (b : List Byte) : Nat := if dOp b = 1 then field b 24 1 else 0
/-- Steps of a RUN. -/
def dNSteps (b : List Byte) : Nat := if dOp b = 1 then field b 25 1 else 0
/-- The bytes the task entries take, padded to 32. -/
def taskArea (n : Nat) : Nat := 16 * (n + n % 2)
/-- The task entries of a RUN. -/
def dTasks (b : List Byte) : List TaskEntry :=
  (List.range (dNTasks b)).map (fun i => parseTask (slice b (32 + 16 * i) 16))
/-- The step entries of a RUN. -/
def dSteps (b : List Byte) : List StepEntry :=
  (List.range (dNSteps b)).map (fun i => parseStep (slice b (32 + taskArea (dNTasks b) + 32 * i) 32))

/-- A byte range is zero. -/
def zeros (b : List Byte) (lo n : Nat) : Bool := (slice b lo n).all (· == 0#8)

/-- A step entry breaks Table 10.14, or Table 12.3 where row kinds are admitted, or R312 (10 R376). Reserved atomic codes
end their step instead (09 R344). -/
def stepBad (rowKinds : Bool) (x : StepEntry) : Bool :=
  let dma := x.kind == 1 || x.kind == 2
  let copyKind := x.kind == 3
  let atom := x.kind == 4
  let row := decide (8 ≤ x.kind ∧ x.kind ≤ 10)
  let known := decide (1 ≤ x.kind ∧ x.kind ≤ 7) || (rowKinds && row)
  let relOk := x.kind == 2 || x.kind == 9
  let ctlBad := x.ctl ≥ 32 || (x.rel && !relOk) || (x.abnok && x.kind != 5)
  let modeBad := if dma || copyKind then x.mode > 4 else if atom then x.mode ≥ 32 else x.mode ≠ 0
  let semBad := x.kind != 5 && x.kind != 6 && x.sem != 0
  let scrBad := if dma || row then x.scr ≥ 2 ^ 20 else x.scr ≠ 0
  let dvaBad := (x.kind == 7 && x.dva ≥ 2 ^ 26) || ((x.kind == 5 || x.kind == 6) && x.dva != 0)
  let dva2Bad := if copyKind || atom then false else if row then x.dva2 ≥ 2 ^ 32 else x.dva2 ≠ 0
  let sizeBad :=
    if x.kind == 5 || x.kind == 6 then x.size ≠ 0
    else if row then x.size / 2 ^ 32 = 0 || x.size / 2 ^ 32 % 1024 ≠ 0
    else if atom && x.width = 8 then false
    else x.size ≥ 2 ^ 32
  let oddNibble := (dma || copyKind) && x.mode = 4 && (x.rows % 2 = 1 || x.cols % 2 = 1)
  !known || ctlBad || modeBad || semBad || scrBad || dvaBad || dva2Bad || sizeBad || oddNibble

/-- A task entry is out of range or carries a reserved bit. -/
def taskBad (b : List Byte) : Bool :=
  let n := field b 8 4
  n < 1 || n > 1048576 || field b 13 1 ≥ 8 || field b 14 2 ≠ 0

/-- The least SLOTS that holds a RUN's items (10 R379). -/
def runSlots (nt ns : Nat) : Nat := (taskArea nt + 32 * ns - 32 + 63) / 64

/-- The opcode-specific fields break their ranges or carry reserved bits (10 Table 10.5, 12 Table 12.2). -/
def argsBad (rowKinds : Bool) (b : List Byte) : Bool :=
  match dOp b with
  | 0 => !zeros b 24 40
  | 1 =>
      let nt := dNTasks b
      let ns := dNSteps b
      let items := taskArea nt + 32 * ns
      nt > 30 || ns > 15 || (nt = 0 && ns = 0) || !zeros b 26 6
        || (List.range nt).any (fun i => taskBad (slice b (32 + 16 * i) 16))
        || (nt % 2 = 1 && !zeros b (32 + 16 * nt) 16)
        || (dSteps b).any (stepBad rowKinds)
        || !zeros b (32 + items) (64 * 8)
  | 2 => !zeros b 24 8 || !zeros b 48 16
  | 3 => field b 24 4 < 1 || field b 24 4 > 16777216 || !zeros b 28 4
  | 4 => field b 24 1 > 1 || (field b 25 1 ≠ 0 && field b 25 1 ≠ 2) || (field b 24 1 = 1 && field b 25 1 ≠ 0)
      || !zeros b 26 6 || !zeros b 48 16
  | 5 => field b 24 1 > 3 || !zeros b 25 7 || !zeros b 48 16
  | 0x10 =>
      let rb := field b 24 2
      let ch := field b 26 2
      rb < 1 || rb > 8192 || ch < 1 || ch > 8192 || field b 28 1 > 16 || field b 29 1 > 1 || !zeros b 30 2
        || field b 56 1 < 1 || field b 56 1 > 8 || !zeros b 57 1 || field b 58 4 ≥ 2 ^ 20 || field b 58 4 % 16 ≠ 0
        || !zeros b 62 2
  | 0x11 =>
      field b 28 1 > 7 || field b 29 1 > 3 || !zeros b 30 2 || field b 40 4 > 16777216
        || field b 72 4 < 1 || field b 72 4 > 16777216 || !zeros b 76 4 || !zeros b 88 40
  | 0x12 =>
      field b 28 4 < 1 || field b 28 4 > 16777216 || field b 48 4 < 1 || field b 48 4 > 16777216 || !zeros b 52 12
  | 0x13 => field b 32 1 > 1 || !zeros b 33 31
  | 0x14 => !zeros b 28 36
  | 0x15 => !zeros b 24 40
  | _ => true

/-- The SLOTS an opcode requires. -/
def slotsNeeded (b : List Byte) : Nat :=
  match dOp b with
  | 1 => runSlots (dNTasks b) (dNSteps b)
  | 0x11 => 1
  | _ => 0

/-- A command is refused at enqueue with 0x0D (10 R376, 00 R9); row kinds are admitted in a template only (12 R446). -/
def descBad (rowKinds : Bool) (b : List Byte) : Bool :=
  argsBad rowKinds b || dSlots b ≠ slotsNeeded b || field b 1 1 ≥ 8 || field b 2 1 ≥ 4 || field b 3 1 ≠ 0
    || dWatchdog b > 60000000 || (!dStamped b && dStamp b ≠ 0)

/-- A region of a command (10 R380): DVA, length, the rights it needs, and whether it breaks an alignment rule. -/
structure Region where
  dva : Nat := 0
  len : Nat := 0
  r : Bool := false
  w : Bool := false
  x : Bool := false
  mis : Bool := false
deriving DecidableEq, Repr, Inhabited

/-- The ACCESS byte of a fault record (08 Table 8.6). -/
def Region.access (g : Region) : Nat := (if g.r then 1 else 0) + (if g.w then 2 else 0) + (if g.x then 4 else 0)

/-- The regions of a step: the DVA side, then the DVA2 side (10 R380). -/
def stepRegions (x : StepEntry) : List Region :=
  match x.kind with
  | 1 => [{ dva := x.dva, len := x.bytes, r := true }]
  | 2 => [{ dva := x.dva, len := x.bytes, w := true }]
  | 3 => [{ dva := x.dva, len := x.bytes, r := true }, { dva := x.dva2, len := x.bytes, w := true }]
  | 4 => [{ dva := x.dva, len := x.width, r := true, w := true, mis := x.dva % x.width ≠ 0 },
          { dva := x.dva2, len := 8, r := true, w := true, mis := x.dva2 % 8 ≠ 0 }]
  | _ => []

/-- The opcode's own regions, in ARGS order (10 R377, R380; 08 R316; 12 R435). The work list's length, 16 bytes for each
row of the largest bucket, is known from the template alone and is given by the caller. -/
def opRegions (b : List Byte) (wlBytes : Nat) : List Region :=
  let page (lo : Nat) (r w : Bool) : Region :=
    { dva := field b lo 8, len := field b (lo + 8) 8, r := r, w := w,
      mis := field b lo 8 % 4096 ≠ 0 || field b (lo + 8) 8 = 0 || field b (lo + 8) 8 % 4096 ≠ 0 }
  match dOp b with
  | 2 => [{ dva := field b 32 8, len := field b 40 8, r := true, mis := field b 32 8 % 128 ≠ 0 }]
  | 3 => [{ dva := field b 32 8, len := field b 56 4, r := true, mis := field b 32 8 % 4 ≠ 0 },
          { dva := field b 40 8, len := field b 60 4, w := true, mis := field b 40 8 % 4 ≠ 0 },
          { dva := field b 48 8, len := field b 24 4, w := true }]
  | 4 => [page 32 true (field b 24 1 = 0)]
  | 5 => [page 32 true false]
  | 0x10 => [{ dva := field b 32 8, len := 16 * field b 56 1, r := true, mis := field b 32 8 % 128 ≠ 0 },
             { dva := field b 40 8, len := wlBytes, w := true },
             { dva := field b 48 8, len := wlBytes, r := true, w := true }]
  | 0x11 => [{ dva := field b 32 8, len := 4 * field b 40 4, r := true },
             { dva := field b 48 8, len := field b 56 8, r := true, w := true, mis := field b 48 8 % 4096 ≠ 0 },
             { dva := field b 64 8, len := 8 * field b 72 4, w := true, mis := field b 64 8 % 8 ≠ 0 },
             { dva := field b 80 8, len := 16, w := true, mis := field b 80 8 % 16 ≠ 0 }]
  | 0x12 => [{ dva := field b 32 8, len := 4 * field b 28 4, r := true },
             { dva := field b 40 8, len := 8 * field b 48 4, w := true, mis := field b 40 8 % 8 ≠ 0 }]
  | _ => []

/-- The stamp region, when one is named (09 R358). -/
def stampRegion (b : List Byte) : List Region :=
  if dStamped b then [{ dva := dStamp b, len := 16, w := true, mis := dStamp b % 16 ≠ 0 }] else []

/-- Every region of a command, numbered as R380 numbers them. -/
def dRegions (b : List Byte) (wlBytes : Nat) : List Region :=
  (dTasks b).map (fun t => { dva := t.prog, len := 16 * t.len, x := true, mis := t.prog % 16 ≠ 0 })
    ++ (dSteps b).flatMap stepRegions ++ opRegions b wlBytes ++ stampRegion b

/-- The number of the first region of a step (10 R380). -/
def stepRegionBase (b : List Byte) (i : Nat) : Nat :=
  dNTasks b + (((dSteps b).take i).flatMap stepRegions).length

/-- The number of the stamp region. -/
def stampRegionNo (b : List Byte) : Nat := dNTasks b + ((dSteps b).flatMap stepRegions).length + (opRegions b 0).length

end Sys2Proof.Machine
end

