-- ==== Sys2Proof/Machine/Translation.lean ====
section
/-! DEFINITION. Translation: the table formats, the cache, pretranslation, fault records and the fault ring (chapter 08,
R275-R302). -/
namespace Sys2Proof.Machine
open Sys2Proof

/-- The parcel whose plat grants a queue (11 Table 11.1). -/
def State.queueParcel (s : State) (q : Nat) : Option Nat :=
  (List.range 8).find? (fun p => decide ((s.parcel p).qFirst ≤ q ∧ q < (s.parcel p).qFirst + (s.parcel p).qCount))

/-! ## Table reads -/

/-- A read of a translation table: a host request (08 R280). -/
def State.readTable (s : State) (kind addr len : Nat) : Acc (List Byte) :=
  let p : Piece := { back := if kind = 2 then .host else .loc, addr := addr, len := len, nocache := false, dva := 0 }
  s.readPiece .host p

/-- A range-table entry as read (08 Table 8.3). -/
structure RawEntry where
  bad : Bool := false
  valid : Bool := false
  e : XlatEntry := {}
deriving DecidableEq, Repr, Inhabited

/-- Decode a range-table entry with the checks that concern it alone (08 R281, R282, R285). -/
def decodeRange (idx : Nat) (b : List Byte) : RawEntry :=
  let w0 := field b 0 8
  let w1 := field b 8 8
  let base := field b 16 8
  let alt := field b 24 8
  let kind := bitsOf w0 9 8
  let altKind := bitsOf w0 11 10
  let active := bitAt w0 6
  let altValid := bitAt w0 7
  let start := bitsOf w0 47 12 * 4096
  let len := bitsOf w1 47 12 * 4096
  let bad := bitsOf w0 63 48 ≠ 0 || w1 % 4096 ≠ 0 || bitsOf w1 63 48 ≠ 0 || kind = 1 || altKind = 1 || altKind = 3
    || (active && !altValid) || len = 0 || base % 4096 ≠ 0 || alt % 4096 ≠ 0 || (alt ≠ 0 && !altValid)
    || (kind = 0 && base + len > 2 ^ 36) || (altValid && altKind = 0 && alt + len > 2 ^ 36)
  { bad := bad, valid := bitAt w0 0,
    e := { start := start, len := len, kind := if active then altKind else kind, base := if active then alt else base,
           r := bitAt w0 1, w := bitAt w0 2, x := bitAt w0 3, remote := bitAt w0 4, nocache := bitAt w0 5, index := idx } }

/-- What a lookup finds. -/
inductive Look where
  | found (e : XlatEntry) (s : State)
  | missing (s : State)
  | error (s : State)
  | wait (s : State)

/-- Binary search over the entries [lo, hi) for the last whose START is at or below a DVA (08 R284). `seen` holds the
entries this search has read, which must stand in order (R285). -/
def searchRange (s : State) (cfg : XlatConfig) (v : Nat) :
    Nat → Nat → Nat → Option RawEntry → List (Nat × RawEntry) → Look
  | 0, _, _, _, _ => .error s
  | fuel + 1, lo, hi, best, seen =>
      if lo ≥ hi then
        match best with
        | some r => if r.valid && decide (v < r.e.start + r.e.len) then .found r.e s else .missing s
        | none => .missing s
      else
        let mid := (lo + hi - 1) / 2
        match s.readTable cfg.tableKind (cfg.base + 32 * mid) 32 with
        | .ok b s =>
            let r := decodeRange mid b
            let disorder := seen.any (fun (j, f) =>
              if j < mid then decide (r.e.start < f.e.start + f.e.len) else decide (f.e.start < r.e.start + r.e.len))
            if r.bad || disorder then .error s
            else if r.e.start ≤ v then searchRange s cfg v fuel (mid + 1) hi (some r) ((mid, r) :: seen)
            else searchRange s cfg v fuel lo mid best ((mid, r) :: seen)
        | .wait s => .wait s
        | .remote _ _ => .error s
        | .fail _ _ => .error s

/-- A walk of the huge-page tables (08 R286, R287). -/
def walkHuge (s : State) (cfg : XlatConfig) (v : Nat) : Look :=
  match s.readTable cfg.tableKind (cfg.base + 8 * bitsOf v 47 36) 8 with
  | .wait s => .wait s
  | .remote _ _ => .error s
  | .fail _ _ => .error s
  | .ok b s =>
      let d := leNat b
      if bitsOf d 13 1 ≠ 0 then .error s
      else if !bitAt d 0 then .missing s
      else
        match s.readTable cfg.tableKind (d / 2 ^ 14 * 2 ^ 14 + 8 * bitsOf v 35 25) 8 with
        | .wait s => .wait s
        | .remote _ _ => .error s
        | .fail _ _ => .error s
        | .ok b s =>
            let l := leNat b
            let kind := bitsOf l 9 8
            let page := l / 2 ^ 25 * 2 ^ 25
            if bitsOf l 7 6 ≠ 0 || bitsOf l 24 10 ≠ 0 || kind = 1 || kind = 3 || (kind = 0 && page + 2 ^ 25 > 2 ^ 36) then .error s
            else if !bitAt l 0 then .missing s
            else .found { start := v / 2 ^ 25 * 2 ^ 25, len := 2 ^ 25, kind := kind, base := page, r := bitAt l 1,
                          w := bitAt l 2, x := bitAt l 3, remote := bitAt l 4, nocache := bitAt l 5,
                          index := v / 2 ^ 25 } s

/-- The entry that a configuration gives for a DVA, read from the table. -/
def State.walk (s : State) (cfg : XlatConfig) (v : Nat) : Look :=
  match cfg.mode with
  | 1 => searchRange s cfg v 14 0 cfg.count none []
  | 2 => walkHuge s cfg v
  | _ => .missing s

/-- Change a parcel's translation statistics. -/
def State.updStats (s : State) (p : Nat) (f : XlatStats → XlatStats) : State :=
  { s with xlat := { s.xlat with stats := s.xlat.stats.upd p f } }

/-- Put an entry in a parcel's 128 places; which one a miss replaces is a free choice (08 R293). -/
def State.cacheInsert (s : State) (p : Nat) (e : XlatEntry) : State :=
  let c := (s.xlat.cache.rd p).filter (fun x => x.start ≠ e.start)
  if c.length < 128 then { s with xlat := { s.xlat with cache := s.xlat.cache.wr p (c ++ [e]) } }
  else
    let k := Config.xlatVictim s.freeCtr % 128
    { s with xlat := { s.xlat with cache := s.xlat.cache.wr p (c.take k ++ c.drop (k + 1) ++ [e]) } }.bump

/-- Invalidate a parcel's cached entries that overlap [lo, hi) (08 R303, R308). -/
def State.cacheDrop (s : State) (p lo hi : Nat) : State :=
  { s with xlat := { s.xlat with cache := s.xlat.cache.upd p (fun c =>
      c.filter (fun e => !decide (e.start < hi ∧ lo < e.start + e.len))) } }

/-- Look a DVA up: a cached entry that covers it is used without a table read (08 R294). Only the installed
configuration has entries in the cache. -/
def State.lookup (s : State) (p : Nat) (cfg : XlatConfig) (cached : Bool) (v : Nat) : Look :=
  match (if cached then (s.xlat.cache.rd p).find? (fun e => decide (e.start ≤ v ∧ v < e.start + e.len)) else none) with
  | some e => .found e (s.updStats p (fun x => { x with hits := x.hits + 1 }))
  | none =>
      match (s.updStats p (fun x => { x with misses := x.misses + 1 })).walk cfg v with
      | .found e s => .found e (if cached then s.cacheInsert p e else s)
      | r => r

/-! ## Pretranslation -/

/-- A backing run is denied to a parcel by its kind (08 R289, 16 R602). -/
def State.kindDenied (s : State) (p kind base len : Nat) : Bool :=
  match kind with
  | 0 => (List.range 4).any (fun c =>
      decide (c * mcWindow < base + len ∧ base < (c + 1) * mcWindow)
        && (match s.mcOwner c with | some o => o != p | none => false)) || s.inResume base len
  | 3 => base / 2 ^ 48 == s.dieId
  | _ => false

/-- What translating a region gives. -/
inductive Tr where
  | ok (es : List Extent) (s : State)
  | wait (s : State)
  | fault (c : Cause) (s : State)

/-- The backing of a kind and address (08 Table 8.1). -/
def backingOf (kind addr : Nat) : Backing :=
  match kind with
  | 0 => .loc
  | 3 => .fabric (addr / 2 ^ 48)
  | _ => .host

/-- Translate a run of a region into extents, at most `room` of them (08 R282, R288-R290). -/
def trRun (p : Nat) (cfg : XlatConfig) (cached remote : Bool) (g : Region) :
    Nat → State → Nat → Nat → List Extent → Tr
  | 0, s, _, len, acc => if len = 0 then .ok acc s else .fault .extentLimit s
  | room + 1, s, v, len, acc =>
      if len = 0 then .ok acc s
      else
        match s.lookup p cfg cached v with
        | .wait s => .wait s
        | .error s => .fault .tableError s
        | .missing s => .fault .notMapped s
        | .found e s =>
            if (g.r && !e.r) || (g.w && !e.w) || (g.x && !e.x) || (remote && !e.remote) then .fault .permission s
            else
              let n := Nat.min len (e.start + e.len - v)
              let b := e.base + (v - e.start)
              if s.kindDenied p e.kind b n then .fault .kindDenied s
              else trRun p cfg cached remote g room s (v + n) (len - n)
                (acc ++ [{ dva := v, len := n, back := backingOf e.kind b, addr := b, nocache := e.nocache, write := g.w }])

/-- Translate one region (00 R17; 08 R276, R290): none of a region of length 0. -/
def trRegion (s : State) (p : Nat) (cfg : XlatConfig) (cached remote : Bool) (room : Nat) (g : Region) : Tr :=
  if g.dva ≥ 2 ^ 48 ∨ g.dva + g.len > 2 ^ 48 then .fault .noncanonical s
  else if g.mis then .fault .misaligned s
  else trRun p cfg cached remote g room s g.dva g.len []

/-- What pretranslation of a command gives: its record by region number, or the first region that faults. -/
inductive Pre where
  | ok (rec : List (Nat × List Extent)) (s : State)
  | wait (s : State)
  | fault (region : Nat) (c : Cause) (s : State)

/-- Translate regions in order, at most 64 extents in all (08 R290). -/
def preGo (p : Nat) (cfg : XlatConfig) (cached : Bool) : List Region → Nat → Nat → State → List (Nat × List Extent) → Pre
  | [], _, _, s, acc => .ok acc s
  | g :: gs, i, room, s, acc =>
      match trRegion s p cfg cached false room g with
      | .ok es s => preGo p cfg cached gs (i + 1) (room - es.length) s (acc ++ [(i, es)])
      | .wait s => .wait s
      | .fault c s => .fault i c s

/-- Pretranslate a command's regions for a parcel through a configuration (08 R290). -/
def State.pretranslate (s : State) (p : Nat) (cfg : XlatConfig) (cached : Bool) (gs : List Region) : Pre :=
  preGo p cfg cached gs 0 64 s []

/-- The extents of a region in a record. -/
def recOf (rec : List (Nat × List Extent)) (i : Nat) : List Extent :=
  match rec.find? (fun x => x.1 == i) with
  | some x => x.2
  | none => []

/-- A record overlaps a DVA range. -/
def recOverlaps (rec : List (Nat × List Extent)) (lo hi : Nat) : Bool :=
  rec.any (fun x => x.2.any (fun e => decide (e.dva < hi ∧ lo < e.dva + e.len)))

/-! ## Fault records -/

/-- The 32 bytes of a fault record (08 Table 8.6). -/
def faultBytes (f : FaultRec) : List Byte :=
  leBytes 8 f.seq ++ leBytes 8 f.dva ++ leBytes 8 f.time ++ leBytes 2 f.queue ++ leBytes 1 f.parcel
    ++ leBytes 1 f.cause.code ++ leBytes 1 f.access ++ leBytes 1 f.region ++ leBytes 2 0

/-- The fault ring is full, or not named (08 R301, R302). -/
def Xlat.ringFull (x : Xlat) : Bool :=
  x.ringLog2 == 0 || decide ((x.ringTail - x.ringHead).toNat ≥ 2 ^ x.ringLog2)

/-- Raise an interrupt on a vector; 0xFFFF is none (10 R393). -/
def State.interrupt (s : State) (v : Nat) : State := if v = 0xFFFF then s else s.send (.intr v)

/-- Write a fault record: the record, then TAIL, then the interrupt; a write that fails loses it (08 R301, R302). A write
whose line a host agent holds is held back. -/
def State.writeRecord (s : State) (f : FaultRec) : State :=
  let slot := s.xlat.ringTail.toNat % 2 ^ s.xlat.ringLog2
  let p : Piece := { back := if s.xlat.ringKind = 2 then .host else .loc, addr := s.xlat.ringBase + 32 * slot,
                     len := 32, nocache := false, dva := 0 }
  match s.writePiece .host p (faultBytes f) with
  | .ok _ s => ({ s with xlat := { s.xlat with ringTail := s.xlat.ringTail + 1 } }).interrupt s.link.faultVector
  | .wait s => { s with xlat := { s.xlat with held := f :: s.xlat.held } }
  | _ => s.emit 58 0x321 f.parcel f.cause.code

/-- Deliver a fault record, or hold it while the ring is full, up to 64 (08 R302). -/
def State.deliver (s : State) (f : FaultRec) : State :=
  if s.xlat.held.isEmpty && !s.xlat.ringFull then s.writeRecord f
  else if s.xlat.held.length < 64 then { s with xlat := { s.xlat with held := s.xlat.held ++ [f] } }
  else s.emit 58 0x321 f.parcel f.cause.code

/-- A fault: it takes the next FAULT_SEQ, is counted and recorded (08 R297-R302). Answers the state and the number. -/
def State.raiseFault (s : State) (q p : Nat) (c : Cause) (region dva access : Nat) : State × Nat :=
  let seq := s.xlat.nextSeq
  let f : FaultRec := { seq := seq, dva := dva, time := s.bench, queue := q, parcel := p, cause := c, access := access,
                        region := region }
  let s := { s with xlat := { s.xlat with nextSeq := seq + 1 } }
  let s := s.updStats p (fun x => { x with faults := x.faults + 1 })
  let s := s.emit 58 0x320 p c.code
  (s.deliver f, seq)

/-- A shootdown of the parcel is in progress: pretranslation admits no new work (08 R308, step 1). -/
def State.xlatShut (s : State) (p : Nat) : Bool := s.xlat.shoots.any (fun x => x.parcel == p)

/-! ## The entries -/

/-- A job is bound to the parcel (11 R402). -/
def State.hasJob (s : State) (p : Nat) : Bool := (List.range 16).any (fun k => (s.job p k).st != .ended)

/-- The bytes of a configuration's table. -/
def XlatConfig.tableBytes (c : XlatConfig) : Nat := if c.mode = 1 then 32 * c.count else if c.mode = 2 then 32768 else 0

/-- A configuration keeps the ranges of Table 8.2 and names a table the TDU may read (08 R279). -/
def State.cfgOk (s : State) (c : XlatConfig) : Bool :=
  decide (c.mode ≤ 2) && (c.tableKind == 0 || c.tableKind == 2)
    && (if c.mode = 1 then decide (1 ≤ c.count ∧ c.count ≤ 4096) && c.base % 128 == 0 else c.count == 0)
    && (c.mode != 2 || c.base % 32768 == 0)
    && c.apBase % 2 ^ 25 == 0 && decide (c.apBase < 2 ^ 48) && c.apLen % 2 ^ 25 == 0 && decide (c.apBase + c.apLen ≤ 2 ^ 48)
    && (c.tableKind != 0 || c.mode == 0
      || (decide (c.base + c.tableBytes ≤ 2 ^ 36)
        && (List.range 4).all (fun k => !decide (k * mcWindow < c.base + c.tableBytes ∧ c.base < (k + 1) * mcWindow)
          || (s.mcOwner k).isNone)))

/-- XLAT_CONFIG_WRITE (08 R275-R279): checked; with a job bound only TABLE_BASE and ENTRY_COUNT may change, as a
whole-space shootdown whose completion gives the answer. -/
def execXlatConfigWrite (by' : Principal) (p : Fin 8) (mode tableKind : Byte) (count : U16) (reserved : U32)
    (base apBase apLen apOff : U64) (s : State) : Out :=
  .next (s.served 36 fun s =>
    let c : XlatConfig := { mode := mode.toNat, tableKind := tableKind.toNat, count := count.toNat, base := base.toNat,
                            apBase := apBase.toNat, apLen := apLen.toNat, apOff := apOff }
    if by' ≠ .hostk ∧ by' ≠ .rtp then s.answer .denied
    else if reserved ≠ 0 ∨ s.cfgOk c = false then s.answer .unsupported
    else if s.hasJob p then
      let old := s.xlat.cfg.rd p
      if { old with base := c.base, count := c.count } ≠ c then s.answer .busy
      else if s.xlat.shoots.length ≥ 8 then s.busy 10
      else
        let sh : Shoot := { parcel := p, tag := none, start := 0, len := 0 }
        let s := { s with xlat := { s.xlat with cfg := s.xlat.cfg.wr p c, shoots := s.xlat.shoots ++ [sh] } }
        let s := match (s.parcel p).holder with
          | some k => s.updJob p k (fun j => { j with cfg := c })
          | none => s
        let s := s.cacheDrop p 0 (2 ^ 48)
        { s with queues := s.queues.updListed (fun q x =>
            if s.queueParcel q = some p.val then
              { x with consumed := x.consumed.map (fun d => if d.started then d else { d with retrans := true }) }
            else x) }
    else ({ s with xlat := { s.xlat with cfg := s.xlat.cfg.wr p c } }.cacheDrop p 0 (2 ^ 48)).answer .ok)

/-- FAULT_RING_WRITE (08 R301): TAIL and FAULT_RING_HEAD become 0; the TAIL bytes of the write are ignored. -/
def execFaultRingWrite (by' : Principal) (base : U64) (kind log2 : Byte) (tail : U32) (s : State) : Out :=
  .next (s.served 36 fun s =>
    let _ignored := tail
    if by' ≠ .hostk ∧ by' ≠ .rtp then s.answer .denied
    else if base.toNat % 32 ≠ 0 ∨ (kind ≠ 0 ∧ kind ≠ 2) ∨ ¬(log2 = 0 ∨ (6 ≤ log2.toNat ∧ log2.toNat ≤ 12)) then
      s.answer .unsupported
    else { s with xlat := { s.xlat with ringBase := base.toNat, ringKind := kind.toNat, ringLog2 := log2.toNat,
                                        ringTail := 0, ringHead := 0 } }.answer .ok)

/-- FAULT_RING_HEAD_WRITE (08 R301): moved neither backwards nor beyond TAIL. -/
def execFaultRingHeadWrite (by' : Principal) (v : U32) (s : State) : Out :=
  .next (s.served 36 fun s =>
    if by' ≠ .hostk then s.answer .denied
    else if (v - s.xlat.ringHead).toNat > (s.xlat.ringTail - s.xlat.ringHead).toNat then s.answer .unsupported
    else { s with xlat := { s.xlat with ringHead := v } }.answer .ok)

/-- FAULT_RECORD_DELIVERY (08 R302): the oldest held record is written once the ring has space. -/
def execFaultRecordDelivery (s : State) : Out :=
  .next (
    match s.xlat.held with
    | f :: rest => if s.xlat.ringFull then s else ({ s with xlat := { s.xlat with held := rest } }).writeRecord f
    | [] => s)

end Sys2Proof.Machine
end

