-- ==== Sys2Proof/Machine/Queues.lean ====
section
/-! DEFINITION. Queues, their states and doorbells, the choice of the holding job, stopping commands and teardown (10
R365-R374, R382-R388; 11 R406, R410-R412, R418, R425-R427). -/
namespace Sys2Proof.Machine
open Sys2Proof

/-! ## Runnable work and the choice of a holder -/

/-- A sequence has pending work (12 Table 12.1). -/
def Seq.pending (q : Seq) : Bool := q.st == .prefill || q.st == .ready

/-- The caddy holds a pending step of a job's sequences (12 R433). -/
def State.caddyPending (s : State) (p slot : Nat) : Bool :=
  (s.caddy.bind.rd (p * 16 + slot)).bound && s.caddy.seqs.any (fun e => e.2.parcel == p && e.2.job == slot && e.2.pending)

/-- A job has runnable work (11 R406). -/
def State.runnable (s : State) (p slot : Nat) : Bool :=
  let j := s.job p slot
  (List.range j.qCount).any (fun k =>
    let x := s.queue (j.qFirst + k)
    x.st == .opened && x.consumed.any (fun c => c.refusal.isNone)) || s.caddyPending p slot

/-- The first READY job in ascending slot order from a slot on, wrapping (11 R410). -/
def State.nextReady (s : State) (p start : Nat) : Option Nat :=
  localGrant 16 start (fun k => (s.job p k).st == .ready)

/-- Begin to switch a job in (11 Table 11.8, step 5 on). -/
def State.beginSwitchIn (s : State) (p slot : Nat) : State :=
  (s.updJob p slot (fun j => { j with st := .switching, switches := j.switches + 1 })).updPar p (fun x =>
    { x with switch := some { incoming := slot }, ordered := none })

/-- With no holder and no switch in progress, a READY job is switched in at once (11 R412); the lead die decides (R424). -/
def State.pickNext (s : State) (p start : Nat) : State :=
  let x := s.parcel p
  if x.holder.isSome || x.switch.isSome || s.fatal || !s.leads p || s.power.state != .idle then s
  else match s.nextReady p start with
    | some k => (s.beginSwitchIn p k).jobEpochUp p
    | none => s

/-- Judge a parcel's jobs WAITING or READY by their runnable work (11 Table 11.6). -/
def State.judgeJobs (s : State) (p : Nat) : State :=
  (List.range 16).foldl (fun s k =>
    let j := s.job p k
    if j.st = .waiting ∨ j.st = .ready then
      let st' : JobSt := if s.runnable p k then .ready else .waiting
      if st' = j.st then s else s.updJob p k (fun j => { j with st := st' })
    else s) s

/-- Judge a parcel's jobs and, with no holder, switch a READY one in (11 R412). -/
def State.refreshJobs (s : State) (p : Nat) : State := (s.judgeJobs p).pickNext p 0

/-- A granule of a physical slice is covered by a SCRATCH resident entry (11 R414). -/
def State.covered (s : State) (p slot sl g : Nat) : Bool :=
  (s.job p slot).residents.any (fun (r : Resident) => r.kind == 1 && (s.parcel p).sliceOf r.scr.slice == some sl
    && decide (64 * r.scr.off64 ≤ 1024 * g ∧ 1024 * g < 64 * r.scr.off64 + r.len))

/-- The live granules of a slice (11 R414), rising. -/
def State.liveOf (s : State) (p slot sl : Nat) : List Nat :=
  ((s.slc.rd sl).gran.filter (fun (g : Nat × Gran) => g.2.st == .present && !s.covered p slot sl g.1)).map Prod.fst

/-- The number of a job's live granules on this die. -/
def State.liveCount (s : State) (p slot : Nat) : Nat :=
  (maskBits 16 (s.parcel p).slices).foldl (fun n sl => n + (s.liveOf p slot sl).length) 0

/-- The queues of a job. -/
def Job.queues (j : Job) : List Nat := (List.range j.qCount).map (· + j.qFirst)

/-- A command of a job is running (11 R413). -/
def State.jobBusy (s : State) (p slot : Nat) : Bool :=
  (s.job p slot).queues.any (fun q => (s.queue q).consumed.any (fun (c : Cmd) => c.started && !(c.isOver)))
    || (List.range 16).any (fun n => match (s.engine n).task with | some t => t.parcel == p && t.job == slot | none => false)

/-- A job's slice has expired and it stands at a boundary that is a cheap point: the switch takes place (11 R413-R415). -/
def State.mustSwitch (s : State) (p slot : Nat) : Bool :=
  (s.parcel p).expired.isSome && !s.jobBusy p slot && decide (s.liveCount p slot ≤ (s.job p slot).liveBudget)

/-- A job may start commands: it holds the parcel, no switch is under way or due, and its grace has not ended (11 R413, R415). -/
def State.mayStart (s : State) (p slot : Nat) : Bool :=
  let x := s.parcel p
  x.holder == some slot && x.switch.isNone && !x.graceOver && !s.mustSwitch p slot && (s.job p slot).st == .holding && !s.fatal
    && s.power.state != .entering

/-! ## Stopping commands -/

/-- A task belongs to a command. -/
def Task.ofCmd (t : Task) (q serial : Nat) : Bool := t.queue == q && t.cmd == serial

/-- Remove a queue's waiting acquires from every semaphore (09 R349). -/
def State.dropSemWaits (s : State) (q : Nat) : State :=
  { s with sems := s.sems.updListed (fun _ m => { m with waiters := m.waiters.filter (fun w => w.owner != .queue q) }) }

/-- Stop a command's work: tasks at their next instruction boundary, steps where they stand, with a cause (10 R388, 08
R311, 03 R835). -/
def State.stopCmd (s : State) (q serial : Nat) (c : Cause) : State :=
  let s := (List.range 16).foldl (fun s n =>
    let s := s.updEng n (fun e => { e with inbox := e.inbox.filter (fun t => !t.ofCmd q serial) })
    match (s.engine n).task with
    | some t => if t.ofCmd q serial then s.killTask n c else s
    | none => s) s
  let s := (List.range 8).foldl (fun s p =>
    s.updPar p (fun x => { x with firstFree := x.firstFree.filter (fun w => !(w.1 == q && w.2.1 == serial)) })) s
  let s := match (s.queue q).consumed.find? (fun d => d.serial == serial) with
    | some d => d.claims.foldl (fun (s : State) (x : Nat × List Claim) => s.unclaim x.2) s
    | none => s
  let s := (s.dropSemWaits q).abortCollsOf q serial
  let s := (s.fab.gathers.map (·.owner)).foldl (fun s o => match o with
    | .step k n _ => if k = q ∧ n = serial then s.dropGather o else s
    | _ => s) s
  let s := { s with te := { s.te with ctx := s.te.ctx.updListed (fun _ x =>
    match x.run with
    | some r => if r.queue = q ∧ r.cmd = serial then { x with run := none } else x
    | none => x) } }
  let live (i n : Nat) : Bool := match (s.engine n).task with | some t => t.ofCmd q serial && t.item == i | none => false
  s.updCmd q serial (fun d =>
    { d with stopped := some c, claims := [],
             items := d.items.zipIdx.map (fun (x : ItemSt × Nat) => match x.1 with
               | .running n => if live x.2 n then x.1 else .done .faulted c
               | .idle => .done .faulted c
               | .waiting => .done .faulted c
               | y => y) })

/-- Drop every task of a job at once, for a teardown whose scrub follows (11 Table 11.9; 03 R835). -/
def State.dropTasks (s : State) (p slot : Nat) : State :=
  (List.range 16).foldl (fun s n =>
    let s := s.updEng n (fun e => { e with inbox := e.inbox.filter (fun t => !(t.parcel == p && t.job == slot)) })
    match (s.engine n).task with
    | some t =>
        if t.parcel = p ∧ t.job = slot then
          let e := s.engine n
          let s := s.unclaim ((e.half0.drain.map (·.claims)).getD [] ++ (e.half1.drain.map (·.claims)).getD [])
          let s := s.updEng n (fun e => { e with half0 := { e.half0 with drain := none }, half1 := { e.half1 with drain := none },
                                                 stopReq := false })
          s.taskEnd n .faulted .exec
        else s
    | none => s) s

/-! ## Queue states -/

/-- A queue becomes FAULTED (10 R369, R371, R387): commands behind the running one complete FLUSHED, its semaphores are
abandoned (09 Table 9.6) and its parked fault is discarded (08 R304). -/
def State.faultQueue (s : State) (q : Nat) : State :=
  if (s.queue q).st = .faulted then s
  else
    let s := s.updQ q (fun x => { x with st := .faulted, consumed := x.consumed.map (fun c =>
      if c.started || c.refusal.isSome then c
      else { c with refusal := some (.faulted, .flushed), detail := 0xFF, faultSeq := 0 }) })
    let s := { s with xlat := { s.xlat with parked := s.xlat.parked.filter (fun k => k.queue ≠ q) } }
    (s.strike (fun o => o == .queue q)).semSettle

/-- A queue becomes CLOSED (10 R366; 09 Table 9.6). -/
def State.closeQueue (s : State) (q : Nat) : State :=
  let s := s.updQ q (fun x => { x with st := .closed, closing := false, descRing := [], cplRing := [], consumed := [],
                                       heldCpl := false })
  let s := { s with xlat := { s.xlat with parked := s.xlat.parked.filter (fun k => k.queue ≠ q) } }
  (s.strike (fun o => o == .queue q)).semSettle

/-- Stop the running command of a queue and discard its consumed commands without completions (10 R366, 11 R407). -/
def State.discardCmds (s : State) (q : Nat) : State :=
  let s := (s.queue q).consumed.foldl (fun s c => if c.started then s.stopCmd q c.serial .exec else s) s
  s.updQ q (fun x => { x with consumed := [], heldCpl := false })

/-- What opening a queue gives. -/
inductive OpenRes where
  | ok (s : State)
  | wait (s : State)
  | refused (st : Status) (s : State)

/-- Open a queue through a job's configuration (10 R366, R367): both rings translate whole, neither to another die. -/
def State.openQueue (s : State) (q p : Nat) (cfg : XlatConfig) (cached : Bool) : OpenRes :=
  let x := s.queue q
  if !(decide (4 ≤ x.descLog2 ∧ x.descLog2 ≤ 12 ∧ 4 ≤ x.cplLog2 ∧ x.cplLog2 ≤ 12)) then .refused .unsupported s
  else
    let gs : List Region := [{ dva := x.descBase, len := 64 * 2 ^ x.descLog2, r := true },
                             { dva := x.cplBase, len := 32 * 2 ^ x.cplLog2, w := true }]
    match s.pretranslate p cfg cached gs with
    | .wait s => .wait s
    | .fault i c s =>
        let g := gs.getD i {}
        .refused .faulted (s.raiseFault q p c i g.dva g.access).1
    | .ok rec s =>
        if rec.any (fun r => r.2.any (fun e => match e.back with | .fabric _ => true | _ => false)) then .refused .faulted s
        else .ok (s.updQ q (fun x => { x with st := .opened, descHead := 0, tail := 0, cplHead := 0, cplTail := 0,
                                              descRing := recOf rec 0, cplRing := recOf rec 1, consumed := [],
                                              closing := false, heldCpl := false }))

/-- Only the kernel driver and the RTP control queues, on a die that serves them (10 R366; 18 R680). The answer where the request
goes no further. -/
def State.queueGate (s : State) (by' : Principal) : Option State :=
  if by' ≠ .hostk ∧ by' ≠ .rtp then some (s.answer .denied)
  else if s.fatal then some (s.answer .retired)
  else none

/-- QUEUE_OPEN (10 R366, R367; 11 R405; 18 R686, R707; 20 R758). -/
def execQueueOpen (by' : Principal) (q : Fin 1024) (s : State) : Out :=
  .next (s.servedOpen 47 fun s =>
    match s.queueGate by' with
    | some s => s
    | none =>
        if s.queuesRetired ∨ s.svc.state ≠ 0 then s.answer .retired
        else if (s.queueParcel q).isNone then s.answer .denied
        else match s.jobOf q with
          | none => s.answer .denied
          | some (p, slot) =>
              if (s.queue q).st ≠ .closed then s.answer .busy
              else match s.openQueue q p (s.job p slot).cfg (decide ((s.job p slot).cfg = s.xlat.cfg.rd p)) with
                | .ok s => s.answer .ok
                | .wait s => s
                | .refused st s => s.answer st)

/-- QUEUE_CLOSE (10 R366): reading stops; the write completes once the last consumed command has written its
completion. -/
def execQueueClose (by' : Principal) (q : Fin 1024) (s : State) : Out :=
  .next (s.served 35 fun s =>
    match s.queueGate by' with
    | some s => s
    | none =>
        if (s.queue q).consumed.isEmpty then (s.closeQueue q).answer .ok
        else s.updQ q (fun x => { x with closing := true }))

/-- QUEUE_RESET (10 R366): the running command stops, consumed commands are discarded, the counts become 0 and the queue
is OPEN; a CLOSED queue names no rings. -/
def execQueueReset (by' : Principal) (q : Fin 1024) (s : State) : Out :=
  .next (s.served 35 fun s =>
    match s.queueGate by' with
    | some s => s
    | none =>
        if (s.queue q).st = .closed then s.answer .unsupported
        else
          let s := s.discardCmds q
          let s := (s.strike (fun o => o == .queue q.val)).semSettle
          let s := { s with xlat := { s.xlat with parked := s.xlat.parked.filter (fun k => k.queue ≠ q.val) } }
          (s.updQ q (fun x => { x with st := .opened, descHead := 0, tail := 0, cplHead := 0, cplTail := 0, closing := false })).answer .ok)

/-- A tail value reaches a queue (10 R371, Table 10.2): stale, accepted or faulting. -/
def State.ringTail (s : State) (q : Nat) (v : U32) : State :=
  let x := s.queue q
  let stale (s : State) : State := (s.updQ q (fun x => { x with stale := x.stale + 1 })).emit 57 0x342 0xFF q
  if x.st = .closed ∨ x.st = .faulted then stale s
  else if (v - x.descHead).toNat ≤ (x.tail - x.descHead).toNat then stale s
  else if (v - x.descHead).toNat ≤ 2 ^ x.descLog2 then s.updQ q (fun x => { x with tail := v })
  else (s.emit 57 0x343 0xFF q).faultQueue q

/-- DOORBELL (10 R371): a write of TAIL on a queue's doorbell page. -/
def execDoorbell (q : Fin 1024) (v : U32) (s : State) : Out := .next (if s.awake then s.ringTail q v else s)

/-- A write of CPL_HEAD (10 R374). -/
def State.setCplHead (s : State) (q : Nat) (v : U32) : State :=
  let x := s.queue q
  if (v - x.cplHead).toNat ≤ (x.cplTail - x.cplHead).toNat then s.updQ q (fun x => { x with cplHead := v })
  else s.emit 57 0x345 0xFF q

/-- CPL_HEAD_WRITE (10 R374). -/
def execCplHeadWrite (q : Fin 1024) (v : U32) (s : State) : Out := .next (if s.awake then s.setCplHead q v else s)

/-! ## Clearing a parcel and faulting a job -/

/-- A scrub of a slice (07 R234): every byte zero, every granule EMPTY, every word fresh (07 R836). -/
def Slice.scrub (x : Slice) : Slice := { x with bytes := [], gran := [], bad := [] }

/-- Clear a parcel's tree-engine context, its segments and node ways (06 R224). -/
def State.clearTe (s : State) (p : Nat) : State :=
  let segs := maskBits 64 (s.te.segments.rd p)
  { s with te := { s.te with ctx := s.te.ctx.wr p {}, am := s.te.am.filter (fun e => !segs.contains (e.1 / 1024)) } }

/-- Steps 3-4 of Table 11.8 (11 R418; 07 R234, R241; 06 R224): engines, slices, ways and context of a parcel are cleared,
its advice too (08 R324). -/
def State.clearParcel (s : State) (p : Nat) : State :=
  let x := s.parcel p
  let s := (maskBits 16 x.engines).foldl (fun s n => s.updEng n (fun e => { e with block := none, half0 := {}, half1 := {} })) s
  let s := (maskBits 16 x.slices).foldl (fun s n => s.updSlc n Slice.scrub) s
  let s := s.waysClear x.dcWays
  let s := s.clearTe p
  { s with xlat := { s.xlat with advice := s.xlat.advice.wr p [] } }

/-- Free a job's caddy entries and its binding (12 R460). -/
def State.freeCaddy (s : State) (p slot : Nat) : State :=
  { s with caddy := { s.caddy with
      seqs := s.caddy.seqs.filter (fun e => !(e.2.parcel == p && e.2.job == slot)),
      bind := s.caddy.bind.wr (p * 16 + slot) {} } }

/-- The streams of a job become STOPPED: the entry in progress is discarded (13 R480). -/
def State.stopStreams (s : State) (jobId : Nat) : State :=
  (List.range 16).foldl (fun (s : State) n =>
    let x := s.streams.rd n
    if x.cfg.jobId = jobId ∧ x.st = .opened then
      (s.dropGather (.stream n)).updStream n (fun x => { x with st := .stopped, entry := none, phase := 0, closing := false })
    else s) s

/-- Teardown of a job (11 R425-R427, Table 11.9), counted with the value of its cause. -/
def State.faultJob (s : State) (p slot value : Nat) : State :=
  let j := s.job p slot
  if j.st = .faulted ∨ j.st = .ended then s
  else
    let held := decide ((s.parcel p).holder = some slot)
    let coming := match (s.parcel p).switch with | some w => decide (w.incoming = slot) | none => false
    let s := s.emit 57 0x352 p value
    let s := s.updJob p slot (fun j => { j with st := .faulted, saved := false })
    let s := s.updPar p (fun x => { x with faulted := x.faulted + 1 })
    let s := s.dropTasks p slot
    let s := j.queues.foldl (fun s q =>
      let s := (s.queue q).consumed.foldl (fun s c => if c.started then s.stopCmd q c.serial .flushed else s) s
      s.faultQueue q) s
    let s := ((s.freeCaddy p slot).stopStreams j.id.toNat).dropGather (.image p slot)
    let s := if held || coming then
      let s := s.clearParcel p
      let s := s.updPar p (fun x => { x with holder := none, switch := none, sliceEnd := none, expired := none,
                                             graceOver := false, flags := [], flagWaits := [], firstFree := [] })
      (s.judgeJobs p).pickNext p ((slot + 1) % 16)
    else s
    s.jobEpochUp p

end Sys2Proof.Machine
end

