-- ==== Sys2Proof/Machine/AgreeOps.lean ====
section
/-! DEFINITION. The operations that ports and agreement share: the die-fatal event (18 R680), the election, the datum and its
comparison (15 R561-R569), notices and reports (15 R570-R572, R576). -/
namespace Sys2Proof.Machine
open Sys2Proof

/-- The neighbour's die ID on a port. -/
def State.peerDie (s : State) (p : Nat) : Nat := (s.port p).peer.die

/-- The ports that lead to a die directly. -/
def State.portsTo (s : State) (die : Nat) : List Nat :=
  (List.range 8).filter (fun p => ((s.port p).st == .active || (s.port p).st == .retrain) && s.peerDie p == die)

/-- The record of NOTICE and NOTICE_REPORT (15 R570). -/
def noticeBytes (kind die resetCount : Nat) : List Byte := leBytes 1 kind ++ leBytes 1 0 ++ leBytes 2 die ++ leBytes 4 resetCount

/-- Abandon the semaphores of a die (09 Table 9.6, R349). -/
def State.strikeDie (s : State) (die : Nat) : State :=
  (s.strike (fun o => match o with | .die d _ => d == die | _ => false)).semSettle

/-! ## The die-fatal event (07 Table 7.5; 15 R587; 18 R680) -/

/-- A die-fatal event: every queue is FAULTED, and the die waits for a reset, its own where FATAL_AUTO_RESET_MS is set. -/
def State.dieFatal (s : State) : State :=
  if s.fatal then s
  else
    let s := (List.range 1024).foldl (fun s q => s.faultQueue q) s
    let auto := if s.start.fatalAutoMs = 0 then none else some (s.now + 1000000 * s.start.fatalAutoMs)
    { s with fatal := true, start := { s.start with phase := .fatalHold, autoResetAt := auto } }

/-! ## Surveyor (15 R557, R561) -/

/-- This die holds itself as surveyor (15 R561; R557 for an alone die). -/
def State.isSurveyor (s : State) : Bool := s.agree.survDie == s.dieId || s.alone

/-- A beacon is fresh (15 R561). -/
def State.fresh (s : State) (b : Beacon) : Bool :=
  b.heard && decide (s.now ≤ b.at' + 3000000) && decide (s.now ≤ b.seqAt + 5000000) && decide (b.survHops < 63)

/-- The better of two candidates: epoch, die, hops and sequence (15 R561). -/
def better (a b : Nat × Nat × Nat × Nat) : Nat × Nat × Nat × Nat :=
  if a.1 > b.1 ∨ (a.1 = b.1 ∧ (a.2.1 < b.2.1 ∨ (a.2.1 = b.2.1 ∧ a.2.2.1 ≤ b.2.2.1))) then a else b

/-- The election (15 R557, R561, R562): itself unless QUARANTINED, and each neighbour's fresh beacon not marked QUARANTINED. -/
def State.elect (s : State) : State :=
  let self := (s.agree.datum.epoch, s.dieId, 0, s.agree.survSeq)
  let mine := if s.agree.standing = .quarantined then [] else [self]
  let theirs := (s.agree.neigh.filter (fun (e : Nat × Beacon) => s.fresh e.2 && !bitAt e.2.flags 1)).map
    (fun (e : Nat × Beacon) => (e.2.survEpoch, e.2.survDie, e.2.survHops + 1, e.2.survSeq))
  let cs := if s.alone then [self] else mine ++ theirs
  match cs with
  | [] => s
  | c :: cs =>
      let b := cs.foldl better c
      let changed := decide (b.2.1 ≠ s.agree.survDie)
      let s := { s with agree := { s.agree with survEpoch := b.1, survDie := b.2.1, survHops := b.2.2.1, survSeq := b.2.2.2 } }
      if changed then s.emit 66 0x410 0xFF b.2.1 else s

/-! ## The datum (15 R564-R568) -/

/-- VERSION_SET in its stored form (15 Table 15.3). -/
def Datum.versionBytes (d : Datum) : List Byte :=
  leBytes 1 d.versions.length
    ++ d.versions.flatMap (fun (v : Nat × Nat × Nat) => leBytes 1 v.1 ++ leBytes 1 v.2.1 ++ leBytes 1 v.2.2 ++ leBytes 1 0)

/-- BENCH_SOURCE in its stored form. -/
def Datum.benchBytes (d : Datum) : List Byte := leBytes 2 d.benchDie ++ leBytes 1 d.benchKind ++ leBytes 1 0

/-- An approximation profile's 8 bytes (05 Table 5.1). -/
def AlProfile.bytes (a : AlProfile) : List Byte :=
  leBytes 1 a.int8T ++ leBytes 1 a.int4T ++ leBytes 1 (match a.fpExp with | none => 0x80 | some x => twos 8 x)
    ++ leBytes 1 a.margin ++ leBytes 2 a.limit ++ leBytes 2 0

/-- FABRIC_CONFIG in its stored form: the settings in force (15 R565). -/
def State.fabricConfig (s : State) : List Byte :=
  leBytes 4 s.fab.txnTimeoutUs ++ (List.range 7).flatMap (fun k => (s.approx.profiles.rd (k + 1)).bytes)

/-- The configuration digest (15 R564); a quarantined die holds the one it took (Table 15.5 step 3). -/
def State.digest (s : State) : List Byte :=
  let d := s.agree.datum
  if s.agree.standing = .quarantined then d.digest
  else padTo 48 (Config.sha384 (d.versionBytes ++ s.fabricConfig ++ d.platBytes ++ d.benchBytes))

/-- VERSION_SET from its bytes: 1-8 image kinds. -/
def versionsOf (b : List Byte) : Option (List (Nat × Nat × Nat)) :=
  let n := field b 0 1
  if n < 1 ∨ n > 8 ∨ b.length ≠ 1 + 4 * n then none
  else
    let vs := (List.range n).map (fun k => (field b (1 + 4 * k) 1, field b (2 + 4 * k) 1, field b (3 + 4 * k) 1))
    if (List.range n).all (fun k => field b (4 + 4 * k) 1 == 0) && vs.all (fun v => decide (1 ≤ v.1 ∧ v.1 ≤ 8)) then some vs else none

/-- An entry of FABRIC_PLAT from its 264 bytes. -/
def platEntry (b : List Byte) : Option FPlat :=
  let n := field b 6 2
  let rs := (List.range n).map (fun k => (field b (8 + 4 * k) 2, field b (10 + 4 * k) 2))
  if field b 0 2 = 0 ∨ field b 2 1 > 7 ∨ field b 3 1 ≠ 0 ∨ n < 1 ∨ n > 64 ∨ rs.any (fun r => decide (r.1 > r.2 ∨ r.2 = 0xFFFF)) then none
  else some { fparcel := field b 0 2, slot := field b 2 1, lead := field b 4 2, ranges := rs }

/-- Every value of a list, if each is present. -/
def allSome {α : Type} : List (Option α) → Option (List α)
  | [] => some []
  | none :: _ => none
  | some x :: r => (allSome r).map (x :: ·)

/-- A die appears in two of the entries (15 R566). -/
def platOverlap : List FPlat → Bool
  | [] => false
  | e :: r => r.any (fun f => e.ranges.any (fun a => f.ranges.any (fun b => decide (a.1 ≤ b.2 ∧ b.1 ≤ a.2)))) || platOverlap r

/-- FABRIC_PLAT from its bytes: at most 256 entries. -/
def platsOf (b : List Byte) : Option (List FPlat) :=
  let n := field b 0 2
  if n > 256 ∨ b.length ≠ 2 + 264 * n then none
  else allSome ((List.range n).map (fun k => platEntry (slice b (2 + 264 * k) 264)))

/-- A profile from its 8 bytes, in its ranges (05 Table 5.1). -/
def profileOf (b : List Byte) : Option AlProfile :=
  let x (k : Nat) : Byte := BitVec.ofNat 8 (field b k 1)
  if field b 6 2 ≠ 0 ∨ profileInRange (x 0) (x 1) (x 2) (x 3) (BitVec.ofNat 16 (field b 4 2)) = false then none
  else some { int8T := field b 0 1, int4T := field b 1 1, fpExp := fpExpOf (x 2), margin := field b 3 1, limit := field b 4 2 }

/-- FABRIC_CONFIG from its 60 bytes. -/
def configOf (b : List Byte) : Option (Nat × List AlProfile) :=
  let t := field b 0 4
  if b.length ≠ 60 ∨ t < 10 ∨ t > 100000 then none
  else (allSome ((List.range 7).map (fun k => profileOf (slice b (4 + 8 * k) 8)))).map (fun ps => (t, ps))

/-- A datum's parts from their bytes (15 Table 15.3). -/
structure DatumParts where
  versions : List (Nat × Nat × Nat) := []
  timeoutUs : Nat := 500
  profiles : List AlProfile := []
  platBytes : List Byte := []
  plat : List FPlat := []
  benchDie : Nat := 0
  benchKind : Nat := 0
deriving DecidableEq, Repr, Inhabited

/-- A datum's parts, if each is in range and no die is in two fabric parcels. -/
def partsOf (vs cfg pl bench : List Byte) : Option DatumParts :=
  match versionsOf vs, configOf cfg, platsOf pl with
  | some v, some c, some p =>
      if platOverlap p ∨ bench.length ≠ 4 ∨ field bench 2 1 > 2 ∨ field bench 3 1 ≠ 0 then none
      else some { versions := v, timeoutUs := c.1, profiles := c.2, platBytes := pl, plat := p, benchDie := field bench 0 2,
                  benchKind := field bench 2 1 }
  | _, _, _ => none

/-- What a die's parcel slot is in the fabric plat: the fabric parcel, its lead and its number of dies (11 Table 11.1). -/
def State.platOf (s : State) (slot : Nat) : Nat × Nat × Nat :=
  match s.agree.datum.plat.find? (fun e => e.slot == slot && e.ranges.any (fun r => decide (r.1 ≤ s.dieId ∧ s.dieId ≤ r.2))) with
  | some e => (e.fparcel, e.lead, (s.fabricDies e.fparcel).length)
  | none => (0, s.dieId, 1)

/-- The slot holds a job (15 Table 15.5 step 4). -/
def State.holdsJob (s : State) (p : Nat) : Bool := (List.range 16).any (fun k => (s.job p k).st != .ended)

/-- PARCEL_FABRIC of a slot is written from the fabric plat; deferred while the slot holds a job (15 Table 15.5 step 4). -/
def State.applySlot (s : State) (p : Nat) : State :=
  let w := s.platOf p
  let x := s.parcel p
  let bit := 1 <<< p
  let rest := s.agree.deferred &&& (255 - bit)
  if (x.fabricId, x.leadDie, x.dies) = w then { s with agree := { s.agree with deferred := rest } }
  else if s.holdsJob p then { s with agree := { s.agree with deferred := rest + bit } }
  else
    let s := { s with agree := { s.agree with deferred := rest, jobRecs := s.agree.jobRecs.wr p {} } }
    s.updPar p (fun x => { x with fabricId := w.1, leadDie := w.2.1, dies := w.2.2 })

/-- A slot that is marked DEFERRED is written once it holds no job. -/
def State.settleDeferred (s : State) (p : Nat) : State := if bitAt s.agree.deferred p then s.applySlot p else s

/-- The datum's content takes effect here (15 Table 15.5 steps 4-6). -/
def State.applyDatum (s : State) (epoch : Nat) (d : DatumParts) : State :=
  let profs := d.profiles.zipIdx.foldl (fun (t : Tab AlProfile) (x : AlProfile × Nat) => t.wr (x.2 + 1) x.1) s.approx.profiles
  let s := { s with
    agree := { s.agree with
      standing := .admitted, maxEpoch := Nat.max s.agree.maxEpoch epoch,
      datum := { s.agree.datum with epoch := epoch, versions := d.versions, platBytes := d.platBytes, plat := d.plat,
                                    benchDie := d.benchDie, benchKind := d.benchKind } },
    fab := { s.fab with txnTimeoutUs := d.timeoutUs },
    approx := { s.approx with profiles := profs } }
  (List.range 8).foldl (fun s p => s.applySlot p) s

/-- The die's firmware is within the datum's version window (15 R559). -/
def State.inWindow (s : State) (vs : List (Nat × Nat × Nat)) : Bool :=
  vs.all (fun v => s.sec.images.any (fun (e : Nat × ImageRec) =>
    e.2.kind == v.1 && e.2.major == v.2.1 && decide (e.2.minor ≤ v.2.2 + 2 ∧ v.2.2 ≤ e.2.minor + 2)))

/-- The surveyor announces its datum (15 R572). -/
def State.announceDatum (s : State) : State :=
  s.broadcast { op := 0x30, payload := frameBytes 0x11 1 0 0x4100 1 0 0 (leBytes 8 s.agree.datum.epoch ++ s.digest) 0xFFFF }

/-- The surveyor issues its own datum again above every epoch seen, and announces it (15 R569). -/
def State.reissue (s : State) : State :=
  let e := Nat.max s.agree.maxEpoch s.agree.datum.epoch + 1
  let st := if s.agree.standing = .fenced then Standing.admitted else s.agree.standing
  let s := { s with agree := { s.agree with maxEpoch := e, standing := st, datum := { s.agree.datum with epoch := e } } }
  (s.elect).announceDatum

/-- The benchmark source (15 R577): the die BENCH_SOURCE names while it is ADMITTED and reachable, else the surveyor. -/
def State.benchSource (s : State) : Nat :=
  let d := s.agree.datum.benchDie
  if s.alone then s.dieId
  else if d = s.dieId then (if s.agree.standing = .admitted then d else s.agree.survDie)
  else if s.agree.notices.rd d = 0 ∧ bitAt (s.fab.routes.rd d) 3 then d
  else s.agree.survDie

/-- This die is the benchmark source. -/
def State.isBenchSource (s : State) : Bool := s.benchSource == s.dieId

/-- This die's benchmark counts as leveled: it is LEVELED, or it is the source itself (15 R557, R577, R581). -/
def State.leveled (s : State) : Bool := s.agree.bench.leveled || s.isBenchSource

/-! ## Notices (15 R570-R572, R576) -/

/-- The jobs that a governing record shows FAULTED fault here too (15 R574, R576; 11 R425). -/
def State.recFaults (s : State) (p : Nat) (r : JobRec) : State :=
  r.jobs.zipIdx.foldl (fun (s : State) (x : (Nat × Nat) × Nat) => if x.1.2 = 6 then s.faultJob p x.2 0 else s) s

/-- The surveyor faults every job of a parcel whose lead is lost, in its copy and on every member (15 R576). -/
def State.faultLost (s : State) (e : FPlat) : State :=
  match s.agree.survJobs.find? (fun r => r.fparcel == e.fparcel) with
  | none => s
  | some r =>
      let r : JobRec := { r with epoch := r.epoch + 1, holder := 0xFF, jobs := r.jobs.map (fun j => (j.1, if j.2 = 0 then 0 else 6)) }
      let s := { s with agree := { s.agree with survJobs := putRec s.agree.survJobs r } }
      let s := if (s.fabricDies e.fparcel).contains s.dieId then
          let s := s.recFaults e.slot r
          { s with agree := { s.agree with jobRecs := s.agree.jobRecs.wr e.slot r } }
        else s
      ((s.fabricDies e.fparcel).filter (· ≠ s.dieId)).foldl (fun (s : State) d => s.writeTo d 0x4105 (e.slot + 1) r.bytes) s

/-- A lost member faults the parcel's job that is HOLDING or SWITCHING at the lead; a lost lead faults every job of the parcel at
the surveyor (15 R576). -/
def State.lostFabric (s : State) (die : Nat) : State :=
  let s := (List.range 8).foldl (fun (s : State) p =>
    let f := (s.parcel p).fabricId
    if f ≠ 0 ∧ s.leads p = true ∧ (s.fabricDies f).contains die = true then
      (List.range 16).foldl (fun (s : State) k =>
        if (s.job p k).st = .holding ∨ (s.job p k).st = .switching then s.faultJob p k 0 else s) s
    else s) s
  if s.isSurveyor then (s.agree.datum.plat.filter (fun e => e.lead == die)).foldl (fun s e => s.faultLost e) s else s

/-- Act on a notice (15 R572). -/
def State.applyNotice (s : State) (kind die : Nat) : State :=
  let s := { s with agree := { s.agree with notices := s.agree.notices.wr die (if kind = 3 then 0 else kind + 1) } }
  match kind with
  | 0 => (((s.emit 66 0x414 0xFF die).strikeDie die).endTagsTo die .truncated).lostFabric die
  | 1 => s.endTagsTo die .quarantined
  | 2 => s.endTagsTo die .denied
  | _ => s

/-- Broadcast a notice on VC0 and act on it here (15 R571). -/
def State.sendNotice (s : State) (kind die resetCount : Nat) : State :=
  (s.broadcast { op := 0x30, payload := frameBytes 0x11 1 0 0x4108 0 0 0 (noticeBytes kind die resetCount) 0xFFFF }).applyNotice kind die

/-- The surveyor's copies of the records of a die's fabric parcels go to it when it is admitted again (15 R576). -/
def State.resendJobs (s : State) (die : Nat) : State :=
  s.agree.datum.plat.foldl (fun (s : State) e =>
    match s.agree.survJobs.find? (fun r => r.fparcel == e.fparcel) with
    | some r => if (s.fabricDies e.fparcel).contains die ∧ die ≠ s.dieId then s.writeTo die 0x4105 (e.slot + 1) r.bytes else s
    | none => s) s

/-- The surveyor decides a report (15 R569-R571): a loss that shows no reset is probed first; anything else is noticed at once. A
fence makes it issue the datum again. RESET_COUNT 0 shows no reset. -/
def State.surveyNotice (s : State) (kind die resetCount : Nat) : State :=
  if kind = 0 ∧ resetCount = 0 then
    let s := { s with agree := { s.agree with probes := s.agree.probes.filter (fun (q : Nat × Nat) => q.1 != die) ++ [(die, s.now + 5000000)] } }
    s.readFrom die 0x4101 0
  else
    let s := s.sendNotice kind die resetCount
    if kind = 2 then s.reissue else if kind = 3 then s.resendJobs die else s

/-- Report a standing or a loss to the surveyor (15 R570). -/
def State.report (s : State) (kind die resetCount : Nat) : State :=
  if s.isSurveyor then s.surveyNotice kind die resetCount
  else s.writeTo s.agree.survDie 0x4108 0 (noticeBytes kind die resetCount)

/-! ## Comparison (15 R567) -/

/-- The reads of an adoption (15 Table 15.5 step 1). -/
def State.readDatum (s : State) (die : Nat) : State := [2, 3, 4, 5, 6].foldl (fun (s : State) k => s.readFrom die 0x4100 k) s

/-- Begin to adopt a peer's datum. -/
def State.startAdoption (s : State) (die : Nat) (port : Option Nat) (epoch : Nat) (digest : List Byte) : State :=
  let busy := match s.agree.adoption with | some a => decide (a.epoch ≥ epoch) | none => false
  if busy then s
  else
    let a : Adoption := { die := die, port := port, epoch := epoch, digest := digest }
    { s with agree := { s.agree with adoption := some a } }.readDatum die

/-- This die becomes FENCED (15 Table 15.4, R569). -/
def State.fence (s : State) : State :=
  if s.agree.standing ≠ .admitted then s
  else
    let s := ({ s with agree := { s.agree with standing := .fenced } }).emit 66 0x412 0xFF s.dieId
    s.report 2 s.dieId s.ledger.resetCount

/-- Compare a peer's epoch and digest with this die's (15 Table 15.4). -/
def State.compareDatum (s : State) (die : Nat) (port : Option Nat) (epoch : Nat) (digest : List Byte) : State :=
  let s := { s with agree := { s.agree with maxEpoch := Nat.max s.agree.maxEpoch epoch } }
  let own := s.agree.datum.epoch
  if epoch > own then s.startAdoption die port epoch digest
  else if epoch < own then s
  else if digest = s.digest then
    match port with
    | some p =>
        if s.agree.standing = .admitted ∧ (s.port p).admitted = false then (s.updPort p (fun x => { x with admitted := true })).freeWaiting p
        else s
    | none => s
  else if s.agree.standing = .quarantined then s
  else s.fence

end Sys2Proof.Machine
end

