-- ==== Sys2Proof/Machine/Transfer.lean ====
section
/-! DEFINITION. Transfers of a step or an image over pieces of memory, here and on other dies: what lies here is read or
written at once, what lies on another die goes as requests (08 R312-R315; 14 R538-R543). -/
namespace Sys2Proof.Machine
open Sys2Proof

/-- The requests that read a run of a fabric address, each of at most four lines within 512 bytes (14 R538). -/
def readReqs (op fabric : Nat) : Nat → Nat → Nat → Nat → List Req
  | 0, _, _, _ => []
  | fuel + 1, addr, len, off =>
      if len = 0 then []
      else
        let base := addr / 128 * 128
        let n := Nat.min len (addr / 512 * 512 + 512 - addr)
        let lines := (addr + n - base + 127) / 128
        { op := op, ctl := lines - 1, dest := addr / 2 ^ 48, addr := base % 2 ^ 48, fabric := fabric, off := off,
          skip := addr - base, len := n } :: readReqs op fabric fuel (addr + n) (len - n) (off + n)

/-- The byte mask of a masked write: bytes [lo, lo + n) (14 Table 14.7). -/
def maskBytes (lo n : Nat) : List Byte := leBytes 16 ((2 ^ n - 1) * 2 ^ lo)

/-- The requests that write bytes at a fabric address: whole lines together, a part of a line masked (14 R538). -/
def writeReqs (op fabric : Nat) : Nat → Nat → List Byte → List Req
  | 0, _, _ => []
  | fuel + 1, addr, bs =>
      if bs.isEmpty then []
      else
        let base := addr / 128 * 128
        let whole := if addr = base then Nat.min (bs.length / 128) ((addr / 512 * 512 + 512 - addr) / 128) else 0
        if whole > 0 then
          { op := op, ctl := whole - 1, dest := addr / 2 ^ 48, addr := addr % 2 ^ 48, fabric := fabric,
            payload := bs.take (128 * whole) } :: writeReqs op fabric fuel (addr + 128 * whole) (bs.drop (128 * whole))
        else
          let n := Nat.min bs.length (base + 128 - addr)
          { op := 3, dest := addr / 2 ^ 48, addr := base % 2 ^ 48, fabric := fabric,
            payload := padTo 128 (List.replicate (addr - base) 0#8 ++ bs.take n) ++ maskBytes (addr - base) n }
            :: writeReqs op fabric fuel (addr + n) (bs.drop n)

/-- What reading pieces gives: the bytes, a wait for the home's snoops, a remote transfer to start, or a failure. -/
inductive RdRes where
  | ok (bs : List Byte) (s : State)
  | wait (s : State)
  | start (buf : Tab Byte) (reqs : List Req) (s : State)
  | fail (st : Status) (c : Cause) (s : State)

/-- Read pieces from an offset of the buffer on. -/
def readGo (w : Who) (op fabric : Nat) : List Piece → Nat → State → Tab Byte → List Req → RdRes
  | [], n, s, buf, reqs => if reqs.isEmpty then .ok (memRead buf 0 n) s else .start buf reqs s
  | p :: ps, n, s, buf, reqs =>
      match p.back with
      | .fabric _ => readGo w op fabric ps (n + p.len) s buf (reqs ++ readReqs op fabric (p.len / 128 + 8) p.addr p.len n)
      | _ =>
          match s.readPiece w p with
          | .ok bs s => readGo w op fabric ps (n + p.len) s (memWrite buf n bs) reqs
          | .wait s => .wait s
          | .remote _ _ => .fail .faulted .exec s
          | .fail st c => .fail st c s

/-- Read pieces in order. -/
def State.readAll (s : State) (w : Who) (op fabric : Nat) (ps : List Piece) : RdRes := readGo w op fabric ps 0 s [] []

/-- What writing pieces gives. -/
inductive WrRes where
  | ok (s : State)
  | wait (s : State)
  | start (reqs : List Req) (s : State)
  | fail (st : Status) (c : Cause) (s : State)

/-- Write bytes over pieces. Lines already written stand where a later one fails. -/
def writeGo (w : Who) (op fabric : Nat) : List Piece → List Byte → State → List Req → WrRes
  | [], _, s, reqs => if reqs.isEmpty then .ok s else .start reqs s
  | p :: ps, bs, s, reqs =>
      match p.back with
      | .fabric _ =>
          writeGo w op fabric ps (bs.drop p.len) s (reqs ++ writeReqs op fabric (p.len / 128 + 8) p.addr (bs.take p.len))
      | _ =>
          match s.writePiece w p (bs.take p.len) with
          | .ok _ s => writeGo w op fabric ps (bs.drop p.len) s reqs
          | .wait s => .wait s
          | .remote _ _ => .fail .faulted .exec s
          | .fail st c => .fail st c s

/-- A line of a piece must wait for the home's snoops before it is written. -/
def State.pieceBusy (s : State) (p : Piece) : Bool :=
  p.back == .loc && s.paReaches p.addr p.len && (linesOf p.addr p.len).any (s.lineBusy true)

/-- Write bytes over pieces in order, once no line of them waits for a snoop (07 R258). -/
def State.writeAll (s : State) (w : Who) (op fabric : Nat) (ps : List Piece) (bs : List Byte) : WrRes :=
  let busy := ps.filter s.pieceBusy
  if busy.isEmpty then writeGo w op fabric ps bs s []
  else .wait (busy.foldl (fun s p => (linesOf p.addr p.len).foldl (fun s l => s.homeSnoop true l) s) s)

/-- The pieces of a run within a record's extents. -/
def runPieces (exts : List Extent) (dva len : Nat) : Option (List Piece) := pieces exts 65 dva len

/-- Element transposition (08 R312, R313): element (i, j) of a rows × cols source becomes element (j, i). -/
def transposeBytes (bits rows cols : Nat) (bs : List Byte) : List Byte :=
  if bits = 4 then
    let t := bs.zipIdx.foldl (fun (t : Tab Byte) (x : Byte × Nat) => t.wr x.2 x.1) []
    let el (i j : Nat) : Nat :=
      let b := (t.rd (i * (cols / 2) + j / 2)).toNat
      if j % 2 = 0 then b % 16 else b / 16
    (List.range cols).flatMap (fun j => (List.range (rows / 2)).map (fun k =>
      BitVec.ofNat 8 (el (2 * k) j + 16 * el (2 * k + 1) j)))
  else
    let n := bits / 8
    let t := bs.zipIdx.foldl (fun (t : Tab Byte) (x : Byte × Nat) => t.wr x.2 x.1) []
    (List.range cols).flatMap (fun j => (List.range rows).flatMap (fun i => memRead t ((i * cols + j) * n) n))

/-- The bytes a DMA mode delivers. -/
def StepEntry.deliver (x : StepEntry) (bs : List Byte) : List Byte :=
  if x.mode % 8 = 0 then bs else transposeBytes (modeBits x.mode) x.rows x.cols bs

end Sys2Proof.Machine
end

