-- ==== Sys2Proof/Machine/Commands.lean ====
section
/-! DEFINITION. Commands: consumption with its checks and pretranslation, placement, the watchdog and the completion with its
stamp (10 R373-R393; 09 R357-R363; 08 R290-R304). -/
namespace Sys2Proof.Machine
open Sys2Proof

/-! ## Consumption -/

/-- Slots [k, k + n) of a descriptor ring, each a read of 64 bytes (10 R373). -/
def ringRead (q : Queue) (w : Who) : Nat → Nat → State → List Byte → Acc (List Byte)
  | 0, _, s, acc => .ok acc s
  | n + 1, k, s, acc =>
      match s.readDva w q.descRing (q.descBase + 64 * (k % 2 ^ q.descLog2)) 64 with
      | .ok b s => ringRead q w n (k + 1) s (acc ++ b)
      | .wait s => .wait s
      | .remote d a => .remote d a
      | .fail st c => .fail st c

/-- A template's buckets as its header gives them (12 R445): rows, slots and the offset of the image. -/
def templateBuckets (n : Nat) (h : List Byte) : List (Nat × Nat × Nat) :=
  (List.range n).map (fun k => (field h (16 * k) 2, field h (16 * k + 2) 1, field h (16 * k + 8) 8))

/-- The rows of the largest bucket. -/
def maxRows (bs : List (Nat × Nat × Nat)) : Nat := bs.foldl (fun a b => Nat.max a b.1) 0

/-- Pretranslate a command (08 R290). CADDY_BIND's template is read to learn the largest bucket and the images, which belong
to its region 0 (12 R435, R445). -/
def State.preCommand (s : State) (p : Nat) (cfg : XlatConfig) (cached : Bool) (b : List Byte) : Pre :=
  if dOp b ≠ 0x10 then s.pretranslate p cfg cached (dRegions b 0)
  else
    match dRegions b 0 with
    | [] => s.pretranslate p cfg cached []
    | g :: _ =>
        match trRegion s p cfg cached false 64 g with
        | .wait s => .wait s
        | .fault c s => .fault 0 c s
        | .ok es s =>
            match s.readDva (.parcel p) es g.dva g.len with
            | .wait s => .wait s
            | .remote _ _ => .fault 0 .kindDenied s
            | .fail _ _ => .fault 0 .notMapped s
            | .ok h s =>
                let bk := templateBuckets (field b 56 1) h
                let images : List Region := bk.map (fun x => { dva := g.dva + x.2.2, len := 64 * (1 + x.2.1 % 8), r := true })
                match s.pretranslate p cfg cached (images ++ (dRegions b (16 * maxRows bk)).drop 1) with
                | .wait s => .wait s
                | .fault i c s => .fault (i - images.length) c s
                | .ok rec s =>
                    let own := es ++ (rec.filter (fun x => x.1 < images.length)).flatMap (·.2)
                    .ok ((0, own) :: ((rec.filter (fun x => x.1 ≥ images.length)).map (fun x => (x.1 - images.length + 1, x.2)))) s

/-- The region of a command that faulted, for its record. -/
def faultRegion (b : List Byte) (i : Nat) : Region := (dRegions b 0).getD i {}

/-- An extent lies outside the controllers a sealed parcel owns (16 R618, R619). -/
def State.unsealedExt (s : State) (p : Nat) (e : Extent) : Bool :=
  match e.back with
  | .loc => s.mcOwner (e.addr / mcWindow) != some p
  | _ => true

/-- A region of a record leaves a sealed parcel's controllers. -/
def State.regionLeaves (s : State) (p : Nat) (rec : List (Nat × List Extent)) (i : Nat) : Bool :=
  (recOf rec i).any (s.unsealedExt p)

/-- The refusal of a sealed parcel's command at enqueue (16 R618, R619): a sealed write that is not a plain copy, or another
payload destination that leaves the parcel. -/
def State.sealRefusal (s : State) (p : Nat) (b : List Byte) (rec : List (Nat × List Extent)) : Option Status :=
  if !(s.parcel p).sealed then none
  else
    let steps := dSteps b
    let reg (i k : Nat) : Bool := s.regionLeaves p rec (stepRegionBase b i + k)
    let notCopy := steps.zipIdx.any (fun (x : StepEntry × Nat) =>
      (x.1.kind == 2 && x.1.mode != 0 && reg x.2 0) || (x.1.kind == 3 && x.1.mode != 0 && reg x.2 1))
    let atomOut := steps.zipIdx.any (fun (x : StepEntry × Nat) => x.1.kind == 4 && (reg x.2 0 || reg x.2 1))
    let opOut := match dOp b with
      | 3 => s.regionLeaves p rec 1 || s.regionLeaves p rec 2
      | 0x10 => s.regionLeaves p rec 1 || s.regionLeaves p rec 2
      | 0x11 => s.regionLeaves p rec 1 || s.regionLeaves p rec 2
      | 0x12 => s.regionLeaves p rec 1
      | _ => false
    if notCopy then some .unsupported else if atomOut || opOut then some .denied else none

/-- The items of a command: the tasks and steps of a RUN, or the command itself. -/
def itemsOf (b : List Byte) : List ItemSt :=
  List.replicate (if dOp b = 1 then dNTasks b + dNSteps b else 1) .idle

/-- A command joins its queue: consumed or refused, DESC_HEAD passes it (10 R381). -/
def State.pushCmd (s : State) (q : Nat) (c : Cmd) : State :=
  let c := { c with serial := s.serial, index := (s.queue q).descHead.toNat }
  ({ s with serial := s.serial + 1 }).updQ q (fun x => { x with
    descHead := x.descHead + BitVec.ofNat 32 (1 + dSlots c.bytes), consumed := x.consumed ++ [c] })

/-- A queue is its job's step queue while a binding names it (12 R434). -/
def State.stepQueue (s : State) (p slot q : Nat) : Bool :=
  let x := s.caddy.bind.rd (p * 16 + slot)
  x.bound && x.queue == q

/-- Park a queue on a fault (08 R298, R299). -/
def State.parkQueue (s : State) (q : Nat) (k : Parked) : State :=
  { s.updQ q (fun x => { x with st := .parked }) with xlat := { s.xlat with parked := s.xlat.parked ++ [k] } }

/-- A region of a command overlaps the entry that a MIGRATE of its parcel is moving: its pretranslation waits (08 R318, step 1). -/
def State.migBlocked (s : State) (p : Nat) (b : List Byte) : Bool :=
  s.queues.any (fun e => match e.2.consumed with
    | c :: _ => (match c.mig with
      | some (lo, hi, _) => s.queueParcel e.1 == some p && (dRegions b 0).any (fun g => decide (g.dva < hi ∧ lo < g.dva + g.len))
      | none => false)
    | [] => false)

/-- A descriptor read whole is checked, pretranslated and accepted, refused or parked (10 R376, R381; 08 R290, R298, R299). -/
def State.acceptDesc (s : State) (q p slot : Nat) (b : List Byte) : State :=
  let refuse (s : State) (st : Status) (ca : Cause) (detail seq : Nat) (rec : List (Nat × List Extent)) : State :=
    s.pushCmd q { bytes := b, refusal := some (st, ca), detail := detail, faultSeq := seq, record := rec, items := itemsOf b }
  if descBad false b then refuse s .unsupported .none 0xFF 0 []
  else if s.stepQueue p slot q && !(decide (0x10 ≤ dOp b ∧ dOp b ≤ 0x15)) then refuse s .unsupported .none 0xFF 0 []
  else if s.migBlocked p b then s
  else
    match s.preCommand p (s.job p slot).cfg (decide ((s.job p slot).cfg = s.xlat.cfg.rd p)) b with
    | .wait s => s
    | .fault i ca s =>
        let g := faultRegion b i
        let (s, seq) := s.raiseFault q p ca i g.dva g.access
        if ca.parks then
          s.parkQueue q { queue := q, seq := seq, dva := g.dva, len := g.len, cause := ca, region := i, bytes := b }
        else refuse s .faulted ca i seq []
    | .ok rec s =>
        match s.sealRefusal p b rec with
        | some st => (refuse s st .none 0xFF 0 rec).emit 57 0x505 0xFF p
        | none => (s.pushCmd q { bytes := b, record := rec, items := itemsOf b }).refreshJobs p

/-- COMMAND_CONSUME (10 R373, R376, R381): the next command that the accepted tail covers whole is read and accepted, refused
or parked; at most four are held for a queue. -/
def execCommandConsume (q : Fin 1024) (s : State) : Out :=
  .next (
    let x := s.queue q
    match s.jobOf q with
    | none => s
    | some (p, slot) =>
        let mine := (x.consumed.filter (fun c => c.gen.isNone)).length
        if !s.isOpen ∨ s.fatal ∨ x.st ≠ .opened ∨ x.closing ∨ mine ≥ 4 ∨ s.xlatShut p ∨ x.tail = x.descHead then s
        else
          match ringRead x (.job p slot) 1 x.descHead.toNat s [] with
          | .wait s => s
          | .remote _ _ => s.faultQueue q
          | .fail _ _ => s.faultQueue q
          | .ok b s =>
              if (x.tail - x.descHead).toNat < 1 + dSlots b then s
              else
                match ringRead x (.job p slot) (dSlots b) (x.descHead.toNat + 1) s b with
                | .wait s => s
                | .remote _ _ => s.faultQueue q
                | .fail _ _ => s.faultQueue q
                | .ok b s => s.acceptDesc q p slot b)

/-! ## Faults answered by the kernel driver -/

/-- Pretranslate a consumed command again before it starts (08 R308 step 3): it may park its queue or be refused. Answers
whether it may start. -/
def State.retransCmd (s : State) (q p slot : Nat) (c : Cmd) : State × Bool :=
  if !c.retrans then (s, true)
  else if s.xlatShut p || s.migBlocked p c.bytes then (s, false)
  else
    match s.preCommand p (s.job p slot).cfg (decide ((s.job p slot).cfg = s.xlat.cfg.rd p)) c.bytes with
    | .wait s => (s, false)
    | .ok rec s => (s.updCmd q c.serial (fun c => { c with record := rec, retrans := false }), true)
    | .fault i ca s =>
        let g := faultRegion c.bytes i
        let (s, seq) := s.raiseFault q p ca i g.dva g.access
        if ca.parks then
          (s.parkQueue q { queue := q, seq := seq, dva := g.dva, len := g.len, consumed := some c.serial, cause := ca, region := i },
            false)
        else (s.updCmd q c.serial (fun c => { c with refusal := some (.faulted, ca), detail := i, faultSeq := seq, record := [] }), false)

/-- The parked fault with a number. -/
def State.parkedBy (s : State) (seq : Nat) : Option Parked := s.xlat.parked.find? (fun k => k.seq == seq)

/-- FAULT_RESPONSE with RETRY (08 R303, R304): cached entries over the region go, and the descriptor is pretranslated again
from its first region. -/
def execFaultResponseRetry (by' : Principal) (seq : U64) (s : State) : Out :=
  .next (s.served 36 fun s =>
    if by' ≠ .hostk then s.answer .denied
    else match s.parkedBy seq.toNat with
      | none => s.answer .unsupported
      | some k =>
          match s.jobOf k.queue with
          | none => s.answer .unsupported
          | some (p, slot) =>
              if s.xlatShut p || s.migBlocked p k.bytes then s
              else
                let s := s.cacheDrop p k.dva (k.dva + k.len)
                let s := { s with xlat := { s.xlat with parked := s.xlat.parked.filter (fun j => j.seq ≠ k.seq) } }
                let s := s.updQ k.queue (fun x => { x with st := .opened })
                let s := match k.consumed with
                  | none => s.acceptDesc k.queue p slot k.bytes
                  | some n =>
                      match (s.queue k.queue).consumed.find? (fun (c : Cmd) => c.serial == n) with
                      | some c => (s.retransCmd k.queue p slot c).1
                      | none => s
                (s.refreshJobs p).answer .ok)

/-- FAULT_RESPONSE with FAIL (08 R303, R304; 11 R425): the descriptor is consumed with its fault, and the job faults. -/
def execFaultResponseFail (by' : Principal) (seq : U64) (s : State) : Out :=
  .next (s.served 36 fun s =>
    if by' ≠ .hostk then s.answer .denied
    else match s.parkedBy seq.toNat with
      | none => s.answer .unsupported
      | some k =>
          let s := { s with xlat := { s.xlat with parked := s.xlat.parked.filter (fun j => j.seq ≠ k.seq) } }
          let s := s.updQ k.queue (fun x => { x with st := .opened })
          let s := match k.consumed with
            | none => s.pushCmd k.queue { bytes := k.bytes, refusal := some (.faulted, k.cause), detail := k.region,
                                          faultSeq := k.seq, items := itemsOf k.bytes }
            | some n => s.updCmd k.queue n (fun (c : Cmd) =>
                { c with refusal := some (.faulted, k.cause), detail := k.region, faultSeq := k.seq })
          let s := match s.jobOf k.queue with
            | some (p, slot) => s.faultJob p slot k.cause.code
            | none => s
          s.answer .ok)

/-! ## The start of a command -/

/-- The head command of a queue, if it may start now (10 R382; 11 R413, R415): its number of commands before it is none, its
job holds the parcel, and it is pretranslated. -/
def State.headToStart (s : State) (q op : Nat) : Option (Nat × Nat × Cmd) :=
  match (s.queue q).consumed, s.jobOf q with
  | c :: _, some (p, slot) =>
      let parkedHere := s.xlat.parked.any (fun k => k.queue == q && k.consumed == some c.serial)
      let open' := (s.queue q).st == .opened || ((s.queue q).st == .parked && !parkedHere)
      if !c.started && c.refusal.isNone && open' && s.mayStart p slot && dOp c.bytes == op then some (p, slot, c) else none
  | _, _ => none

/-- The time a command's watchdog allows, in ns: its own, the queue's, or 1 s (10 R388, Tables 10.1 and 10.4). -/
def State.watchdogNs (s : State) (q : Nat) (b : List Byte) : Nat :=
  let own := dWatchdog b
  let dflt := (s.queue q).watchdogUs
  1000 * (if own ≠ 0 then own else if dflt ≠ 0 then dflt else 1000000)

/-- Start the head command of a queue whose opcode is `op` and go on with it; on a step queue only caddy commands and generated
steps run (12 R436). -/
def State.startHead (s : State) (q op : Nat) (k : State → Nat → Nat → Cmd → State) : State :=
  match s.headToStart q op with
  | none => s
  | some (p, slot, c) =>
      if s.stepQueue p slot q && c.gen.isNone && !(decide (0x10 ≤ op ∧ op ≤ 0x15)) then
        s.updCmd q c.serial (fun c => { c with refusal := some (.unsupported, .none) })
      else
        match s.retransCmd q p slot c with
        | (s, false) => s
        | (s, true) =>
            let s := s.updCmd q c.serial (fun c => { c with started := true, watchdogAt := s.now + s.watchdogNs q c.bytes })
            match (s.queue q).consumed with
            | c :: _ => k s p slot c
            | [] => s

/-- End a command of one item. -/
def State.endCmd (s : State) (q serial : Nat) (st : Status) (ca : Cause) : State := s.setItem q serial 0 (.done st ca)

/-- NOP (10 Table 10.5). -/
def execNopCommand (q : Fin 1024) (s : State) : Out :=
  .next (s.startHead q 0 (fun s _ _ c => s.endCmd q c.serial .ok .none))

/-- What placement finds for a task (10 R384): a refusal, an end before any item starts, an engine, or first-free. -/
inductive Place where
  | bad | retired | engine (n : Nat) | free
deriving DecidableEq, Repr

/-- Resolve a task's engine (10 R384; 01 R29, R30). -/
def State.place (s : State) (p : Nat) (t : TaskEntry) : Place :=
  if t.engine = 0xFF then .free
  else match (s.parcel p).engineOf t.engine with
    | none => .bad
    | some n => if (s.engine n).retired then .retired else .engine n

/-- The task of an item. -/
def taskOf (q p slot : Nat) (c : Cmd) (i : Nat) (t : TaskEntry) : Task :=
  { queue := q, cmd := c.serial, item := i, parcel := p, job := slot, prog := recOf c.record i, start := t.prog,
    progLen := t.len, level := t.al }

/-- Dispatch the tasks of a RUN in item order (10 R383-R385). -/
def State.dispatchTasks (s : State) (q p slot : Nat) (c : Cmd) : State :=
  (dTasks c.bytes).zipIdx.foldl (fun (s : State) (x : TaskEntry × Nat) =>
    match s.place p x.1 with
    | .engine n =>
        (s.updEng n (fun e => { e with inbox := e.inbox ++ [taskOf q p slot c x.2 x.1] })).setItem q c.serial x.2 (.running n)
    | .free =>
        (s.updPar p (fun y => { y with firstFree := y.firstFree ++ [(q, c.serial, x.2)] })).setItem q c.serial x.2 .waiting
    | _ => s) s

/-- RUN (10 R383, R384): placement, then dispatch. An index beyond the parcel or on another die refuses the command; a retired
engine ends it before any item starts. -/
def execRun (q : Fin 1024) (s : State) : Out :=
  .next (s.startHead q 1 (fun s p slot c =>
    let pl := (dTasks c.bytes).map (s.place p)
    let stop (st : Status) (i : Nat) : State := s.updCmd q c.serial (fun c => { c with refusal := some (st, .none), detail := i })
    match pl.findIdx? (· == .bad), pl.findIdx? (· == .retired) with
    | some i, _ => stop .unsupported i
    | none, some i => stop .retired i
    | none, none => s.dispatchTasks q p slot c))

/-- An engine can take a first-free task (10 R385, 17 R664). -/
def State.freeEngine (s : State) (n : Nat) : Bool :=
  let e := s.engine n
  e.task.isNone && e.inbox.isEmpty && !e.withdrawn && !e.retired && !s.aboveFloor n

/-- FIRST_FREE_PLACEMENT (10 R385): the oldest waiting first-free task of a parcel takes the lowest-indexed free engine, a
powered one before one that is off. -/
def execFirstFreePlacement (p : Fin 8) (s : State) : Out :=
  .next (
    match (s.parcel p).firstFree with
    | [] => s
    | (q, serial, i) :: rest =>
        let free := (maskBits 16 (s.parcel p).engines).filter s.freeEngine
        let pick := match free.find? (fun n => (s.engine n).powered) with
          | some n => some n
          | none => free.head?
        match pick, (s.queue q).consumed.find? (fun c => c.serial == serial), s.jobOf q with
        | some n, some c, some (_, slot) =>
            let t := (dTasks c.bytes).getD i {}
            let s := s.updPar p (fun y => { y with firstFree := rest })
            (s.updEng n (fun e => { e with inbox := e.inbox ++ [taskOf q p slot c i t] })).setItem q serial i (.running n)
        | _, none, _ => s.updPar p (fun y => { y with firstFree := rest })
        | _, _, _ => s)

/-! ## The end of a command -/

/-- A command's outcome (10 R386): its refusal, the cause that stopped it, or its failed item with the lowest number. -/
def Cmd.outcome (c : Cmd) : Status × Cause × Nat :=
  match c.refusal, c.stopped with
  | some (st, ca), _ => (st, ca, c.detail)
  | none, some ca => (.faulted, ca, c.detail)
  | none, none =>
      match c.items.zipIdx.find? (fun (x : ItemSt × Nat) => x.1.failed) with
      | some (.done st ca, i) => (st, ca, i)
      | _ => (.ok, .none, 0xFF)

/-- The FLAGS of a stamp (09 R358). -/
def flagByte (f : Flags) : Nat :=
  (if f.sat then 1 else 0) + (if f.ovf then 2 else 0) + (if f.nan then 4 else 0) + (if f.abn then 8 else 0)

/-- The job identifier of a queue. -/
def State.jobIdOf (s : State) (q : Nat) : Nat :=
  match s.jobOf q with
  | some (p, k) => (s.job p k).id.toNat
  | none => 0

/-- The 16 bytes of a stamp (09 Table 9.8). -/
def State.stampBytes (s : State) (q : Nat) (c : Cmd) : List Byte :=
  leBytes 8 (dJobSeq c.bytes) ++ leBytes 4 (s.jobIdOf q) ++ leBytes 1 c.outcome.1.code ++ leBytes 1 (flagByte c.flags) ++ leBytes 2 0

/-- The extents of a command's stamp region; none where it names none or it has not translated (09 R359). -/
def Cmd.stampExts (c : Cmd) : List Extent :=
  if dStamped c.bytes && c.gen.isNone then recOf c.record (stampRegionNo c.bytes) else []

/-- The principal acting for a queue's work. -/
def State.whoOf (s : State) (q : Nat) : Who :=
  match s.jobOf q with
  | some (p, k) => .job p k
  | none => .host

/-- The fabric ID of a queue's parcel. -/
def State.fabricOf (s : State) (q : Nat) : Nat :=
  match s.jobOf q with
  | some (p, _) => (s.parcel p).fabricId
  | none => 0

/-- Write the stamp (09 R357-R359). Answers whether the second phase is over; a stamp refused at its backing is not written. -/
def State.writeStamp (s : State) (q : Nat) (c : Cmd) : State × Bool :=
  let done (s : State) (w : Bool) : State := s.updCmd q c.serial (fun c => { c with stamped := w })
  if c.stamped || c.stampExts.isEmpty then (s, true)
  else
    let o : GOwner := .step q c.serial 0xFF
    match s.gatherOf o with
    | some g =>
        if !g.ready then (s, false)
        else ((done s g.failed.isNone).dropGather o, true)
    | none =>
        match runPieces c.stampExts (dStamp c.bytes) 16 with
        | none => (s, true)
        | some ps =>
            match s.writeAll (s.whoOf q) 2 (s.fabricOf q) ps (s.stampBytes q c) with
            | .ok s => (done s true, true)
            | .wait s => (s, false)
            | .fail _ _ s => (s, true)
            | .start reqs s => (s.startGather { owner := o, todo := reqs }, false)

/-- PHASE (10 R391). -/
def Queue.phase (x : Queue) : Bool := x.cplTail.toNat / 2 ^ x.cplLog2 % 2 == 0

/-- The 32 bytes of a completion record (10 Table 10.8). -/
def State.cplBytes (s : State) (q : Nat) (c : Cmd) : List Byte :=
  let x := s.queue q
  let (st, ca, detail) := c.outcome
  leBytes 1 st.code ++ leBytes 1 (flagByte c.flags + (if c.stamped then 16 else 0) + (if x.phase then 128 else 0))
    ++ leBytes 1 ca.code ++ leBytes 1 detail ++ leBytes 4 (s.jobIdOf q)
    ++ leBytes 8 (match c.gen with | some n => n | none => dJobSeq c.bytes)
    ++ leBytes 4 (match c.gen with | some _ => 0xFFFFFFFF | none => c.index) ++ leBytes 4 0 ++ leBytes 8 c.faultSeq

/-- A command leaves its queue: counted for a metered job; a FAULTED watchdog, decode, execution or uncorrectable end faults the queue
(10 R387); a decode, execution or uncorrectable cause, whatever the status beside it, faults the job (11 R425); a generated step with any other nonzero status faults its queue (12
R459); a closing queue closes after its last completion (10 R366). -/
def State.retireCmd (s : State) (q : Nat) (c : Cmd) : State :=
  let (st, ca, _) := c.outcome
  let s := s.updQ q (fun x => { x with consumed := x.consumed.drop 1, heldCpl := false })
  let s := (s.fab.gathers.map (·.owner)).foldl (fun s o => match o with
    | .step k n _ => if k = q ∧ n = c.serial then s.dropGather o else s
    | _ => s) s
  let own := s.jobOf q
  let s := match own with
    | some (p, k) =>
        if (s.parcel p).tally then s
        else s.updJob p k (fun j => { j with acct := { j.acct with commands := j.acct.commands + 1 } })
    | none => s
  let hard := ca == .decode || ca == .exec || ca == .uncorr
  let s := if st = .faulted ∧ (hard ∨ ca = .watchdog) then s.faultQueue q
    else if c.gen.isSome ∧ st ≠ .ok then s.faultQueue q
    else s
  let s := match own with
    | some (p, k) => if hard then s.faultJob p k ca.code else s
    | none => s
  let s := if (s.queue q).closing && (s.queue q).consumed.isEmpty then (s.closeQueue q).answer .ok else s
  match own with
  | some (p, _) => s.refreshJobs p
  | none => s

/-- A generated step writes a completion only when its status is nonzero or its binding reports (12 R443). -/
def State.wantsCpl (s : State) (q : Nat) (c : Cmd) : Bool :=
  c.gen.isNone || c.outcome.1 != .ok || (match s.jobOf q with
    | some (p, k) => (s.caddy.bind.rd (p * 16 + k)).report
    | none => false)

/-- The third phase (09 R357, R363; 10 R391-R393): the record, CPL_TAIL, then the interrupt; held while the ring is full; a
ring that cannot be written faults the queue. -/
def State.writeCpl (s : State) (q : Nat) (c : Cmd) : State :=
  let x := s.queue q
  if !s.wantsCpl q c then s.retireCmd q c
  else if (x.cplTail - x.cplHead).toNat ≥ 2 ^ x.cplLog2 then s.updQ q (fun x => { x with heldCpl := true })
  else
    match s.writeDva (s.whoOf q) x.cplRing (x.cplBase + 32 * (x.cplTail.toNat % 2 ^ x.cplLog2)) (s.cplBytes q c) with
    | .ok _ s =>
        let s := s.updQ q (fun x => { x with cplTail := x.cplTail + 1 })
        let s := if dIrq c.bytes then s.interrupt x.vector else s
        s.retireCmd q c
    | .wait s => s
    | _ => (s.retireCmd q c).faultQueue q

/-- COMMAND_COMPLETE (09 R357; 10 R386-R393): once the head command is over, its stamp and then its completion become
visible. A generated step's outputs come first. -/
def execCommandComplete (q : Fin 1024) (s : State) : Out :=
  .next (
    match (s.queue q).consumed with
    | [] => s
    | c :: _ =>
        if !c.isOver ∨ (s.queue q).heldCpl ∨ (c.gen.isSome ∧ !c.resultsDone ∧ c.outcome.1 = .ok) then s
        else
          match s.writeStamp q c with
          | (s, false) => s
          | (s, true) =>
              match (s.queue q).consumed with
              | c :: _ => s.writeCpl q c
              | [] => s)

/-- COMPLETION_DELIVERY (09 R363): a held completion is written once the host has advanced the ring's head. -/
def execCompletionDelivery (q : Fin 1024) (s : State) : Out :=
  .next (
    match (s.queue q).consumed with
    | c :: _ => if (s.queue q).heldCpl then (s.updQ q (fun x => { x with heldCpl := false })).writeCpl q c else s
    | [] => s)

/-- WATCHDOG_EXPIRY (10 R388; 17 R667; 20 R740): the running command is stopped, tasks at their instruction boundaries and steps at their next
line. -/
def execWatchdogExpiry (q : Fin 1024) (s : State) : Out :=
  .next (
    match (s.queue q).consumed, s.jobOf q with
    | c :: _, some (p, slot) =>
        if c.started && !c.isOver && c.stopped.isNone && (s.parcel p).holder == some slot && !s.cmdHeld q c.serial then
          ((s.reach c.watchdogAt).emit 57 0x344 p q).stopCmd q c.serial .watchdog
        else s
    | _, _ => s)

end Sys2Proof.Machine
end

