-- ==== Sys2Proof/Machine/Remote.lean ====
section
/-! DEFINITION. The target's side of remote operations (14 R537-R541; 08 R271, R272, R288, R296; 09 R342-R354; 10 R380). -/
namespace Sys2Proof.Machine
open Sys2Proof

/-- A die is a member of a fabric parcel, as the datum's fabric plat records it (15 R564). -/
def State.fabricMember (s : State) (fabricId die : Nat) : Bool :=
  fabricId != 0 && s.agree.datum.plat.any (fun e => e.fparcel == fabricId && e.ranges.any (fun r => decide (r.1 ≤ die ∧ die ≤ r.2)))

/-- A request's FABRIC_ID and SRC match a parcel's fabric plat entry, and this die is neither quarantined nor fenced
(14 R541). The status of the refusal where they do not. -/
def State.serveGate (s : State) (p : Nat) (m : Msg) : Option Status :=
  match s.agree.standing with
  | .quarantined => some .quarantined
  | .fenced => some .denied
  | .admitted =>
      if (s.parcel p).active && (s.parcel p).fabricId == m.fabric && s.fabricMember m.fabric m.src then none else some .denied

/-- Answer a request and take it from those delivered. -/
def State.replyTo (s : State) (m : Msg) (st : Status) (retry : Nat) (data : List Byte) : State :=
  (s.take m).route none 0 { m.respond st retry data with src := s.dieId }

/-- Where a request's lines lie at the target. -/
inductive Spot where
  | mem (p : Nat) (ps : List Piece) (s : State)
  | slice (p sl off : Nat) (s : State)
  | wait (s : State)
  | refuse (st : Status) (s : State)

/-- Find a request's lines (08 R271, R272, R288, R296): a DVA is translated on arrival through the target parcel's
configuration with REMOTE; a slice is reached by the parcel's other dies only. -/
def State.spot (s : State) (m : Msg) (len : Nat) (r w : Bool) : Spot :=
  let p := bitsOf m.addr 47 45
  let off := m.addr % 2 ^ 44
  match s.serveGate p m with
  | some st => .refuse st s
  | none =>
      if bitAt m.addr 44 then
        if off ≥ 2 ^ 26 ∨ m.src = s.dieId then .refuse .denied s
        else match (s.parcel p).sliceOf (off / 2 ^ 22) with
          | none => .refuse .denied s
          | some sl => if off % 2 ^ 22 + len > sliceBytes then .refuse .faulted s else .slice p sl (off % 2 ^ 22) s
      else if s.xlatShut p then .wait s
      else
        let cfg := match (s.parcel p).holder with | some k => (s.job p k).cfg | none => s.xlat.cfg.rd p
        let g : Region := { dva := off, len := len, r := r, w := w }
        match trRegion s p cfg (decide (cfg = s.xlat.cfg.rd p)) true 64 g with
        | .wait s => .wait s
        | .fault c s => .refuse .faulted (s.raiseFault 0xFFFF p c 0 off g.access).1
        | .ok es s =>
            match runPieces es off len with
            | some ps =>
                if ps.any (fun x => match x.back with | .fabric _ => true | _ => false) then .refuse .faulted s else .mem p ps s
            | none => .refuse .faulted s

/-- A request of lines keeps R538: 128-byte aligned and within 512 bytes. -/
def Msg.aligned (m : Msg) : Bool := m.addr % 128 == 0 && decide (m.addr % 512 + 128 * (m.ctl % 4 + 1) ≤ 512)

/-- A remote read (14 R538, R541). -/
def State.serveRead (s : State) (m : Msg) : State :=
  let len := 128 * (m.ctl % 4 + 1)
  if !Msg.aligned m then s.replyTo m .unsupported 0 []
  else match s.spot m len true false with
    | .refuse st s => s.replyTo m st 0 []
    | .wait s => s
    | .slice _ sl off s =>
        let x := s.slc.rd sl
        if x.withdrawn || !x.powered || !(granules off len).all (fun g => (x.gran.rd g).holdable) then s
        else if x.badRange off len then s.replyTo m .faulted 0 []
        else s.replyTo m .ok 0 (memRead x.bytes off len)
    | .mem p ps s =>
        match s.readPieces (.parcel p) ps with
        | .ok bs s => s.replyTo m .ok 0 bs
        | .wait s => s
        | .remote _ _ => s.replyTo m .faulted 0 []
        | .fail st _ => s.replyTo m st 0 []

/-- The masked bytes of a write: whole lines, or a line with its mask; lines that did not arrive change nothing (14 R545). -/
def writeData (m : Msg) : List (Byte × Bool) :=
  if m.op = 3 then
    let mask := field m.payload 128 16
    (m.payload.take 128).zipIdx.map (fun (x : Byte × Nat) => (x.1, bitAt mask x.2 && m.kept.isNone))
  else
    let lines := match m.kept with | some n => n / 128 | none => m.ctl % 4 + 1
    m.payload.zipIdx.map (fun (x : Byte × Nat) => (x.1, decide (x.2 / 128 < lines)))

/-- The written runs of a masked write: offset and bytes. -/
def writtenRuns : List (Byte × Bool) → Nat → List Byte → List (Nat × List Byte)
  | [], n, acc => if acc.isEmpty then [] else [(n - acc.length, acc)]
  | (b, k) :: r, n, acc =>
      if k then writtenRuns r (n + 1) (acc ++ [b])
      else if acc.isEmpty then writtenRuns r (n + 1) []
      else (n - acc.length, acc) :: writtenRuns r (n + 1) []

/-- The pieces of a run within pieces that lie one after another. -/
def subPieces : List Piece → Nat → Nat → List Piece
  | [], _, _ => []
  | p :: ps, lo, n =>
      if n = 0 then []
      else if lo ≥ p.len then subPieces ps (lo - p.len) n
      else
        let k := Nat.min n (p.len - lo)
        { p with addr := p.addr + lo, len := k, dva := p.dva + lo } :: subPieces ps 0 (n - k)

/-- A remote write (14 R538, R541): applied, then acknowledged. -/
def State.serveWrite (s : State) (m : Msg) : State :=
  let len := 128 * (m.ctl % 4 + 1)
  if !Msg.aligned m then s.replyTo m .unsupported 0 []
  else match s.spot m len false true with
    | .refuse st s => s.replyTo m st 0 []
    | .wait s => s
    | .slice _ sl off s =>
        let gs := granules off len
        if !s.canClaim sl gs then s
        else
          let (s, cs) := s.takeClaims sl gs
          let s := (writtenRuns (writeData m) 0 []).foldl (fun s r => s.updSlc sl (fun x => x.store (off + r.1) r.2)) s
          (s.complete cs).replyTo m .ok 0 []
    | .mem p ps s =>
        let busy := ps.filter s.pieceBusy
        if busy.isEmpty then
          let r := (writtenRuns (writeData m) 0 []).foldl (fun (a : State × Bool) x =>
            match a.1.writePieces (.parcel p) (subPieces ps x.1 x.2.length) x.2 with
            | .ok _ s => (s, a.2)
            | _ => (a.1, false)) (s, true)
          r.1.replyTo m (if r.2 then .ok else .faulted) 0 []
        else busy.foldl (fun s p => (linesOf p.addr p.len).foldl (fun s l => s.homeSnoop true l) s) s

/-- RD (14 R541). -/
def execRd (m : Msg) (s : State) : Out := .next (s.serveRead m)
/-- BRD (14 R541). -/
def execBrd (m : Msg) (s : State) : Out := .next (s.serveRead m)
/-- WR (14 R541). -/
def execWr (m : Msg) (s : State) : Out := .next (s.serveWrite m)
/-- WRM (14 R541). -/
def execWrm (m : Msg) (s : State) : Out := .next (s.serveWrite m)
/-- BWR (14 R541). -/
def execBwr (m : Msg) (s : State) : Out := .next (s.serveWrite m)
/-- SWR (14 R541). -/
def execSwr (m : Msg) (s : State) : Out := .next (s.serveWrite m)

/-! ## Atomics (09 R342-R344) -/

/-- The new value of an atomic of `n` bytes (09 Table 9.4); none for a reserved code. -/
def atomicNew (code n old operand compare : Nat) : Option Nat :=
  let bits := 8 * n
  let so := sext bits old
  let sv := sext bits operand
  match code with
  | 0 => some ((old + operand) % 2 ^ bits)
  | 1 => some (if so < sv then operand else old)
  | 2 => some (if sv < so then operand else old)
  | 3 => some (Nat.max old operand)
  | 4 => some (Nat.min old operand)
  | 5 => some operand
  | 6 => some (if old = compare then operand else old)
  | _ => none

/-- An operation is offered for a backing (09 Table 9.4): over PCIe only fetch-and-add, swap and compare-and-swap. -/
def State.atomicOffered (s : State) (code : Nat) (b : Backing) : Bool :=
  decide (code ≤ 6) && (match b with
    | .host => !s.straps.packageP && (code == 0 || code == 5 || code == 6) || s.straps.packageP
    | _ => true)

/-- ATOM (09 R342-R344): performed at the home as one home write; the previous value is answered, zero-extended. -/
def execAtom (m : Msg) (s : State) : Out :=
  .next (
    let n := if bitAt m.ctl 6 then 8 else 4
    let code := bitsOf m.ctl 5 2
    if m.addr % n ≠ 0 then s.replyTo m .faulted 0 []
    else match s.spot m n true true with
      | .refuse st s => s.replyTo m st 0 []
      | .wait s => s
      | .slice _ _ _ s => s.replyTo m .unsupported 0 []
      | .mem p ps s =>
          if !(ps.all (fun x => s.atomicOffered code x.back)) then s.replyTo m .unsupported 0 []
          else if ps.any s.pieceBusy then
            (ps.filter s.pieceBusy).foldl (fun s p => (linesOf p.addr p.len).foldl (fun s l => s.homeSnoop true l) s) s
          else match s.readPieces (.parcel p) ps with
            | .ok bs s =>
                let old := leNat bs
                match atomicNew code n old (field m.payload 0 n) (field m.payload 8 n) with
                | none => s.replyTo m .unsupported 0 []
                | some v =>
                    match s.writePieces (.parcel p) ps (leBytes n v) with
                    | .ok _ s => s.replyTo m .ok 0 (leBytes 8 old)
                    | _ => s.replyTo m .faulted 0 []
            | .wait s => s
            | .remote _ _ => s.replyTo m .faulted 0 []
            | .fail st _ => s.replyTo m st 0 [])

/-! ## Remote semaphores and doorbells -/

/-- Acquires of other dies that wait on any semaphore (09 R354). -/
def State.remoteWaiters (s : State) : Nat :=
  s.sems.foldl (fun n e => n + (e.2.waiters.filter (fun w => match w.owner with | .die _ _ => true | _ => false)).length) 0

/-- The parcel to which a semaphore is granted. -/
def State.semParcel (s : State) (k : Nat) : Option Nat := (List.range 8).find? (fun p => bitAt (s.parcel p).sems k)

/-- SEM (09 R345, R347, R351, R352, R354): a remote acquire or release, its owner the die and its queue. -/
def execSem (m : Msg) (s : State) : Out :=
  .next (
    let k := m.addr % 256
    let o : SemOwner := .die m.src (m.addr / 256 % 1024)
    let ok := match s.semParcel k with
      | some p => (s.serveGate p m).isNone
      | none => false
    if !ok then s.replyTo m .denied 0 (leBytes 8 0)
    else
      let x := s.sems.rd k
      if bitAt m.ctl 2 then
        if x.st = .held ∧ x.owner = some o then
          (({ s with sems := s.sems.wr k { x with st := .free, owner := none } }).replyTo m .ok 0 (leBytes 8 0)).semSettle
        else s.replyTo m .faulted 0 (leBytes 8 0)
      else if x.st = .held ∧ x.owner ≠ some o ∧ s.remoteWaiters ≥ 64 then
        (s.replyTo m .busy 2 (leBytes 8 0)).emit 57 0x331 0xFF k
      else
        let (y, r) := x.acquire o (bitAt m.ctl 3) m.tag
        match r with
        | .acquired => ({ s with sems := s.sems.wr k y }).replyTo m .ok 0 (leBytes 8 0)
        | .abandoned =>
            if bitAt m.ctl 3 then ({ s with sems := s.sems.wr k y }).replyTo m .ok 0 (leBytes 8 1)
            else s.replyTo m .abandoned 0 (leBytes 8 1)
        | .waits => ({ s with sems := s.sems.wr k y }).take m
        | .fault => s.replyTo m .faulted 0 (leBytes 8 0))

/-- RING_MESSAGE (10 R371, R380): the tail applies as a doorbell; a queue outside the fabric parcel is denied. -/
def execRingMessage (m : Msg) (s : State) : Out :=
  .next (
    let q := m.addr % 1024
    let ok := match s.queueParcel q with
      | some p => (s.serveGate p m).isNone
      | none => false
    if !ok then s.replyTo m .denied 0 []
    else (s.ringTail q (BitVec.ofNat 32 (field m.payload 0 4))).replyTo m .ok 0 [])

end Sys2Proof.Machine
end

