-- ==== Sys2Proof/Machine/Collect.lean ====
section
/-! DEFINITION. The in-router collectives (14 R547-R555). -/
namespace Sys2Proof.Machine
open Sys2Proof

/-- An element of ⊕ (14 R553): int32, fp32 or bf16. -/
def combineElem (type op a b : Nat) : Nat :=
  match type with
  | 0 =>
      match op with
      | 0 => (a + b) % 2 ^ 32
      | 1 => if sext 32 a < sext 32 b then b else a
      | _ => if sext 32 b < sext 32 a then b else a
  | 1 => (ElemType.fmt .fp32).collOp op a b
  | _ => (ElemType.fmt .bf16).collOp op a b

/-- ⊕ over the elements of a segment (14 R553). -/
def combine (type op : Nat) : Nat → List Byte → List Byte → List Byte
  | 0, _, _ => []
  | n + 1, a, b =>
      let w := if type = 2 then 2 else 4
      leBytes w (combineElem type op (field a 0 w) (field b 0 w)) ++ combine type op n (a.drop w) (b.drop w)

/-- ⊕ of two whole segments. -/
def Coll.combineSeg (c : Coll) (a b : List Byte) : List Byte :=
  combine c.type c.op (a.length / (if c.type = 2 then 2 else 4)) a b

/-! ## Results -/

/-- What writing a result gives. -/
inductive ResW where
  | done (s : State)
  | wait (s : State)
  | bad (s : State)

/-- The configuration through which a parcel's work outside a command is translated. -/
def State.parcelCfg (s : State) (p : Nat) : XlatConfig :=
  match (s.parcel p).holder with
  | some k => (s.job p k).cfg
  | none => s.xlat.cfg.rd p

/-- Write bytes at a DVA of a parcel, translated now. -/
def State.writeNow (s : State) (p dva : Nat) (bs : List Byte) : ResW :=
  match trRegion s p (s.parcelCfg p) (decide (s.parcelCfg p = s.xlat.cfg.rd p)) false 64 { dva := dva, len := bs.length, w := true } with
  | .wait s => .wait s
  | .fault _ s => .bad s
  | .ok es s =>
      match runPieces es dva bs.length with
      | none => .bad s
      | some ps =>
          match s.writeAll (.parcel p) 2 0 ps bs with
          | .ok s => .done s
          | .wait s => .wait s
          | .start _ s => .bad s
          | .fail _ _ s => .bad s

/-! ## Segments -/

/-- Send a segment to a tree neighbour (14 R552, R555): direction 0 up, 1 down. -/
def State.sendSeg (s : State) (c dir seg die : Nat) (bs : List Byte) : State :=
  s.route none 0 { op := 0x20, ctl := (bs.length + 127) / 128 - 1, dest := die, src := s.dieId,
                   fabric := (s.parcel (s.coll c).parcel).fabricId, addr := c + 256 * dir + 65536 * seg, payload := bs }

/-- A segment's step is done when its last pending segment is (14 R554). -/
def State.segDone (s : State) (c : Nat) (e : CollSeg) : State :=
  let s := s.updColl c (fun x => { x with segs := x.segs.filter (fun y => y.seg ≠ e.seg) })
  match e.cmd with
  | none => s
  | some (q, serial, i) =>
      if (List.range 8).any (fun k => (s.coll k).segs.any (fun y => y.cmd == e.cmd)) then s
      else s.setItem q serial i (.done .ok .none)

/-- Hand a finished segment down the tree and write it (14 R552): a BARRIER writes nothing. Answers the state and whether it is
written. -/
def State.segDown (s : State) (c : Nat) (e : CollSeg) (bs : List Byte) : State × Bool :=
  let x := s.coll c
  let (_, _, k1, k2) := s.treePlace x
  let down (s : State) : State :=
    if x.kind = 1 then s
    else
      let s := match k1 with | some d => s.sendSeg c 1 e.seg d bs | none => s
      match k2 with | some d => s.sendSeg c 1 e.seg d bs | none => s
  if x.kind = 3 then ((down s).segDone c e, true)
  else
    match s.writeNow x.parcel (x.result + e.off) bs with
    | .done s => ((down s).segDone c e, true)
    | .wait s => (s, false)
    | .bad s => (s.abortColl c, true)

/-- A segment whose own part and children's parts are here goes on: up to the parent, or at the root down (14 R552). -/
def State.segStep (s : State) (c seg : Nat) : State :=
  let x := s.coll c
  match x.segs.find? (fun e => e.seg == seg) with
  | none => s
  | some e =>
      let (rank, parent, k1, k2) := s.treePlace x
      match e.own with
      | none => s
      | some own =>
          if e.sentUp || (k1.isSome && e.kid1.isNone) || (k2.isSome && e.kid2.isNone) then s
          else
            let plain := x.kind = 2 ∨ x.kind = 3
            let v := if plain then own else
              let v := match e.kid1 with | some b => x.combineSeg own b | none => own
              match e.kid2 with | some b => x.combineSeg v b | none => v
            if rank = 0 then (s.segDown c e v).1
            else
              let s := match parent with | some d => s.sendSeg c 0 seg d v | none => s
              if x.kind = 1 then s.segDone c e
              else s.updColl c (fun x => { x with segs := x.segs.map (fun y => if y.seg = seg then { y with sentUp := true } else y) })

/-- Every segment of a context goes on where it can. -/
def State.segAll (s : State) (c : Nat) : State := ((s.coll c).segs.map (·.seg)).foldl (fun s k => s.segStep c k) s

/-- Change or add the entry of a segment. -/
def State.updSeg (s : State) (c seg : Nat) (f : CollSeg → CollSeg) : State :=
  s.updColl c (fun x =>
    if x.segs.any (fun e => e.seg == seg) then { x with segs := x.segs.map (fun e => if e.seg = seg then f e else e) }
    else { x with segs := x.segs ++ [f { seg := seg }] })

/-- Cut a window run at 512-byte offsets: offset and bytes of each segment (14 R550). -/
def cutSegs : Nat → Nat → List Byte → List (Nat × List Byte)
  | 0, _, _ => []
  | n + 1, off, bs =>
      if bs.isEmpty then []
      else
        let k := 512 - off % 512
        (off, bs.take k) :: cutSegs n (off + k) (bs.drop k)

/-- A contribution (14 R550, R554), run by run: context, window offset, parcel of the window and bytes. An unleveled or
quarantined die's ends at once; a faulted or foreign context, or a run outside the window, ends FAULTED. Each failure aborts
the context. -/
def State.contribute (s : State) (q serial item p : Nat) (runs : List (Nat × Nat × Nat × List Byte)) : State :=
  let cs := runs.map (·.1)
  let bad (st : Status) (ca : Cause) : State := cs.foldl (fun (s : State) c => s.abortColl c) (s.setItem q serial item (.done st ca))
  if s.agree.standing = .quarantined then bad .quarantined .none
  else if !s.leveled then bad .unleveled .none
  else if runs.any (fun (r : Nat × Nat × Nat × List Byte) =>
      let x := s.coll r.1
      x.parcel != p || r.2.2.1 != p || x.faulted || r.2.1 % 128 != 0 || r.2.2.2.length % 128 != 0
        || decide (r.2.1 + r.2.2.2.length > x.length)) then bad .faulted .exec
  else
    let s := runs.foldl (fun (s : State) (r : Nat × Nat × Nat × List Byte) =>
      let x := s.coll r.1
      let cuts := cutSegs (r.2.2.2.length / 128 + 1) r.2.1 r.2.2.2
      let s := (cuts.zipIdx).foldl (fun (s : State) (y : (Nat × List Byte) × Nat) =>
        s.updSeg r.1 (x.seg + y.2) (fun e => { e with off := y.1.1, own := some y.1.2, cmd := some (q, serial, item) })) s
      s.updColl r.1 (fun x => { x with seg := x.seg + cuts.length })) s
    cs.foldl (fun (s : State) c => s.segAll c) s

/-- CSEG (14 R548, R552): a child's segment joins its own, up to 16 ahead of it; one from the parent is written and handed down.
A segment that disagrees with the context faults it. -/
def execCseg (m : Msg) (s : State) : Out :=
  .next (
    let c := m.addr % 256 % 8
    let dir := m.addr / 256 % 256
    let seg := m.addr / 65536
    let x := s.coll c
    let (_, parent, k1, k2) := s.treePlace x
    let mine := x.segs.find? (fun e => e.seg == seg)
    let sizeOk := match mine with | some e => (match e.own with | some b => b.length == m.payload.length | none => true) | none => true
    if x.faulted then s.take m
    else if x.parcel > 7 ∨ (s.parcel x.parcel).fabricId ≠ m.fabric ∨ !sizeOk ∨ (dir = 1 ∧ (parent ≠ some m.src ∨ x.kind = 1))
        ∨ (dir = 0 ∧ k1 ≠ some m.src ∧ k2 ≠ some m.src) ∨ dir > 1 then (s.take m).abortColl c
    else if dir = 0 then
      if seg ≥ x.seg + 16 then s
      else
        let s := s.updSeg c seg (fun e => if k1 = some m.src then { e with kid1 := some m.payload } else { e with kid2 := some m.payload })
        (s.take m).segStep c seg
    else
      match mine with
      | none => s
      | some e =>
          match s.segDown c e m.payload with
          | (s, true) => s.take m
          | (s, false) => s)

/-- CABORT (14 R554). -/
def execCabort (m : Msg) (s : State) : Out := .next ((s.take m).failColl (m.addr % 256 % 8))

/-- COLL_CONFIG_WRITE (14 R547, Table 14.8). -/
def execCollConfigWrite (by' : Principal) (c : Fin 8) (kind op type parcel : Byte) (root reserved : U16) (result length reserved2 : U64)
    (s : State) : Out :=
  .next (s.served 40 fun s =>
    if by' ≠ .hostk ∧ by' ≠ .rtp then s.answer .denied
    else if kind.toNat > 3 ∨ op.toNat > 2 ∨ type.toNat > 2 ∨ (parcel.toNat > 7 ∧ parcel ≠ 0xFF) ∨ reserved ≠ 0 ∨ reserved2 ≠ 0
        ∨ result.toNat % 128 ≠ 0 ∨ result.toNat ≥ 2 ^ 48 ∨ length.toNat % 128 ≠ 0 then s.answer .unsupported
    else if (s.coll c).segs.any (fun e => e.own.isSome) then s.answer .busy
    else (s.updColl c (fun _ => { kind := kind.toNat, op := op.toNat, type := type.toNat, parcel := parcel.toNat, root := root.toNat,
                                  result := result.toNat, length := length.toNat })).answer .ok)

end Sys2Proof.Machine
end

