-- ==== Sys2Proof/Machine/EnginePrograms.lean ====
section
/-! DEFINITION. The engine program instructions: tasks, MM, MMA, VEC, loops, flags, semaphores and fences (chapter 04; 09
R339, R345-R353). -/
namespace Sys2Proof.Machine
open Sys2Proof

/-- TASK_START (04 R111, R114; 05 R163-R164, R170, R172-R173): the next dispatched task starts on a powered, free engine:
flags clear, the profile of its capped level latched; its first gated instruction waits where the voltage must rise. -/
def startTask (s : State) (n : Nat) (t : Task) (rest : List Task) : State :=
  let cap := s.approx.cap.rd t.parcel
  let lvl := Nat.min t.level cap
  let s := if t.level > cap then s.emit n 0x2A1 t.parcel t.level else s
  let prof := s.approx.profiles.rd lvl
  let s := s.updEng n (fun e => { e with inbox := rest, profile := prof, level := lvl, dispatchedAt := s.now })
  let wait := decide (s.engVTarget n > (s.engine n).volt)
  let snap := match s.readDva (.parcel t.parcel) t.prog t.start (16 * t.progLen) with | .ok bs _ => bs | _ => []
  let s := s.settleEng n
  s.updEng n (fun e => { e with task := some { t with started := true, flags := {}, pc := 0, loops := [], issued := none,
                                                      wait := .none, voltWait := wait, snapshot := snap } })

/-- TASK_START (04 R111). -/
def execTaskStart (n : Fin 16) (s : State) : Out :=
  .next (
    let e := s.engine n
    match e.task, e.inbox with
    | none, t :: rest => if e.runs then startTask s n t rest else s
    | _, _ => s)

/-- Run the instruction an engine's task has reached when it consults no gate: fetch and decode it (04 R113), end the
task where it fails, and hand it on. -/
def withInstr (s : State) (n : Nat) (k : State → Task → EInstr → State) : State :=
  match (s.engine n).task with
  | none => s
  | some t =>
      if (s.engine n).runs && t.started && t.issued.isNone && t.wait == .none then
        match s.fetchWord t with
        | .wait s => s
        | .remote _ _ => s.finishTask n .faulted .exec
        | .fail st c => s.finishTask n st c
        | .ok w s =>
            match decodeEngine w with
            | .bad => s.finishTask n .unsupported .decode
            | i => k s t i
      else s

/-- END (04 R111, R136): the task ends at once, also inside a loop body. Drains complete first (03 R91). -/
def execEndTask (n : Fin 16) (s : State) : Out :=
  .next (withInstr s n (fun s _ i => match i with
    | .fin => if (s.engine n).atBoundary then s.finishTask n .ok .none else s
    | _ => s))

/-- LOOP (04 R131-R134): opens a loop of at most four levels whose body lies within the enclosing body. -/
def execLoop (n : Fin 16) (s : State) : Out :=
  .next (withInstr s n (fun s t i => match i with
    | .loop f =>
        let last := t.pc + 1 + f.body
        let bad := decide (t.loops.length ≥ 4)
          || (match t.loops with | l :: _ => decide (last > l.first + l.f.body) | [] => false)
        if bad then s.finishTask n .faulted .decode
        else
          let inside : Task := { t with loops := { f := f, first := t.pc + 1, iter := 0 } :: t.loops, pc := t.pc + 1 }
          s.updEng n (fun e => { e with cyc := e.cyc + 1, task := some inside })
    | _ => s))

/-- NOP (04 R115): one engine cycle. -/
def execNop (n : Fin 16) (s : State) : Out :=
  .next (withInstr s n (fun s _ i => match i with
    | .nop => (s.updEng n (fun e => { e with cyc := e.cyc + 1 })).advance n
    | _ => s))

/-! ## Matrix and vector instructions -/

/-- Two byte ranges of slices overlap. -/
def overlaps (s1 o1 l1 s2 o2 l2 : Nat) : Bool := s1 == s2 && decide (o1 < o2 + l2 ∧ o2 < o1 + l1)

/-- The bytes of a destination whose values R834 leaves open: a free value each. -/
def mixBytes (s : State) (len : Nat) : List Byte := (List.range len).map (fun i => Config.mixByte s.freeCtr i)

/-- Flags that an unspecified mixture may or may not set: those that can arise, each a free value. -/
def mixFlags (s : State) : Flags :=
  let b := (Config.mixByte s.freeCtr (2 ^ 40)).toNat
  ⟨bitAt b 0, bitAt b 1, bitAt b 2, false⟩

/-- The zero-skip thresholds an instruction uses (05 R163, R166): the latched ones, off with EXACT. -/
def Engine.thr (e : Engine) (exact : Bool) : SkipThr :=
  if exact then {} else { int8T := e.profile.int8T, int4T := e.profile.int4T, fpExp := e.profile.fpExp }

/-- The stall of one stationary load (03 R66, R67): D engine cycles, or 16 mesh cycles if longer and another slice is
read. -/
def loadStall (d freq mesh : Nat) (paired : Bool) : Nat :=
  if paired then d else Nat.max d ((16 * freq + mesh - 1) / mesh)

/-- Count an instruction's engine cycles; an engine that was idle first ramps for 16 of them (03 R95), and the gap
ends. -/
def Engine.spend (e : Engine) (load cycles : Nat) : Engine :=
  let ramp := if e.simmerEnable && e.density == 0 then 16 - load else 0
  { e with cyc := e.cyc + cycles + ramp, gap := 0, density := if e.simmerEnable then 8 else 0 }

/-- The effect of an issued matrix instruction (03 R63-R79, 04 R119-R124, R146-R153). -/
def runMat (s : State) (n : Nat) (t : Task) (i : Issued) (acc : Bool) (f : MatFields) : State :=
  let e := s.engine n
  let (la, lb, lc) := matLens f
  let reused := e.reuses f
  let init := !acc || i.asMm
  let bad := (s.slc.rd i.slA).badRange i.offA la || (!reused && (s.slc.rd i.slB).badRange i.offB lb)
    || (f.sacc && !init && (s.slc.rd i.slC).badRange i.offC lc)
  if bad then (s.countEcc n 1 0 0 1 0).finishTask n .faulted .uncorr
  else
    let a := memRead (s.slc.rd i.slA).bytes i.offA la
    let b := memRead (s.slc.rd i.slB).bytes i.offB lb
    let held := match e.block with | some x => x.bytes | none => []
    let blk (p : Nat) : List Byte := if reused then held else loadBlock f b p
    let old := memRead (s.slc.rd i.slC).bytes i.offC lc
    let start (r c : Nat) : Nat :=
      if init then 0
      else if f.sacc then leNat (slice old (4 * (r * f.w + c)) 4)
      else ((e.half f.half).vals.rd (r * 1024 + c)).toNat
    let (vals, fl) := matResult f (e.thr f.exact) a blk start
    let stall := loadStall f.form.depth e.freq (s.islTarget (16 + n)) (decide (i.slB = n))
    let newBlk : Block := ⟨f.form, blk (f.k / f.form.depth - 1)⟩
    let s := s.updEng n (fun e => { e.spend (if reused then 0 else stall) (matCycles f reused stall) with block := some newBlk })
    let s := s.release i.holds true
    if f.sacc then
      let mix := overlaps i.slA i.offA la i.slC i.offC lc || (!reused && overlaps i.slB i.offB lb i.slC i.offC lc)
      let bs := if mix then mixBytes s lc else vals.flatMap (leBytes 4)
      let fl := if mix then mixFlags s else fl
      let s := if mix then s.bump else s
      let s := (s.updSlc i.slC (fun x => x.store i.offC bs)).complete i.claims
      let done : Task := { t with flags := t.flags.or fl }
      s.updEng n (fun e => { e with task := some done.advance })
    else
      let idx := (List.range f.m).flatMap (fun r => (List.range f.w).map (fun c => r * 1024 + c))
      let tab := (idx.zip vals).foldl (fun (x : Tab U32) p => x.wr p.1 (BitVec.ofNat 32 p.2)) (e.half f.half).vals
      let hf : Half := { form := if init then some f.form else (e.half f.half).form, vals := tab,
                         drain := some { slice := i.slC, off := i.offC, m := f.m, w := f.w, claims := i.claims } }
      let done : Task := { t with flags := t.flags.or fl }
      s.updEng n (fun e => { e.setHalf f.half hf with task := some done.advance })

/-- Run an instruction that has passed the gate. -/
def withIssued (s : State) (n : Nat) (k : Task → Issued → State) : State :=
  match (s.engine n).task with
  | some t => match t.issued with
    | some i => if (s.engine n).halted || !(s.engine n).powered then s else k t i
    | none => s
  | none => s

/-- MM (04 R119, R124): C ← A·B into the named half, or into scratch under SACC. -/
def execMm (n : Fin 16) (s : State) : Out :=
  .next (withIssued s n (fun t i => match i.instr with
    | .mat false f => runMat s n t i false f
    | _ => s))

/-- MMA (04 R119, R124, R135): C ← C + A·B. -/
def execMma (n : Fin 16) (s : State) : Out :=
  .next (withIssued s n (fun t i => match i.instr with
    | .mat true f => runMat s n t i true f
    | _ => s))

/-- Whether an overlap of a VEC source with the destination is one that R834 settles: same offset, same element size,
an element-wise source and output. -/
def vecOverlapSettled (f : VecFields) (srcTy : ElemType) (full : Bool) (so d : Nat) : Bool :=
  full && !f.func.reduces && so == d && srcTy.bits == f.oty.bits

/-- The effect of an issued vector instruction (04 R125-R130, R834). -/
def runVec (s : State) (n : Nat) (t : Task) (i : Issued) (f : VecFields) : State :=
  let (la, lb, ld) := vecLens f
  if (s.slc.rd i.slA).badRange i.offA la || (s.slc.rd i.slB).badRange i.offB lb then
    (s.countEcc n 1 0 0 1 0).finishTask n .faulted .uncorr
  else
    let a := memRead (s.slc.rd i.slA).bytes i.offA la
    let b := memRead (s.slc.rd i.slB).bytes i.offB lb
    let (bs, fl) := vecResult f a b
    let mixA := overlaps i.slA i.offA la i.slC i.offC ld && !vecOverlapSettled f f.ity true i.offA i.offC
    let mixB := overlaps i.slB i.offB lb i.slC i.offC ld
      && !vecOverlapSettled f f.bty (f.func.bShape == .full || (f.func.bShape == .row && f.rows == 1)) i.offB i.offC
    let mix := mixA || mixB
    let bs := if mix then mixBytes s ld else bs
    let fl := if mix then mixFlags s else fl
    let s := if mix then s.bump else s
    let s := s.updEng n (fun e => e.spend 0 (vecCycles f))
    let s := s.release i.holds true
    let s := (s.updSlc i.slC (fun x => x.store i.offC bs)).complete i.claims
    let done : Task := { t with flags := t.flags.or fl }
    s.updEng n (fun e => { e with task := some done.advance })

/-- VEC (04 R125). -/
def execVec (n : Fin 16) (s : State) : Out :=
  .next (withIssued s n (fun t i => match i.instr with
    | .vec f => runVec s n t i f
    | _ => s))

/-! ## Flags -/

/-- The FWAITs of a parcel that its flags satisfy, served one at a time, each evaluated against the flag as the one
before left it (04 R140, R141). The list holds (engine, flag); `rounds` bounds the passes. -/
def serveWaits (s : State) (p : Nat) : List (Nat × Nat) → State
  | [] => s
  | (n, fg) :: ws =>
      match (s.engine n).task with
      | some t =>
          match s.fetchWord t with
          | .ok w s' =>
              match decodeEngine w with
              | .fwait _ v =>
                  if (s'.parcel p).flags.rd fg ≥ v then
                    let s := s'.updPar p (fun x => { x with flags := x.flags.wr fg (x.flags.rd fg - v),
                                                            flagWaits := x.flagWaits.filter (fun y => y.1 != n) })
                    serveWaits (s.advance n) p ws
                  else serveWaits s p ws
              | _ => serveWaits s p ws
          | _ => serveWaits s p ws
      | none => serveWaits s p ws

/-- The order in which waits that one signal satisfies are served: the local arbiter's, which software cannot predict
(02 R53, 04 R141), so a free rotation. -/
def rotated {α : Type} (s : State) (l : List α) : List α :=
  let k := Config.arbiter s.freeCtr % Nat.max 1 l.length
  l.drop k ++ l.take k

/-- FSIG (04 R139): once every earlier destination is PRESENT, VALUE is added to the flag; past 65,535 the task faults
and the flag stays. Waiting FWAITs that it satisfies are served. -/
def execFsig (n : Fin 16) (s : State) : Out :=
  .next (withInstr s n (fun s t i => match i with
    | .fsig fg v =>
        if !(s.engine n).atBoundary then s
        else
          let cur := (s.parcel t.parcel).flags.rd fg
          if cur + v > 65535 then s.finishTask n .faulted .exec
          else
            let s := (s.updPar t.parcel (fun x => { x with flags := x.flags.wr fg (cur + v) })).advance n
            let ws := (s.parcel t.parcel).flagWaits.filter (fun w => w.2 == fg)
            serveWaits s.bump t.parcel (rotated s ws)
    | _ => s))

/-- FWAIT (04 R140): at or above VALUE, VALUE is subtracted and the task goes on; below it the task waits. -/
def execFwait (n : Fin 16) (s : State) : Out :=
  .next (withInstr s n (fun s t i => match i with
    | .fwait fg v =>
        let cur := (s.parcel t.parcel).flags.rd fg
        if cur ≥ v then (s.updPar t.parcel (fun x => { x with flags := x.flags.wr fg (cur - v) })).advance n
        else
          let s := s.updPar t.parcel (fun x => { x with flagWaits := x.flagWaits ++ [(n.val, fg)] })
          s.updEng n (fun e => { e with task := some { t with wait := .flag } })
    | _ => s))

/-! ## Semaphores and fences -/

/-- A semaphore is granted to a parcel (09 R345). -/
def State.semGranted (s : State) (p n : Nat) : Bool := bitAt (s.parcel p).sems n

/-- SEMACQ (04 R142, R143; 09 R345, R347): acquires, waits, or ends the task. -/
def execSemacq (n : Fin 16) (s : State) : Out :=
  .next (withInstr s n (fun s t i => match i with
    | .semacq k abnOk =>
        if !s.semGranted t.parcel k then s.finishTask n .denied .none
        else
          let (m, r) := (s.sems.rd k).acquire (.engine n) abnOk 0
          match r with
          | .acquired => ({ s with sems := s.sems.wr k m }).advance n
          | .abandoned =>
              if abnOk then
                (({ s with sems := s.sems.wr k m }).updEng n (fun e =>
                  { e with task := some { t with flags := t.flags.or { abn := true } } })).advance n
              else s.finishTask n .abandoned .none
          | .waits => ({ s with sems := s.sems.wr k m }).updEng n (fun e => { e with task := some { t with wait := .sem } })
          | .fault => s.finishTask n .faulted .exec
    | _ => s))

/-- SEMREL (04 R144; 09 R352): the holder frees the semaphore, which goes to its first waiter; any other owner's task
faults. -/
def execSemrel (n : Fin 16) (s : State) : Out :=
  .next (withInstr s n (fun s t i => match i with
    | .semrel k =>
        if !s.semGranted t.parcel k then s.finishTask n .denied .none
        else
          let m := s.sems.rd k
          if m.st = .held ∧ m.owner = some (.engine n) then
            (({ s with sems := s.sems.wr k { m with st := .free, owner := none } }).advance n).semSettle
          else s.finishTask n .faulted .exec
    | _ => s))

/-- The ordering of a fence's kind is established (09 R339): for release and SC every earlier destination is PRESENT and
every FSIG and SEMREL applied; for acquire every hold, FWAIT and SEMACQ taken. A task's earlier instructions have all
been executed when it reaches a fence, so drains alone can be open. -/
def fenceMet (e : Engine) (k : FenceKind) : Bool :=
  match k with
  | .acquire => true
  | _ => e.atBoundary

/-- FENCE (04 R145): completes when its ordering is established, else holds its engine. -/
def execFence (n : Fin 16) (s : State) : Out :=
  .next (withInstr s n (fun s t i => match i with
    | .fence k =>
        if fenceMet (s.engine n) k then s.advance n
        else s.updEng n (fun e => { e with task := some { t with wait := .fence } })
    | _ => s))

/-- FENCE_COMPLETE (09 R339): a waiting fence completes once its last condition is met. -/
def execFenceComplete (n : Fin 16) (s : State) : Out :=
  .next (match (s.engine n).task with
    | some t =>
        if t.wait == .fence && (s.engine n).atBoundary && (s.engine n).runs then s.advance n else s
    | none => s)

end Sys2Proof.Machine
end

