-- ==== Sys2Proof/Machine/Steps.lean ====
section
/-! DEFINITION. The steps of a running command: transfers, atomics, semaphore steps, doorbells and the row copies of a
generated step (08 R312-R315; 09 R335-R352; 10 R379-R383; 12 R446-R448; 16 R618). -/
namespace Sys2Proof.Machine
open Sys2Proof

/-! ## When a step may run -/

/-- A step of a running command: its parcel and job, its command, its entry and the number of its first region. -/
structure StepCtx where
  p : Nat
  slot : Nat
  c : Cmd
  x : StepEntry
  reg : Nat

/-- A step orders what comes before it (09 Table 9.2): ORD 2 or 3, or a release of a semaphore. -/
def StepEntry.releases (x : StepEntry) : Bool := x.ord ≥ 2 || x.kind == 6
/-- A step orders what comes after it: ORD 1 or 3, or an acquire of a semaphore. -/
def StepEntry.acquires (x : StepEntry) : Bool := x.ord == 1 || x.ord == 3 || x.kind == 5
/-- A step that writes memory. -/
def StepEntry.writes (x : StepEntry) : Bool := x.kind == 2 || x.kind == 3 || x.kind == 4 || x.kind == 9

/-- Step `j` comes before step `i` in the stream: PRE steps in item order, then POST steps (10 R383). -/
def stepBefore (steps : List StepEntry) (j i : Nat) : Bool :=
  let a := (steps.getD j {}).post
  let b := (steps.getD i {}).post
  if a = b then decide (j < i) else b

/-- A step may start (09 R333, R335; 10 R383, R386): no item has failed, a POST step's tasks have ended, earlier steps of its
group have started, and the orders of earlier acquires and of its own release are kept. -/
def stepReady (c : Cmd) (i : Nat) : Bool :=
  let steps := dSteps c.bytes
  let nt := dNTasks c.bytes
  let x := steps.getD i {}
  let it (j : Nat) : ItemSt := c.items.getD (nt + j) .idle
  let before := (List.range steps.length).filter (fun j => stepBefore steps j i)
  !c.items.any (·.failed)
    && (!x.post || (c.items.take nt).all (·.ended))
    && before.all (fun j =>
      let y := steps.getD j {}
      ((y.post != x.post) || it j != .idle)
        && (!x.releases || (it j).ended)
        && (!y.acquires || ((it j).ended
            && (!y.writes || (List.range steps.length).all (fun k => !stepBefore steps k j || (it k).ended)))))

/-- The step at item `k` of a queue's running command, if it is of a kind and in a state that a test admits. -/
def State.stepAt (s : State) (q k kind : Nat) (test : ItemSt → Bool) : Option StepCtx :=
  match (s.queue q).consumed, s.jobOf q with
  | c :: _, some (p, slot) =>
      let nt := dNTasks c.bytes
      let x := (dSteps c.bytes).getD (k - nt) {}
      if c.started && c.refusal.isNone && c.stopped.isNone && !s.fatal && decide (nt ≤ k ∧ k < nt + dNSteps c.bytes)
          && x.kind == kind && (c.items[k]?).any test then
        some { p := p, slot := slot, c := c, x := x, reg := stepRegionBase c.bytes (k - nt) }
      else none
  | _, _ => none

/-- The owner of a step's remote transfer. -/
def StepCtx.owner (x : StepCtx) (q k : Nat) : GOwner := .step q x.c.serial k

/-- A step ends with an outcome, and its transfer goes. -/
def State.stepDone (s : State) (q k : Nat) (x : StepCtx) (st : Status) (ca : Cause) : State :=
  (s.setItem q x.c.serial k (.done st ca)).dropGather (x.owner q k)

/-- Start a step that may start, or go on with one that waits: `go` starts it, `on` continues with its transfer once that
is complete; a failed transfer ends it. -/
def State.runStep (s : State) (q k kind : Nat) (go : State → StepCtx → State) (on : State → StepCtx → Gather → State) : State :=
  match s.stepAt q k kind (· == .idle) with
  | some x => if stepReady x.c (k - dNTasks x.c.bytes) then go s x else s
  | none =>
      match s.stepAt q k kind (· == .waiting) with
      | none => s
      | some x =>
          match s.gatherOf (x.owner q k) with
          | none => on s x {}
          | some g => if g.ready then on s x g else s

/-- Requests of a step leave, in a phase; the step waits for them. -/
def State.stepRemote (s : State) (q k : Nat) (x : StepCtx) (phase : Nat) (buf : Tab Byte) (reqs : List Req) : State :=
  let s := (s.dropGather (x.owner q k)).setItem q x.c.serial k .waiting
  s.startGather { owner := x.owner q k, phase := phase, todo := reqs, buf := buf }

/-- The extents of a step's region. -/
def StepCtx.exts (x : StepCtx) (i : Nat) : List Extent := recOf x.c.record (x.reg + i)

/-! ## Scratch sides -/

/-- The claims a step already holds. -/
def Cmd.claimsOf (c : Cmd) (k : Nat) : Option (List Claim) := (c.claims.find? (fun (x : Nat × List Claim) => x.1 == k)).map (·.2)

/-- Claim the granules of a step's scratch destination unless it holds them (03 R81); none where one cannot be claimed yet. -/
def State.stepClaim (s : State) (q k : Nat) (x : StepCtx) (sl off len : Nat) : Option (State × List Claim) :=
  match x.c.claimsOf k with
  | some cs => some (s, cs)
  | none =>
      let gs := granules off len
      if s.canClaim sl gs then
        let (s, cs) := s.takeClaims sl gs
        some (s.updCmd q x.c.serial (fun c => { c with claims := c.claims ++ [(k, cs)] }), cs)
      else none

/-- A step's claims are settled: complete, or undone (03 R81, R835). -/
def State.stepUnclaim (s : State) (q k : Nat) (x : StepCtx) (cs : List Claim) (ok : Bool) : State :=
  let s := s.updCmd q x.c.serial (fun c => { c with claims := c.claims.filter (fun (y : Nat × List Claim) => y.1 != k) })
  if ok then s.complete cs else s.unclaim cs

/-- Fill a step's scratch destination and end it (03 R81; 08 R314): runs of offset and bytes. -/
def State.stepFill (s : State) (q k : Nat) (x : StepCtx) (sl : Nat) (runs : List (Nat × List Byte)) (cs : List Claim) : State :=
  let s := runs.foldl (fun (s : State) (r : Nat × List Byte) => s.updSlc sl (fun y => y.store r.1 r.2)) s
  (s.stepUnclaim q k x cs true).stepDone q k x .ok .none

/-- The granules of a scratch source can be held now (03 R82, R83, R90). -/
def State.canHold (s : State) (sl : Nat) (gs : List Nat) : Bool :=
  let y := s.slc.rd sl
  !y.withdrawn && y.powered && gs.all (fun g => (y.gran.rd g).holdable)

/-- A whole read of scratch granules ends: with the release flag the granules become EMPTY where no reader is left
(03 R82). -/
def State.readDone (s : State) (sl : Nat) (gs : List Nat) (rel : Bool) : State :=
  if rel then
    s.updSlc sl (fun y => { y with gran := gs.foldl (fun t g => t.upd g (fun z => if z.readers = 0 then { z with st := .empty } else z)) y.gran })
  else s

/-- A step's scratch operand (10 R379, 04 R117): slice and offset. -/
def State.stepScr (s : State) (x : StepCtx) (len : Nat) : Option (Nat × Nat) :=
  (s.parcel x.p).resolve (scrOperand x.x.scr) 0 len

/-- The rows of a generated step and the pitch at which they lie in scratch (12 Table 12.3). -/
def StepEntry.pitch (x : StepEntry) : Nat := x.size / 2 ^ 32
/-- The bytes a row copies. -/
def StepEntry.rowLen (x : StepEntry) (r : WlRow) : Nat := if x.kind = 10 then r.pos * x.dva2 else x.size % 2 ^ 32
/-- The place in state memory of a row. -/
def StepEntry.rowOff (x : StepEntry) (r : WlRow) : Nat := if x.kind = 10 then x.dva else x.dva + r.pos * x.dva2

/-- The scratch bytes a row step spans. -/
def StepCtx.rowSpan (x : StepCtx) : Nat :=
  x.c.rows.zipIdx.foldl (fun n (r : WlRow × Nat) => Nat.max n (r.2 * x.x.pitch + Nat.max x.x.pitch (x.x.rowLen r.1))) 0

/-- WRITER_CLAIM (03 R81): a DMA that writes scratch claims every granule of its destination, or none. -/
def execWriterClaim (q : Fin 1024) (k : Fin 64) (s : State) : Out :=
  .next (
    let claim (x : StepCtx) (len : Nat) : State :=
      if !stepReady x.c (k - dNTasks x.c.bytes) then s
      else match s.stepScr x len with
        | none => s
        | some (sl, off) => match s.stepClaim q k x sl off len with
          | some (s, _) => s
          | none => s
    match s.stepAt q k 1 (· == .idle), s.stepAt q k 8 (· == .idle), s.stepAt q k 10 (· == .idle) with
    | some x, _, _ => claim x x.x.bytes
    | none, some x, _ => claim x x.rowSpan
    | none, none, some x => claim x x.rowSpan
    | none, none, none => s)

/-! ## Transfers -/

/-- DMA_IN (08 R312-R314; 10 R379): memory to scratch. -/
def execDmaIn (q : Fin 1024) (k : Fin 64) (s : State) : Out :=
  .next (s.runStep q k 1
    (fun s x =>
      let len := x.x.bytes
      match s.stepScr x len, runPieces (x.exts 0) x.x.dva len with
      | some (sl, off), some ps =>
          match s.stepClaim q k x sl off len with
          | none => s
          | some (s, cs) =>
              match s.readAll (.parcel x.p) 1 (s.parcel x.p).fabricId ps with
              | .ok bs s => s.stepFill q k x sl [(off, x.x.deliver bs)] cs
              | .wait s => s
              | .start buf reqs s => s.stepRemote q k x 0 buf reqs
              | .fail st ca s => (s.stepUnclaim q k x cs false).stepDone q k x st ca
      | _, _ => s.stepDone q k x .faulted .exec)
    (fun s x g =>
      let cs := (x.c.claimsOf k).getD []
      match g.failed, s.stepScr x x.x.bytes with
      | some (st, ca), _ => (s.stepUnclaim q k x cs false).stepDone q k x st ca
      | none, some (sl, off) => s.stepFill q k x sl [(off, x.x.deliver (memRead g.buf 0 x.x.bytes))] cs
      | none, none => s.stepDone q k x .faulted .exec))

/-- Bytes 0-31 of a seal record (16 Table 16.6). -/
def sealHead (count : Nat) (x : StepCtx) (k dva len : Nat) : List Byte :=
  leBytes 8 count ++ leBytes 8 (dJobSeq x.c.bytes) ++ leBytes 8 dva ++ leBytes 4 len ++ leBytes 1 x.p ++ leBytes 1 k ++ leBytes 2 0

/-- Write a step's bytes to memory (08 R315; 14 R538), sealed where a sealed parcel's bytes leave its controllers: the count
rises, the ciphertext takes the plaintext's place and the seal record goes to the ring (16 R618). -/
def State.landBytes (s : State) (q k : Nat) (x : StepCtx) (exts : List Extent) (dva : Nat) (bs : List Byte) : State :=
  let y := s.parcel x.p
  let write (s : State) (ps : List Piece) (bs : List Byte) (mark : State → State) : State :=
    match s.writeAll (.parcel x.p) 2 y.fabricId ps bs with
    | .ok s => (mark s).stepDone q k x .ok .none
    | .wait s => s
    | .start reqs s => (mark s).stepRemote q k x 1 [] reqs
    | .fail st ca s => (mark s).stepDone q k x st ca
  match runPieces exts dva bs.length with
  | none => s.stepDone q k x .faulted .exec
  | some ps =>
      if !(y.sealed && exts.any (s.unsealedExt x.p)) then write s ps bs id
      else match y.sealKey with
        | none => s.stepDone q k x .denied .none
        | some key =>
            let n := y.sealCount.toNat + 1
            let mark (s : State) : State := s.updPar x.p (fun y => { y with sealCount := BitVec.ofNat 64 n })
            let head := sealHead n x k dva bs.length
            let text := gcmXor key n 0 bs
            let ring := y.sealRing + 64 * (n % 2 ^ y.sealLog2)
            match trRegion s x.p (s.job x.p x.slot).cfg (decide ((s.job x.p x.slot).cfg = s.xlat.cfg.rd x.p)) false 64
                { dva := ring, len := 64, w := true } with
            | .wait s => s
            | .fault _ s => (mark s).stepDone q k x .faulted .exec
            | .ok es s =>
                match runPieces es ring 64 with
                | none => (mark s).stepDone q k x .faulted .exec
                | some rs => write s (ps ++ rs) (text ++ head ++ padTo 32 (padTo 16 (Config.gcmTag key n head text))) mark

/-- The end of a step's remote writes. -/
def State.landed (s : State) (q k : Nat) (x : StepCtx) (g : Gather) : State :=
  match g.failed with
  | some (st, ca) => s.stepDone q k x st ca
  | none => s.stepDone q k x .ok .none

/-- DMA_OUT (08 R312-R315; 10 R379): scratch to memory. -/
def execDmaOut (q : Fin 1024) (k : Fin 64) (s : State) : Out :=
  .next (s.runStep q k 2
    (fun s x =>
      let len := x.x.bytes
      match s.stepScr x len with
      | none => s.stepDone q k x .faulted .exec
      | some (sl, off) =>
          let gs := granules off len
          if !s.canHold sl gs then s
          else if (s.slc.rd sl).badRange off len then (s.readDone sl gs x.x.rel).stepDone q k x .faulted .uncorr
          else
            let bs := x.x.deliver (memRead (s.slc.rd sl).bytes off len)
            let s' := s.landBytes q k x (x.exts 0) x.x.dva bs
            if (s'.stepAt q k 2 (· == .idle)).isSome then s' else s'.readDone sl gs x.x.rel)
    (fun s x g => s.landed q k x g))

/-- The runs of a collective window a destination names (14 Table 14.9): context, offset, parcel, bytes. -/
def windowRuns : List Piece → List Byte → List (Nat × Nat × Nat × List Byte)
  | [], _ => []
  | p :: ps, bs =>
      (bitsOf p.addr 44 42, p.addr % 2 ^ 42, bitsOf p.addr 47 45, bs.take p.len) :: windowRuns ps (bs.drop p.len)

/-- The pieces name collective windows. -/
def isWindow (ps : List Piece) : Bool := ps.any (fun p => p.back == .fabric 0xFFFF)

/-- A COPY whose source bytes are here (08 R312, R315; 14 R550). -/
def State.copyOut (s : State) (q k : Nat) (x : StepCtx) (bs : List Byte) : State :=
  match runPieces (x.exts 1) x.x.dva2 bs.length with
  | none => s.stepDone q k x .faulted .exec
  | some ps =>
      if !isWindow ps then s.landBytes q k x (x.exts 1) x.x.dva2 bs
      else if !ps.all (fun p => p.back == .fabric 0xFFFF) then s.stepDone q k x .faulted .exec
      else ((s.dropGather (x.owner q k)).setItem q x.c.serial k .waiting).contribute q x.c.serial k x.p (windowRuns ps bs)

/-- A contribution whose source is not read (14 R551): a BARRIER, or a BROADCAST of another die than the root. -/
def State.sourceUnread (s : State) (x : StepCtx) : Bool :=
  match runPieces (x.exts 1) x.x.dva2 x.x.bytes with
  | none => false
  | some ps => isWindow ps && ps.all (fun p =>
      let c := s.coll (bitsOf p.addr 44 42)
      c.kind == 3 || (c.kind == 2 && c.root != s.dieId))

/-- COPY (08 R312-R315; 14 R550): memory to memory, or a contribution to a collective. -/
def execCopy (q : Fin 1024) (k : Fin 64) (s : State) : Out :=
  .next (s.runStep q k 3
    (fun s x =>
      let len := x.x.bytes
      if s.sourceUnread x then s.copyOut q k x (List.replicate len 0#8)
      else match runPieces (x.exts 0) x.x.dva len with
        | none => s.stepDone q k x .faulted .exec
        | some ps =>
            match s.readAll (.parcel x.p) 1 (s.parcel x.p).fabricId ps with
            | .ok bs s => s.copyOut q k x (x.x.deliver bs)
            | .wait s => s
            | .start buf reqs s => s.stepRemote q k x 0 buf reqs
            | .fail st ca s => s.stepDone q k x st ca)
    (fun s x g =>
      if (s.gatherOf (x.owner q k)).isNone then (List.range 8).foldl (fun (s : State) c => s.segAll c) s
      else match g.failed, g.phase with
        | some (st, ca), _ => s.stepDone q k x st ca
        | none, 0 => s.copyOut q k x (x.x.deliver (memRead g.buf 0 x.x.bytes))
        | none, _ => s.landed q k x g))

/-! ## Atomics -/

/-- The home's snoops that pieces about to be written wait for. -/
def State.snoopPieces (s : State) (ps : List Piece) : State :=
  ps.foldl (fun s p => (linesOf p.addr p.len).foldl (fun s l => s.homeSnoop true l) s) s

/-- Write an atomic's previous value to its result location and end the step (09 R342). -/
def State.atomResult (s : State) (q k : Nat) (x : StepCtx) (rs : List Piece) (old : Nat) : State :=
  match s.writeAll (.parcel x.p) 2 (s.parcel x.p).fabricId rs (leBytes 8 old) with
  | .ok s => s.stepDone q k x .ok .none
  | .wait s => s
  | .start reqs s => s.stepRemote q k x 2 [] reqs
  | .fail st ca s => s.stepDone q k x st ca

/-- An atomic whose compare value is here (09 R342-R344): performed at the home as one write, or sent to the target die. -/
def State.atomGo (s : State) (q k : Nat) (x : StepCtx) (ps rs : List Piece) (compare : Nat) : State :=
  let n := x.x.width
  let code := x.x.mode % 16
  match ps with
  | [{ back := .fabric _, addr := a, .. }] =>
      s.stepRemote q k x 1 [] [{ op := 4, ctl := 4 * code + (if n = 8 then 64 else 0), dest := a / 2 ^ 48, addr := a % 2 ^ 48,
                                 fabric := (s.parcel x.p).fabricId, payload := leBytes 8 (x.x.size % 2 ^ (8 * n)) ++ leBytes 8 compare,
                                 len := 8 }]
  | _ =>
      let busy := (ps ++ rs).filter s.pieceBusy
      if !busy.isEmpty then s.snoopPieces busy
      else match s.readPieces (.parcel x.p) ps with
        | .wait s => s
        | .remote _ _ => s.stepDone q k x .faulted .exec
        | .fail st ca => s.stepDone q k x st ca
        | .ok bs s =>
            let old := leNat bs
            match atomicNew code n old (x.x.size % 2 ^ (8 * n)) compare with
            | none => s.stepDone q k x .unsupported .none
            | some v =>
                match s.writePieces (.parcel x.p) ps (leBytes n v) with
                | .ok _ s => s.atomResult q k x rs old
                | .wait s => s
                | .remote _ _ => s.stepDone q k x .faulted .exec
                | .fail st ca => s.stepDone q k x st ca

/-- ATOMIC (09 R342-R344). -/
def execAtomic (q : Fin 1024) (k : Fin 64) (s : State) : Out :=
  .next (
    let parts (x : StepCtx) : Option (List Piece × List Piece) :=
      match runPieces (x.exts 0) x.x.dva x.x.width, runPieces (x.exts 1) x.x.dva2 8 with
      | some ps, some rs => some (ps, rs)
      | _, _ => none
    s.runStep q k 4
      (fun s x =>
        match parts x with
        | none => s.stepDone q k x .faulted .exec
        | some (ps, rs) =>
            if !(ps.all (fun p => s.atomicOffered (x.x.mode % 16) p.back)) then s.stepDone q k x .unsupported .none
            else if x.x.mode % 16 ≠ 6 then s.atomGo q k x ps rs 0
            else match s.readAll (.parcel x.p) 1 (s.parcel x.p).fabricId rs with
              | .ok bs s => s.atomGo q k x ps rs (field bs 0 x.x.width)
              | .wait s => s
              | .start buf reqs s => s.stepRemote q k x 0 buf reqs
              | .fail st ca s => s.stepDone q k x st ca)
      (fun s x g =>
        match g.failed, parts x with
        | some (st, ca), _ => s.stepDone q k x st ca
        | none, none => s.stepDone q k x .faulted .exec
        | none, some (ps, rs) =>
            match g.phase with
            | 0 => s.atomGo q k x ps rs (leNat (memRead g.buf 0 x.x.width))
            | 1 => s.atomResult q k x rs (leNat (memRead g.buf 0 8))
            | _ => s.landed q k x g))

/-! ## A reset of the host attach -/

/-- A step that waits for its source, or for an atomic's other operands, has yet to send a write of HOST memory. -/
def State.hostUnsent (s : State) (q k : Nat) (x : StepCtx) : Bool :=
  let host (i dva len : Nat) : Bool := match runPieces (x.exts i) dva len with
    | some ps => ps.any (fun p => p.back == .host)
    | none => false
  match s.gatherOf (x.owner q k) with
  | none => false
  | some g =>
      if x.x.kind = 3 then g.phase == 0 && host 1 x.x.dva2 x.x.bytes
      else decide (g.phase < 2) && (host 1 x.x.dva2 8 || (g.phase == 0 && host 0 x.x.dva x.x.width))

/-- Such a step ends TRUNCATED when the attach resets; its queue continues (10 R389). -/
def State.truncateHost (s : State) : State :=
  (s.queues.map Prod.fst).foldl (fun s q => (List.range 64).foldl (fun s k =>
    match s.stepAt q k 3 (· == .waiting), s.stepAt q k 4 (· == .waiting) with
    | some x, _ => if s.hostUnsent q k x then s.stepDone q k x .truncated .none else s
    | none, some x => if s.hostUnsent q k x then s.stepDone q k x .truncated .none else s
    | none, none => s) s) s

/-! ## Semaphore steps and doorbells -/

/-- SEM_ACQ (09 R345, R347, R351). -/
def execSemAcq (q : Fin 1024) (k : Fin 64) (s : State) : Out :=
  .next (s.runStep q k 5
    (fun s x =>
      let n := x.x.sem
      if !bitAt (s.parcel x.p).sems n then s.stepDone q k x .denied .none
      else
        let (m, r) := (s.sems.rd n).acquire (.queue q) x.x.abnok k
        let put (s : State) : State := { s with sems := s.sems.wr n m }
        match r with
        | .acquired => (put s).stepDone q k x .ok .none
        | .abandoned =>
            if x.x.abnok then
              ((put s).updCmd q x.c.serial (fun c => { c with flags := c.flags.or { abn := true } })).stepDone q k x .ok .none
            else (s.stepDone q k x .abandoned .none).semSettle
        | .waits => (put s).setItem q x.c.serial k .waiting
        | .fault => s.stepDone q k x .faulted .exec)
    (fun s _ _ => s))

/-- SEM_REL (09 R345, R352): a release by another than the holder ends FAULTED. -/
def execSemRel (q : Fin 1024) (k : Fin 64) (s : State) : Out :=
  .next (s.runStep q k 6
    (fun s x =>
      let n := x.x.sem
      let m := s.sems.rd n
      if !bitAt (s.parcel x.p).sems n then s.stepDone q k x .denied .none
      else if m.st = .held ∧ m.owner = some (.queue q) then
        (({ s with sems := s.sems.wr n { m with st := .free, owner := none } }).stepDone q k x .ok .none).semSettle
      else s.stepDone q k x .faulted .exec)
    (fun s _ _ => s))

/-- RING (10 R380): a tail value for a queue of another die of the fabric parcel. -/
def execRing (q : Fin 1024) (k : Fin 64) (s : State) : Out :=
  .next (s.runStep q k 7
    (fun s x =>
      let die := x.x.dva % 65536
      if die = s.dieId ∨ s.fabricMember (s.parcel x.p).fabricId die = false then s.stepDone q k x .denied .none
      else s.stepRemote q k x 0 [] [{ op := 6, dest := die, addr := bitsOf x.x.dva 25 16, fabric := (s.parcel x.p).fabricId,
                                      payload := leBytes 8 (x.x.size % 2 ^ 32) }])
    (fun s x g => s.landed q k x g))

/-! ## Row copies of a generated step (12 R446, R447, Table 12.3) -/

/-- The rows that are not padding: their number, the row and its sequence. -/
def State.liveRows (s : State) (x : StepCtx) : List (Nat × WlRow × Seq) :=
  (x.c.rows.zipIdx.filter (fun (r : WlRow × Nat) => r.1.kind != 0)).map
    (fun (r : WlRow × Nat) => (r.2, r.1, s.caddy.seqs.rd r.1.entry))

/-- The pieces of state memory the rows name, in row order; none where one leaves its state or its extents (12 R447). -/
def rowPieces (x : StepEntry) : List (Nat × WlRow × Seq) → Option (List Piece)
  | [] => some []
  | (_, r, e) :: rest =>
      let n := x.rowLen r
      if x.rowOff r + n > e.stateBytes ∨ (x.kind = 10 ∧ n > x.pitch) then none
      else match runPieces e.stateExts (e.state + x.rowOff r) n, rowPieces x rest with
        | some ps, some qs => some (ps ++ qs)
        | _, _ => none

/-- What the rows write in scratch: each live row its bytes, each padding row zeros over its pitch. -/
def rowRuns (x : StepEntry) (off : Nat) : List (WlRow × Nat) → List Byte → List (Nat × List Byte)
  | [], _ => []
  | (r, i) :: rest, bs =>
      if r.kind = 0 then (off + i * x.pitch, List.replicate x.pitch 0#8) :: rowRuns x off rest bs
      else (off + i * x.pitch, bs.take (x.rowLen r)) :: rowRuns x off rest (bs.drop (x.rowLen r))

/-- ROW_IN and ROW_HIST: state memory to scratch. -/
def State.rowsIn (s : State) (q k kind : Nat) : State :=
  s.runStep q k kind
    (fun s x =>
      match s.stepScr x x.rowSpan, rowPieces x.x (s.liveRows x) with
      | some (sl, off), some ps =>
          match s.stepClaim q k x sl off x.rowSpan with
          | none => s
          | some (s, cs) =>
              match s.readAll (.parcel x.p) 1 (s.parcel x.p).fabricId ps with
              | .ok bs s => s.stepFill q k x sl (rowRuns x.x off x.c.rows.zipIdx bs) cs
              | .wait s => s
              | .start buf reqs s => s.stepRemote q k x 0 buf reqs
              | .fail st ca s => (s.stepUnclaim q k x cs false).stepDone q k x st ca
      | _, _ => (s.stepUnclaim q k x ((x.c.claimsOf k).getD []) false).stepDone q k x .faulted .exec)
    (fun s x g =>
      let cs := (x.c.claimsOf k).getD []
      let n := (s.liveRows x).foldl (fun n (r : Nat × WlRow × Seq) => n + x.x.rowLen r.2.1) 0
      match g.failed, s.stepScr x x.rowSpan with
      | some (st, ca), _ => (s.stepUnclaim q k x cs false).stepDone q k x st ca
      | none, some (sl, off) => s.stepFill q k x sl (rowRuns x.x off x.c.rows.zipIdx (memRead g.buf 0 n)) cs
      | none, none => s.stepDone q k x .faulted .exec)

/-- ROW_IN (12 Table 12.3). -/
def execRowIn (q : Fin 1024) (k : Fin 64) (s : State) : Out := .next (s.rowsIn q k 8)

/-- ROW_HIST (12 Table 12.3). -/
def execRowHist (q : Fin 1024) (k : Fin 64) (s : State) : Out := .next (s.rowsIn q k 10)

/-- ROW_OUT (12 Table 12.3): scratch to state memory; padding rows are skipped. -/
def execRowOut (q : Fin 1024) (k : Fin 64) (s : State) : Out :=
  .next (s.runStep q k 9
    (fun s x =>
      let live := s.liveRows x
      match s.stepScr x x.rowSpan, rowPieces x.x live with
      | some (sl, off), some ps =>
          let at' (r : Nat × WlRow × Seq) : Nat := off + r.1 * x.x.pitch
          let gs := (live.flatMap (fun r => granules (at' r) (x.x.rowLen r.2.1))).eraseDups
          if !s.canHold sl gs then s
          else if live.any (fun r => (s.slc.rd sl).badRange (at' r) (x.x.rowLen r.2.1)) then
            (s.readDone sl gs x.x.rel).stepDone q k x .faulted .uncorr
          else
            let bs := live.flatMap (fun r => memRead (s.slc.rd sl).bytes (at' r) (x.x.rowLen r.2.1))
            match s.writeAll (.parcel x.p) 2 (s.parcel x.p).fabricId ps bs with
            | .ok s => (s.readDone sl gs x.x.rel).stepDone q k x .ok .none
            | .wait s => s
            | .start reqs s => (s.readDone sl gs x.x.rel).stepRemote q k x 1 [] reqs
            | .fail st ca s => (s.readDone sl gs x.x.rel).stepDone q k x st ca
      | _, _ => s.stepDone q k x .faulted .exec)
    (fun s x g => s.landed q k x g))

end Sys2Proof.Machine
end

