-- ==== Sys2Proof/Machine/TreeEngine.lean ====
section
/-! DEFINITION. The tree engine: forest images, the feature front stage, rule mode, complete-tree mode and the outputs
(chapter 06). -/
namespace Sys2Proof.Machine
open Sys2Proof

/-- Go on with what an access gave. -/
def Acc.andThen {α β : Type} (x : Acc α) (k : α → State → Acc β) : Acc β :=
  match x with
  | .ok a s => k a s
  | .wait s => .wait s
  | .remote d a => .remote d a
  | .fail st c => .fail st c

/-- Go on where a condition holds; else fail FAULTED, cause EXEC. -/
def Acc.need {α : Type} (b : Bool) (x : Acc α) : Acc α := if b then x else .fail .faulted .exec

/-- Change a context. -/
def State.updTe (s : State) (p : Nat) (f : TeCtx → TeCtx) : State := { s with te := { s.te with ctx := s.te.ctx.upd p f } }

/-- The tree engine is retired (18 R686, 20 R745). -/
def State.teRetired (s : State) : Bool := s.te.retired || bitAt s.start.retiredFlags 0

/-- The tree engine admits and walks (06 R222, R223). -/
def State.teRuns (s : State) : Bool := !s.te.paused && !s.te.withdrawn && !s.teRetired && !s.fatal

/-! ## The forest image (06 R188-R207) -/

/-- The header of a forest image (06 Table 6.1). -/
structure Forest where
  mode : Nat
  input : Nat
  features : Nat
  crosses : Nat
  kind : Nat
  sets : Nat
  outputs : Nat
  link : Nat
  depth : Nat
  groups : Nat
  trees : Nat
  rules : Nat
  bytes : Nat
  base : Nat
  feat : Nat
  bin : Nat
  cross : Nat
  set : Nat
  cond : Nat
  body : Nat
deriving DecidableEq, Repr

/-- Read a header. -/
def forestOf (h : List Byte) : Forest :=
  { mode := field h 6 1, input := field h 7 1, features := field h 8 2, crosses := field h 10 1, kind := field h 11 1,
    sets := field h 12 2, outputs := field h 14 2, link := field h 16 1, depth := field h 17 1, groups := field h 18 2,
    trees := field h 20 4, rules := field h 24 4, bytes := field h 32 8, base := field h 40 4, feat := field h 44 4,
    bin := field h 48 4, cross := field h 52 4, set := field h 56 4, cond := field h 60 4, body := field h 64 4 }

/-- The stride of a complete tree (06 R208). -/
def Forest.stride (f : Forest) : Nat := (8 * 2 ^ f.depth - 4 + 127) / 128 * 128

/-- A table of `n` bytes lies in the image at an offset: a multiple of 128, 0 exactly where the table is absent (06 R188). -/
def Forest.tableOk (f : Forest) (off n : Nat) : Bool :=
  off % 128 == 0 && (if n = 0 then off == 0 else decide (128 ≤ off ∧ off + n ≤ f.bytes))

/-- The header keeps the ranges of Table 6.1, its tables lie in the image, and its link and payload kind suit its outputs. -/
def Forest.ok (f : Forest) (h : List Byte) : Bool :=
  let rule := f.mode == 0
  field h 0 4 == 0x31464554 && field h 4 2 == 1 && decide (f.mode ≤ 1) && decide (f.input ≤ 2)
    && decide (1 ≤ f.features ∧ f.features ≤ 1024) && decide (f.crosses ≤ 64) && decide (f.kind ≤ 2) && decide (f.sets ≤ 256)
    && decide (1 ≤ f.outputs ∧ f.outputs ≤ 256) && decide (f.link ≤ 3)
    && (if rule then f.depth == 0 && decide (1 ≤ f.groups ∧ f.groups ≤ 1024) && decide (1 ≤ f.trees ∧ f.trees ≤ 1024)
          && decide (1 ≤ f.rules ∧ f.rules ≤ 65536)
        else decide (1 ≤ f.depth ∧ f.depth ≤ 16) && f.groups == 0 && decide (1 ≤ f.trees ∧ f.trees ≤ 16777216) && f.rules == 0)
    && zeros h 28 4 && zeros h 68 60 && decide (128 ≤ f.bytes ∧ f.bytes ≤ 2 ^ 40)
    && f.tableOk f.base (4 * f.outputs) && f.tableOk f.feat (16 * f.features) && f.tableOk f.cross (16 * f.crosses)
    && f.tableOk f.set (8 * f.sets) && f.tableOk f.cond (if rule then 640 * f.groups else 0)
    && f.tableOk f.body (if rule then 48 * f.rules else f.trees * f.stride) && f.bin % 128 == 0
    && (f.link != 2 || decide (f.outputs ≥ 2)) && (f.kind != 0 || f.outputs == 1)

/-- A feature-table entry (06 Table 6.2). -/
structure Feature where
  kind : Nat
  pre : Int
  shift : Nat
  bins : Nat
  scale : Int
  offset : Int
  binIndex : Nat
deriving DecidableEq, Repr

/-- Read a feature entry. -/
def featureOf (b : List Byte) : Feature :=
  { kind := field b 0 1, pre := sext 8 (field b 1 1), shift := field b 2 1, bins := field b 4 2, scale := sext 16 (field b 6 2),
    offset := sext 32 (field b 8 4), binIndex := field b 12 4 }

/-- A feature entry keeps Table 6.2, R191 and R195, and its edges lie in the image. -/
def Forest.featOk (f : Forest) (b : List Byte) : Bool :=
  let x := featureOf b
  decide (x.kind ≤ 2) && decide (-16 ≤ x.pre ∧ x.pre ≤ 15) && (f.input == 0 || x.pre == 0) && decide (x.shift ≤ 15) && zeros b 3 1
    && (x.bins == 0 || decide (2 ≤ x.bins ∧ x.bins ≤ 256))
    && (if x.kind = 1 then
          x.bins == 0 || (decide (128 ≤ f.bin) && decide (f.bin + 2 * x.binIndex + 2 * (x.bins - 1) ≤ f.bytes))
        else x.pre == 0 && x.shift == 0 && x.scale == 0 && x.offset == 0 && x.bins == 0)

/-- The edges of a feature, in a byte string of them. -/
def edgesOf (n : Nat) (b : List Byte) : List Int := (List.range n).map (fun i => sext 16 (field b (2 * i) 2))

/-- Strictly ascending. -/
def ascending : List Int → Bool
  | a :: b :: r => decide (a < b) && ascending (b :: r)
  | _ => true

/-- A cross entry keeps Table 6.3; `ignored` tells the IGNORE features. -/
def Forest.crossOk (f : Forest) (ignored : Nat → Bool) (b : List Byte) : Bool :=
  let n := field b 0 1
  decide (2 ≤ n ∧ n ≤ 4) && zeros b 1 1 && zeros b 12 4
    && (List.range 4).all (fun k =>
      let i := field b (4 + 2 * k) 2
      if k < n then decide (i < f.features) && !ignored i else i == 0xFFFF)

/-- A set entry keeps Table 6.4 and its bitmap lies in the image. -/
def Forest.setOk (f : Forest) (b : List Byte) : Bool :=
  let l := field b 0 1
  let o := field b 4 4
  decide (6 ≤ l ∧ l ≤ 12) && decide (field b 1 1 < 4) && zeros b 2 2 && o % 64 == 0 && decide (128 ≤ o ∧ o + 2 ^ l / 8 ≤ f.bytes)

/-- A test word passes its check (06 R198, R199). CONST0 names no feature. -/
def Forest.wordOk (f : Forest) (ignored : Nat → Bool) (node : Bool) (w : Nat) : Bool :=
  let i := w % 2048
  let k := bitsOf w 12 11
  let param := w / 65536
  bitsOf w 15 14 == 0
    && (if k = 3 then !node && i == 0 && param == 0
        else (if i < 1024 then decide (i < f.features) && !ignored i else decide (i < 1024 + f.crosses))
          && (match k with
            | 0 => decide (i < 1024)
            | 1 => decide (param < f.sets)
            | _ => param == 0))

/-- A leaf payload passes Table 6.8. -/
def Forest.leafOk (f : Forest) (w : Nat) : Bool :=
  match f.kind with
  | 0 => true
  | 1 => decide (w % 256 < f.outputs) && bitsOf w 15 8 == 0
  | _ => decide (w < f.outputs)

/-- A rule entry (06 Table 6.7): the value, the mask, the payload, the segment and the slot. -/
structure Rule where
  value : Nat
  mask : Nat
  payload : Nat
  seg : Nat
  slot : Nat
deriving DecidableEq, Repr

/-- Read a rule entry. -/
def ruleOf (b : List Byte) : Rule :=
  { value := field b 0 20, mask := field b 20 20, payload := field b 40 4, seg := field b 44 1, slot := field b 46 2 }

/-- A rule entry passes R202, but for the slots that two entries share. -/
def Forest.ruleOk (f : Forest) (segs : Nat) (b : List Byte) : Bool :=
  let r := ruleOf b
  bitsOf r.mask 159 150 == 1023 && decide (r.value / 2 ^ 150 < f.groups) && r.value &&& r.mask == r.value
    && decide (r.seg < segs) && zeros b 45 1 && decide (r.slot < 1024) && f.leafOk r.payload

/-- The rules a body holds, and whether each passes. -/
def Forest.rulesIn (f : Forest) (body : List Byte) : List (List Byte) :=
  (List.range f.rules).map (fun i => slice body (48 * i) 48)

/-- The `n` entries of `k` bytes of a table. -/
def entriesOf (n k : Nat) (b : List Byte) : List (List Byte) := (List.range n).map (fun i => slice b (k * i) k)

/-- The associative memory of a rule-mode image (06 R201-R203): none where an entry fails or two share a slot. `segs` are the
parcel's physical segments. -/
def Forest.amOf (f : Forest) (segs : List Nat) : List (List Byte) → Option (Tab AmEntry)
  | [] => some []
  | b :: bs =>
      match f.amOf segs bs with
      | none => none
      | some t =>
          let r := ruleOf b
          let i := segs.getD r.seg 0 * 1024 + r.slot
          if !f.ruleOk segs.length b || (t.rd i).held then none
          else some (t.wr i { held := true, value := r.value, mask := r.mask, payload := r.payload })

/-- Read runs of an image, in order. -/
def readRuns (p : Nat) (exts : List Extent) (dva : Nat) : List (Nat × Nat) → State → Acc (List (List Byte))
  | [], s => .ok [] s
  | (off, n) :: rest, s =>
      (s.readDva (.parcel p) exts (dva + off) n).andThen (fun b s =>
        (readRuns p exts dva rest s).andThen (fun bs s => .ok (b :: bs) s))

/-- A feature table's IGNORE features. -/
def ignoredIn (feats : List Byte) (i : Nat) : Bool := field feats (16 * i) 1 == 0

/-- The edges runs of a feature table. -/
def Forest.edgeRuns (f : Forest) (feats : List Byte) : List (Nat × Nat) :=
  (entriesOf f.features 16 feats).map (fun b =>
    let x := featureOf b
    (f.bin + 2 * x.binIndex, if x.kind = 1 ∧ x.bins ≠ 0 then 2 * (x.bins - 1) else 0))

/-- A check of a load fails with 0x0D (06 R189). -/
def Acc.orUnsupported {α : Type} (b : Bool) (x : Acc α) : Acc α := if b then x else .fail .unsupported .none

/-- Check an image before anything changes (06 R189, R207): its header bytes and, in rule mode, the entries it gives. -/
def State.checkForest (s : State) (p dva bytes : Nat) (exts : List Extent) : Acc (List Byte × Tab AmEntry) :=
  let segs := maskBits 64 (s.te.segments.rd p)
  .orUnsupported (decide (128 ≤ bytes)) <|
  (s.readDva (.parcel p) exts dva 128).andThen (fun h s =>
    let f := forestOf h
    .orUnsupported (f.ok h && f.bytes == bytes && (f.mode == 1 || decide (f.rules ≤ 1024 * segs.length))) <|
    (readRuns p exts dva [(f.feat, 16 * f.features), (f.cross, 16 * f.crosses), (f.set, 8 * f.sets),
        (f.cond, if f.mode = 0 then 640 * f.groups else 0), (f.body, if f.mode = 0 then 48 * f.rules else 0)] s).andThen (fun ts s =>
      let feats := ts.getD 0 []
      let ign := ignoredIn feats
      let conds := entriesOf f.groups 640 (ts.getD 3 [])
      let anyBins := (entriesOf f.features 16 feats).any (fun b => (featureOf b).bins != 0)
      .orUnsupported ((entriesOf f.features 16 feats).all f.featOk && (anyBins || f.bin == 0)
          && (entriesOf f.crosses 16 (ts.getD 1 [])).all (f.crossOk ign) && (entriesOf f.sets 8 (ts.getD 2 [])).all f.setOk
          && conds.all (fun b => (List.range 150).all (fun c => f.wordOk ign false (field b (4 * c) 4)) && zeros b 600 40)) <|
      (readRuns p exts dva (f.edgeRuns feats) s).andThen (fun es s =>
        .orUnsupported (es.all (fun b => ascending (edgesOf (b.length / 2) b))) <|
        match f.amOf segs (if f.mode = 0 then f.rulesIn (ts.getD 4 []) else []) with
        | some am => .ok (h, am) s
        | none => .fail .unsupported .none)))

/-- Clear the entries of segments. -/
def State.clearSegs (s : State) (segs : List Nat) : State :=
  { s with te := { s.te with am := s.te.am.filter (fun (e : Nat × AmEntry) => !segs.contains (e.1 / 1024)) } }

/-- Bind a forest image to a parcel's context (06 R188, R189, R203): used by TREE_LOAD and by infusion. -/
def State.bindForest (s : State) (p dva bytes : Nat) (exts : List Extent) : Acc Unit :=
  (s.checkForest p dva bytes exts).andThen (fun r s =>
    let s := if (forestOf r.1).mode = 0 then
        let s := s.clearSegs (maskBits 64 (s.te.segments.rd p))
        { s with te := { s.te with am := r.2.foldl (fun (t : Tab AmEntry) (e : Nat × AmEntry) => t.wr e.1 e.2) s.te.am } }
      else s
    .ok () (s.updTe p (fun x => { x with image := some { dva := dva, hdr := r.1, exts := exts } })))

/-! ## The configuration entries (06 R185, R186) -/

/-- A write that gives a parcel bits of a shared table is refused (06 R186): an answer other than OK. -/
def State.teShareRefused (s : State) (by' : Principal) (t : Tab Nat) (p v : Nat) : Option Status :=
  if by' ≠ .rtp then some .denied
  else if (List.range 8).any (fun o => o != p && (t.rd o &&& v) != 0) then some .unsupported
  else if (s.te.ctx.rd p).image.isSome then some .busy
  else none

/-- TE_SEGMENTS_WRITE (06 R185, R186). A segment taken from a parcel leaves it empty (01 R24). -/
def execTeSegmentsWrite (by' : Principal) (p : Fin 8) (v : U64) (s : State) : Out :=
  .next (s.served 33 fun s =>
    match s.teShareRefused by' s.te.segments p v.toNat with
    | some st => s.answer st
    | none =>
        let gone := (maskBits 64 (s.te.segments.rd p)).filter (fun g => !bitAt v.toNat g)
        let s := s.clearSegs gone
        { s with te := { s.te with segments := s.te.segments.wr p v.toNat } }.answer .ok)

/-- TE_NODE_WAYS_WRITE (06 R185, R186). -/
def execTeNodeWaysWrite (by' : Principal) (p : Fin 8) (v : U16) (s : State) : Out :=
  .next (s.served 33 fun s =>
    match s.teShareRefused by' s.te.nodeWays p v.toNat with
    | some st => s.answer st
    | none => { s with te := { s.te with nodeWays := s.te.nodeWays.wr p v.toNat } }.answer .ok)

/-! ## Coding a sample (06 R192-R197, R217) -/

/-- The size of an input element. -/
def Forest.elem (f : Forest) : Nat := match f.input with | 0 => 4 | 1 => 2 | _ => 1

/-- The stride of a sample (06 R217). -/
def Forest.sampleStride (f : Forest) : Nat := (f.features * f.elem + 3) / 4 * 4

/-- The output bytes of a sample (06 R216). -/
def Forest.outBytes (f : Forest) : Nat := if f.link = 3 then 8 else 4 * f.outputs

/-- An input element (06 R192): none where it is missing. -/
def Forest.inputOf (f : Forest) (w : Nat) : Option FVal :=
  let int (n : Nat) : Option FVal :=
    let x := sext n w
    if w % 2 ^ n = 2 ^ (n - 1) then none else some (.fin (decide (x < 0)) (x.natAbs * 2 ^ unitExp))
  match f.input with
  | 0 => let v := (ElemType.fmt .fp32).decode w; if v.isNan then none else some v
  | 1 => int 16
  | _ => int 8

/-- Scale by a power of two. -/
def scale2 (n : Nat) (e : Int) : Nat := if e ≥ 0 then n * 2 ^ e.toNat else n / 2 ^ (-e).toNat

/-- A present NUMERIC input before binning (06 R193): the int16 value and whether it saturated. -/
def Feature.numeric (x : Feature) (v : FVal) : Int × Bool :=
  let (i, s1) : Int × Bool := match v with
    | .inf neg => (if neg then -2147483648 else 2147483647, true)
    | .fin neg n => satInt32 (unitsToInt neg (scale2 n x.pre))
    | .nan => (0, false)
  let y := i * x.scale + x.offset
  let y := if x.shift = 0 then y else (y + 2 ^ (x.shift - 1)) / 2 ^ x.shift
  let (z, s2) := satRange (-32768) 32767 y
  (z, s1 || s2)

/-- A present CATEGORY input (06 R195): its code, or none where it is out of range. -/
def categoryOf (v : FVal) : Option Nat :=
  match v with
  | .fin neg n =>
      let i := n / 2 ^ unitExp
      if (neg && i != 0) || decide (i > 4095) then none else some i
  | _ => none

/-- What coding a feature gives: the code, and the SAT and OOR flags. -/
def codeFeature (f : Forest) (x : Feature) (edges : List Int) (w : Nat) : Code × Bool × Bool :=
  match f.inputOf w with
  | none => ({ v := 0, missing := true }, false, false)
  | some v =>
      match x.kind with
      | 1 =>
          let (y, sat) := x.numeric v
          let c := if x.bins = 0 then twos 16 y else (edges.filter (fun e => decide (e ≤ y))).length
          ({ v := c, missing := false }, sat, false)
      | 2 =>
          match categoryOf v with
          | some c => ({ v := c, missing := false }, false, false)
          | none => ({ v := 0, missing := true }, false, true)
      | _ => ({ v := 0, missing := true }, false, false)

/-- The code of a crossed feature (06 R196). -/
def crossCode (codes : Tab Code) (b : List Byte) : Code :=
  let ins := (List.range (field b 0 1)).map (fun k => codes.rd (field b (4 + 2 * k) 2))
  if ins.any (·.missing) then { v := 0, missing := true }
  else
    let c := crc32c (slice b 2 2 ++ ins.flatMap (fun (x : Code) => leBytes 2 x.v))
    { v := (c / 65536) ^^^ (c % 65536), missing := false }

/-- A word read from the image fails its check: the run ends FAULTED (06 R190, R212). -/
def codeAll (p : Nat) (f : Forest) (img : TeImage) (input : List Byte) (s : State) : Acc (Tab Code × Nat) :=
  (readRuns p img.exts img.dva [(f.feat, 16 * f.features), (f.cross, 16 * f.crosses)] s).andThen (fun ts s =>
    let feats := ts.getD 0 []
    let fs := entriesOf f.features 16 feats
    let xs := entriesOf f.crosses 16 (ts.getD 1 [])
    .need (fs.all f.featOk && xs.all (f.crossOk (ignoredIn feats))) <|
    (readRuns p img.exts img.dva (f.edgeRuns feats) s).andThen (fun es s =>
      let edges := es.map (fun b => edgesOf (b.length / 2) b)
      .need (edges.all ascending) <|
      let coded := (fs.zip edges).zipIdx.map (fun (y : (List Byte × List Int) × Nat) =>
        codeFeature f (featureOf y.1.1) y.1.2 (field input (y.2 * f.elem) f.elem))
      let codes := coded.zipIdx.foldl (fun (t : Tab Code) (y : (Code × Bool × Bool) × Nat) => t.wr y.2 y.1.1) []
      let codes := xs.zipIdx.foldl (fun (t : Tab Code) (y : List Byte × Nat) => t.wr (1024 + y.2) (crossCode codes y.1)) codes
      let sat := coded.any (fun (y : Code × Bool × Bool) => y.2.1)
      let oor := coded.any (fun (y : Code × Bool × Bool) => y.2.2)
      .ok (codes, (if sat then 1 else 0) + (if oor then 2 else 0)) s))

/-- Evaluate a test word that has passed its check (06 R197, R198). -/
def testBit (p : Nat) (f : Forest) (img : TeImage) (codes : Tab Code) (w : Nat) (s : State) : Acc Bool :=
  let c := codes.rd (w % 2048)
  match bitsOf w 12 11 with
  | 0 => .ok (if c.missing then bitAt w 13 else decide (sext 16 c.v ≥ sext 16 (w / 65536))) s
  | 1 =>
      (s.readDva (.parcel p) img.exts (img.dva + f.set + 8 * bitsOf w 23 16) 8).andThen (fun b s =>
        .need (f.setOk b) <|
        if c.missing then .ok (bitAt (field b 1 1) 0) s
        else
          let n := 2 ^ field b 0 1
          if !bitAt (field b 1 1) 1 && decide (c.v ≥ n) then .ok false s
          else
            let u := c.v % n
            (s.readDva (.parcel p) img.exts (img.dva + field b 4 4 + u / 32 * 4) 4).andThen (fun m s =>
              .ok (bitAt (leNat m) (u % 32)) s))
  | 2 => .ok c.missing s
  | _ => .ok false s

/-- Check a test word read from the image and evaluate it; the feature's entry tells whether it is IGNORE. -/
def checkedTest (p : Nat) (f : Forest) (img : TeImage) (codes : Tab Code) (node : Bool) (w : Nat) (s : State) : Acc Bool :=
  let i := w % 2048
  (s.readDva (.parcel p) img.exts (img.dva + f.feat + 16 * (if i < f.features then i else 0)) 16).andThen (fun b s =>
    .need (f.wordOk (fun _ => field b 0 1 == 0) node w) (testBit p f img codes w s))

/-! ## Adding leaves and applying the link (06 R213-R215) -/

/-- Add a leaf payload to the sums (06 R213, R214). -/
def Forest.addLeaf (f : Forest) (sums : List Nat) (w : Nat) : List Nat :=
  let fp := ElemType.fmt .fp32
  let (k, v) : Nat × FVal := match f.kind with
    | 0 => (0, fp.decode w)
    | 1 => (w % 256, (ElemType.fmt .bf16).decode (w / 65536))
    | _ => (w % 256, .fin false (2 ^ unitExp))
  let one : FVal := .fin false (2 ^ unitExp)
  listSet sums k (fp32Code (fpMicroStep (fp.decode (sums.getD k 0)) [(v, one)]).1)

/-- Bounds of e^y for y in units of 2^-300, in units of 2^-300: beyond 2^±300 the power's own bounds. -/
def expBounds (y : Int) : Nat × Nat :=
  let t := y * (0x171547652b82fe1777d0ffda0d23a7d11 : Nat) / (2 ^ 388 : Nat)
  let i := t / (2 ^ 40 : Nat)
  if i ≥ 300 then (2 ^ 600, 2 ^ 1200)
  else if i < -300 then (0, 1)
  else
    let lo := exp2Low i (t % (2 ^ 40 : Nat)).toNat
    (lo, lo + lo / 2 ^ 37 + 1)

/-- One of the fp32 codes within `ulps` units in the last place of a value between two bounds, by the free value. -/
def pickWithin (fn : Nat) (xs : List Nat) (k ulps lo hi : Nat) : Nat :=
  let f := ElemType.fmt .fp32
  let a := f.floorCode lo 1 - ulps
  let b := Nat.min (f.floorCode hi 1 + ulps) f.maxCode
  a + Config.treePick fn (xs.map (BitVec.ofNat 32)) k % (b + 1 - a)

/-- The units of a finite value. -/
def unitsOf : FVal → Int
  | .fin s n => signedUnits s n
  | _ => 0

/-- SIGMOID (06 R215). -/
def sigmoid (x : Nat) : Nat :=
  match (ElemType.fmt .fp32).decode x with
  | .nan => 0x7FC00000
  | .inf true => 0
  | .inf false => 0x3F800000
  | v =>
      let (lo, hi) := expBounds (-unitsOf v)
      pickWithin 0 [x] 0 2 (2 ^ (2 * unitExp) / (2 ^ unitExp + hi)) (2 ^ (2 * unitExp) / (2 ^ unitExp + lo) + 1)

/-- The largest value of a list, the first on ties. -/
def argmax (vs : List FVal) : Nat :=
  vs.zipIdx.foldl (fun (k : Nat) (y : FVal × Nat) => if (vs.getD k .nan).below y.1 && !((vs.getD k .nan).isZero && y.1.isZero) then y.2 else k) 0

/-- SOFTMAX (06 R215). With a NaN, an infinite largest output or only negative infinities the difference is a NaN, and so is
every share. -/
def softmax (xs : List Nat) : List Nat :=
  let vs := xs.map (ElemType.fmt .fp32).decode
  let m := vs.getD (argmax vs) .nan
  if vs.any (·.isNan) || m.isInf then xs.map (fun _ => 0x7FC00000)
  else
    let es := vs.map (fun v => match v with | .fin _ _ => expBounds (unitsOf v - unitsOf m) | _ => (0, 0))
    let lo := es.foldl (fun a e => a + e.1) 0
    let hi := es.foldl (fun a e => a + e.2) 0
    es.zipIdx.map (fun (y : (Nat × Nat) × Nat) =>
      let (a, b) := y.1
      pickWithin 1 xs y.2 4 (a * 2 ^ unitExp / Nat.max 1 (hi - b + a)) (b * 2 ^ unitExp / Nat.max 1 (lo - a + b) + 1))

/-- The output bytes of a sample from its sums (06 R215, R216). -/
def Forest.outputsOf (f : Forest) (sums : List Nat) : List Byte :=
  match f.link with
  | 0 => sums.flatMap (leBytes 4)
  | 1 => (sums.map sigmoid).flatMap (leBytes 4)
  | 2 => (softmax sums).flatMap (leBytes 4)
  | _ =>
      let vs := sums.map (ElemType.fmt .fp32).decode
      let k := argmax vs
      leBytes 4 (if vs.any (·.isNan) then 0xFFFFFFFF else k) ++ leBytes 4 (sums.getD k 0)

/-- Some sum is a NaN. -/
def sumsNan (sums : List Nat) : Bool := sums.any (fun x => ((ElemType.fmt .fp32).decode x).isNan)

/-! ## Rule mode (06 R200-R206, R225) -/

/-- The conditions of a group, checked and evaluated: the key's bits 149-0. -/
def keyBits (p : Nat) (f : Forest) (img : TeImage) (codes : Tab Code) : List Nat → Nat → State → Acc Nat
  | [], acc, s => .ok acc s
  | c :: cs, acc, s =>
      (s.readDva (.parcel p) img.exts (img.dva + f.cond + c) 4).andThen (fun b s =>
        (checkedTest p f img codes false (leNat b) s).andThen (fun t s =>
          keyBits p f img codes cs (if t then acc + 2 ^ (c % 640 / 4) else acc) s))

/-- The entry a segment answers a key with: the matching one with the lowest slot (06 R204). -/
def State.amFind (s : State) (seg key : Nat) : Option (Nat × AmEntry) :=
  s.te.am.find? (fun (e : Nat × AmEntry) => e.1 / 1024 == seg && e.2.held && key &&& e.2.mask == e.2.value)

/-- A segment holds an entry of a group. -/
def State.amHasGroup (s : State) (seg g : Nat) : Bool :=
  s.te.am.any (fun (e : Nat × AmEntry) => e.1 / 1024 == seg && e.2.held && e.2.value / 2 ^ 150 == g)

/-- Rewrite an entry from the bound image (06 R225, R226): an entry that the image does not name holds none. -/
def State.amRewrite (s : State) (p : Nat) (f : Forest) (img : TeImage) (i : Nat) : Acc Unit :=
  let segs := maskBits 64 (s.te.segments.rd p)
  (s.readDva (.parcel p) img.exts (img.dva + f.body) (48 * f.rules)).andThen (fun b s =>
    let named := (f.rulesIn b).filter (fun r => segs.getD (ruleOf r).seg 64 * 1024 + (ruleOf r).slot == i)
    match f.amOf segs named with
    | none => .fail .faulted .exec
    | some t => .ok () { s with te := { s.te with am := s.te.am.wr i (t.rd i) } })

/-- Rewrite the failing entries that a key selects, each counted (06 R225), until the lookup uses none. -/
def amSettle (p : Nat) (f : Forest) (img : TeImage) (key : Nat) : List Nat → List Nat → State → Acc (List Nat)
  | [], bad, s => .ok bad s
  | seg :: segs, bad, s =>
      match s.amFind seg key with
      | some (i, _) =>
          if bad.contains i then
            (s.amRewrite p f img i).andThen (fun _ s => amSettle p f img key segs (bad.filter (· != i)) (s.emit 61 0x3E0 p seg))
          else amSettle p f img key segs bad s
      | none => amSettle p f img key segs bad s

/-- The lookups of a sample, group by group: the sums and whether a segment gave no match. -/
def lookups (p : Nat) (f : Forest) (img : TeImage) (codes : Tab Code) : List Nat → List Nat → List Nat → Bool → State →
    Acc (List Nat × Bool)
  | [], _, sums, nm, s => .ok (sums, nm) s
  | g :: gs, bad, sums, nm, s =>
      (keyBits p f img codes ((List.range 150).map (fun c => 640 * g + 4 * c)) (g * 2 ^ 150) s).andThen (fun key s =>
        let segs := maskBits 64 (s.te.segments.rd p)
        (amSettle p f img key segs bad s).andThen (fun bad s =>
          let hits := segs.map (fun (seg : Nat) => (s.amFind seg key).map Prod.snd)
          let sums := hits.foldl (fun (a : List Nat) (h : Option AmEntry) => match h with | some e => f.addLeaf a e.payload | none => a) sums
          let none' := segs.any (fun (seg : Nat) => (s.amFind seg key).isNone && s.amHasGroup seg g)
          lookups p f img codes gs bad sums (nm || none') s))

/-! ## Runs -/

/-- The base scores. -/
def baseSums (p : Nat) (f : Forest) (img : TeImage) (s : State) : Acc (List Nat) :=
  (s.readDva (.parcel p) img.exts (img.dva + f.base) (4 * f.outputs)).andThen (fun b s =>
    .ok ((List.range f.outputs).map (fun k => field b (4 * k) 4)) s)

/-- Write a sample's outputs and its flag byte together (06 R216). -/
def writeSample (p : Nat) (f : Forest) (r : TeRun) (n : Nat) (sums : List Nat) (flags : Nat) (s : State) : Acc Unit :=
  let fl := flags + (if sumsNan sums then 8 else 0)
  match pieces r.outExts 65 (r.outs + n * f.outBytes) f.outBytes, pieces r.flagExts 65 (r.flags + n) 1 with
  | some ps, some qs =>
      match s.writeAll (.parcel p) 2 0 (ps ++ qs) (f.outputsOf sums ++ leBytes 1 fl) with
      | .ok s => .ok () s
      | .wait s => .wait s
      | .start _ _ => .fail .faulted .exec
      | .fail st c _ => .fail st c
  | _, _ => .fail .faulted .exec

/-- A run is over: its command's item ends. -/
def State.teEnd (s : State) (p : Nat) (r : TeRun) (st : Status) (c : Cause) : State :=
  (s.updTe p (fun x => { x with run := none })).endCmd r.queue r.cmd st c

/-- What one action of a run gives: its new state, a wait, or the run's end. -/
def State.teSettle (s : State) (p : Nat) (r : TeRun) : Acc TeRun → State
  | .ok r' s' => if r'.done ≥ r'.b then s'.teEnd p r' .ok .none else s'.updTe p (fun x => { x with run := some r' })
  | .wait s' => s'
  | .remote _ _ => s.teEnd p r .faulted .exec
  | .fail st c => s.teEnd p r st c

/-- Read and code the next sample of a run. -/
def nextSample (p : Nat) (f : Forest) (img : TeImage) (r : TeRun) (s : State) : Acc TeSample :=
  (s.readDva (.parcel p) r.inExts (r.ins + r.next * f.sampleStride) (f.features * f.elem)).andThen (fun b s =>
    (codeAll p f img b s).andThen (fun c s =>
      (baseSums p f img s).andThen (fun sums s =>
        .ok { n := r.next, codes := c.1, sums := sums, flags := c.2 } s)))

/-- Admit up to `k` samples of a complete-mode run. -/
def admitGo (p : Nat) (f : Forest) (img : TeImage) : Nat → TeRun → State → Acc TeRun
  | 0, r, s => .ok r s
  | k + 1, r, s =>
      if r.next ≥ r.b then .ok r s
      else (nextSample p f img r s).andThen (fun x s =>
        admitGo p f img k { r with next := r.next + 1, slots := r.slots ++ [x] } s)

/-- The slots of the code buffer in use. -/
def State.teSlotsUsed (s : State) : Nat :=
  s.te.ctx.foldl (fun n (x : Nat × TeCtx) => n + (match x.2.run with | some r => r.slots.length | none => 0)) 0

/-- TE_SAMPLE_ADMIT (06 R206, R210, R220, R225): in rule mode one sample, looked up and written; in complete mode a batch into the
free slots of the code buffer. `bad` are the entries whose check fails. -/
def execTeSampleAdmit (p : Fin 8) (bad : List (Fin 65536)) (s : State) : Out :=
  .next (
    match (s.te.ctx.rd p).run, (s.te.ctx.rd p).image with
    | some r, some img =>
        let f := forestOf img.hdr
        if !s.teRuns || decide (r.next ≥ r.b) then s
        else if f.mode = 0 then
          s.teSettle p r ((nextSample p f img r s).andThen (fun x s =>
            (lookups p f img x.codes (List.range f.groups) (bad.map (·.val)) x.sums false s).andThen (fun y s =>
              (writeSample p f r x.n y.1 (x.flags + (if y.2 then 4 else 0)) s).andThen (fun _ s =>
                .ok { r with next := r.next + 1, done := r.done + 1 } s))))
        else s.teSettle p r (admitGo p f img (256 - s.teSlotsUsed) r s)
    | _, _ => s)

/-- Drop a sample's slot. -/
def TeRun.drop (r : TeRun) (n : Nat) : TeRun := { r with slots := r.slots.filter (fun (x : TeSample) => x.n != n) }

/-- Replace a sample. -/
def TeRun.put (r : TeRun) (y : TeSample) : TeRun := { r with slots := r.slots.map (fun (x : TeSample) => if x.n = y.n then y else x) }

/-- One action of a sample's walk (06 R208-R212): a node's test, or the leaf that ends its tree. -/
def walkSample (p : Nat) (f : Forest) (img : TeImage) (r : TeRun) (x : TeSample) (s : State) : Acc TeRun :=
  let inner := 2 ^ f.depth - 1
  let at' := img.dva + f.body + x.tree * f.stride + 4 * x.node
  (s.readDva (.parcel p) img.exts at' 4).andThen (fun b s =>
    if x.node < inner then
      (checkedTest p f img x.codes true (leNat b) s).andThen (fun t s =>
        .ok (r.put { x with node := 2 * x.node + 1 + (if t then 1 else 0) }) s)
    else
      .need (f.leafOk (leNat b)) <|
      let sums := f.addLeaf x.sums (leNat b)
      if x.tree + 1 < f.trees then .ok (r.put { x with sums := sums, tree := x.tree + 1, node := 0 }) s
      else (writeSample p f r x.n sums x.flags s).andThen (fun _ s => .ok { r.drop x.n with done := r.done + 1 } s))

/-- TE_NODE_RETURN (06 R209-R212, R222): a node or leaf word of one sample arrives. A paused sample holds at the start of a tree. -/
def execTeNodeReturn (p : Fin 8) (slot : Fin 256) (s : State) : Out :=
  .next (
    match (s.te.ctx.rd p).run, (s.te.ctx.rd p).image with
    | some r, some img =>
        match r.slots[slot.val]? with
        | none => s
        | some x =>
            if x.node = 0 ∧ s.teRuns = false then s
            else s.teSettle p r (walkSample p (forestOf img.hdr) img r x s)
    | _, _ => s)

/-- TE_BACKGROUND_CHECK (06 R226): entries that fail are rewritten from the bound images of their parcels. -/
def execTeBackgroundCheck (bad : List (Fin 65536)) (s : State) : Out :=
  .next (bad.foldl (fun (s : State) (i : Fin 65536) =>
    match (List.range 8).find? (fun p => bitAt (s.te.segments.rd p) (i.val / 1024)) with
    | none => s
    | some p =>
        match (s.te.ctx.rd p).image with
        | none => s
        | some img => match s.amRewrite p (forestOf img.hdr) img i with
          | .ok _ s => s
          | .wait s => s
          | _ => s) s)

/-- The head command of a queue that has an opcode and waits: started and its item not ended, or about to start. -/
def State.teHead (s : State) (q op : Nat) (k : State → Nat → Cmd → State) : State :=
  match (s.queue q).consumed with
  | c :: _ =>
      if c.started && dOp c.bytes == op then
        if c.items.getD 0 .idle == .idle && c.refusal.isNone && c.stopped.isNone then
          match s.jobOf q with
          | some (p, _) => k s p c
          | none => s
        else s
      else
        match s.jobOf q with
        | some (p, _) =>
            if (s.te.ctx.rd p).run.isSome || (s.te.withdrawn && !s.teRetired) then s else s.startHead q op (fun s p _ c => k s p c)
        | none => s
  | [] => s

/-- TREE_LOAD (06 R188-R190, R203, R221; 10 R378): it waits until the context's samples have written their outputs. -/
def execTreeLoad (q : Fin 1024) (s : State) : Out :=
  .next (s.teHead q 2 (fun s p c =>
    if s.teRetired then s.endCmd q c.serial .retired .none
    else if (s.te.ctx.rd p).run.isSome then s
    else match s.bindForest p (field c.bytes 32 8) (field c.bytes 40 8) (recOf c.record 0) with
      | .ok _ s => s.endCmd q c.serial .ok .none
      | .wait s => s
      | .remote _ _ => s.endCmd q c.serial .faulted .exec
      | .fail st ca => s.endCmd q c.serial st ca))

/-- TREE_RUN (06 R217, R221; 10 R378): the buffers are checked and the run begins; its samples follow. -/
def execTreeRun (q : Fin 1024) (s : State) : Out :=
  .next (s.teHead q 3 (fun s p c =>
    if s.teRetired then s.endCmd q c.serial .retired .none
    else if (s.te.ctx.rd p).run.isSome then s
    else match (s.te.ctx.rd p).image with
      | none => s.endCmd q c.serial .faulted .exec
      | some img =>
          let f := forestOf img.hdr
          let b := field c.bytes 24 4
          if field c.bytes 56 4 < b * f.sampleStride ∨ field c.bytes 60 4 < b * f.outBytes then s.endCmd q c.serial .faulted .exec
          else
            let r : TeRun := { queue := q, cmd := c.serial, b := b, ins := field c.bytes 32 8, outs := field c.bytes 40 8,
                               flags := field c.bytes 48 8, inExts := recOf c.record 0, outExts := recOf c.record 1,
                               flagExts := recOf c.record 2 }
            (s.updTe p (fun x => { x with run := some r })).setItem q c.serial 0 .waiting))

end Sys2Proof.Machine
end

