-- ==== Sys2Proof/Machine/Jobs.lean ====
section
/-! DEFINITION. Parcels, jobs and time slices: the plat, job images, JOB_CONTROL, expiry, the switch and infusion (chapter 11; 15
R574-R575; 16 R615, R617, R619, R622). -/
namespace Sys2Proof.Machine
open Sys2Proof

/-! ## The plat (11 R398-R401) -/

/-- A plat request (11 Table 11.2). -/
structure PlatReq where
  parcel : Nat
  active : Nat
  sealed : Nat
  tally : Nat
  floor : Nat
  controllers : Nat
  linkShare : Nat
  engines : Nat
  slices : Nat
  dcWays : Nat
  nodeWays : Nat
  qFirst : Nat
  qCount : Nat
  segments : Nat
  sems : Nat
deriving DecidableEq, Repr

/-- Read a plat request. -/
def platReqOf (b : List Byte) : PlatReq :=
  { parcel := field b 0 1, active := field b 1 1, sealed := field b 2 1, tally := field b 3 1, floor := field b 4 1,
    controllers := field b 5 1, linkShare := field b 6 1, engines := field b 8 2, slices := field b 10 2, dcWays := field b 12 2,
    nodeWays := field b 14 2, qFirst := field b 16 2, qCount := field b 18 2, segments := field b 24 8, sems := field b 32 32 }

/-- The bytes of a parcel's plat record (11 Table 11.2; 16 Table 16.8): 64 bytes. -/
def State.platBytes (s : State) (p : Nat) : List Byte :=
  let x := s.parcel p
  let one (b : Bool) : Nat := if b then 1 else 0
  leBytes 1 p ++ leBytes 1 (one x.active) ++ leBytes 1 (one x.sealed) ++ leBytes 1 (one x.tally) ++ leBytes 1 x.floor
    ++ leBytes 1 x.controllers ++ leBytes 1 x.linkShare ++ leBytes 1 0 ++ leBytes 2 x.engines ++ leBytes 2 x.slices
    ++ leBytes 2 x.dcWays ++ leBytes 2 (s.te.nodeWays.rd p) ++ leBytes 2 x.qFirst ++ leBytes 2 x.qCount ++ leBytes 4 0
    ++ leBytes 8 (s.te.segments.rd p) ++ leBytes 32 x.sems

/-- The request keeps the ranges of its fields. -/
def platFieldsOk (b : List Byte) : Bool :=
  let r := platReqOf b
  b.length == 64 && decide (r.parcel < 8) && decide (r.active ≤ 1) && decide (r.sealed ≤ 1) && decide (r.tally ≤ 1)
    && decide (r.floor ≤ 16) && decide (r.linkShare ≤ 64) && decide (r.controllers < 16) && zeros b 7 1 && zeros b 20 4

/-- Another parcel holds something that a request grants (11 Table 11.3, row 2). -/
def State.platTaken (s : State) (r : PlatReq) : Bool :=
  (r.dcWays &&& s.mem.hostWays) != 0 || (List.range 8).any (fun o =>
    let x := s.parcel o
    o != r.parcel && ((x.engines &&& r.engines) != 0 || (x.slices &&& r.slices) != 0 || (x.dcWays &&& r.dcWays) != 0
      || (x.controllers &&& r.controllers) != 0 || (x.sems &&& r.sems) != 0
      || (s.te.segments.rd o &&& r.segments) != 0 || (s.te.nodeWays.rd o &&& r.nodeWays) != 0
      || (r.qCount != 0 && x.qCount != 0 && decide (x.qFirst < r.qFirst + r.qCount ∧ r.qFirst < x.qFirst + x.qCount))))

/-- A retired resource, or a controller that is OFF, is granted anew (11 Table 11.3, row 4). -/
def State.platRetired (s : State) (r : PlatReq) : Bool :=
  let x := s.parcel r.parcel
  let new (n old v : Nat) : List Nat := (maskBits n v).filter (fun i => !bitAt old i)
  (new 16 x.engines r.engines).any (fun i => (s.engine i).retired) || (new 16 x.slices r.slices).any (fun i => (s.slc.rd i).retired)
    || (new 4 x.controllers r.controllers).any (fun c => (s.mem.mc.rd c).st != .running)
    || (new 16 x.dcWays r.dcWays).any (fun w => bitAt s.mem.retiredWays w)

/-- The refusal of a plat request: the first row of Table 11.3 that applies, then those of 16 R615. -/
def State.platRefusal (s : State) (r : PlatReq) : Option Status :=
  let share := (List.range 8).foldl (fun n o => if o = r.parcel then n else n + (s.parcel o).linkShare) r.linkShare
  let any := r.sealed + r.tally + r.floor + r.controllers + r.linkShare + r.engines + r.slices + r.dcWays + r.nodeWays + r.qFirst
    + r.qCount + r.segments + r.sems
  if s.hasJob r.parcel then some .busy
  else if s.platTaken r then some .unsupported
  else if (maskBits 16 r.engines).any (fun i => !bitAt r.slices i) then some .unsupported
  else if s.platRetired r then some .retired
  else if r.floor > popCount 16 r.engines then some .unsupported
  else if share > 64 then some .unsupported
  else if r.active = 0 ∧ any ≠ 0 then some .unsupported
  else if r.qFirst + r.qCount > 1024 then some .unsupported
  else if r.sealed = 1 ∧ (!s.straps.packageP ∨ r.controllers = 0) then some .unsupported
  else if r.sealed = 1 ∧ (s.sec.debug = 2 ∨ s.sec.debug = 3) then some .denied
  else none

/-- PLAT_RESULT becomes ready. -/
def State.platDone (s : State) (st : Status) : State :=
  { s with plat := { s.plat with waiting := none,
                                 result := { ready := true, bytes := leBytes 1 st.code ++ leBytes 8 s.plat.epoch.toNat } } }

/-- The controllers a request removes from its parcel. -/
def State.platRemoved (s : State) (r : PlatReq) : List Nat :=
  (maskBits 4 (s.parcel r.parcel).controllers).filter (fun c => !bitAt r.controllers c)

/-- Zero a controller's populated capacity (16 R622). -/
def State.clearMc (s : State) (c : Nat) : State :=
  let out (a : Nat) : Bool := decide (a / mcWindow ≠ c)
  { s with mem := { s.mem with loc := s.mem.loc.filter (fun (x : Nat × Byte) => out x.1),
                               badLoc := s.mem.badLoc.filter (fun l => out (l * 128)) } }

/-- An accepted plat request takes effect (11 R401): removed resources are cleared, the entries written, the epoch raised. A seal
key is discarded with the plat it was agreed under (16 R617). -/
def State.platApply (s : State) (r : PlatReq) : State :=
  let x := s.parcel r.parcel
  let gone (n old v : Nat) : List Nat := (maskBits n old).filter (fun i => !bitAt v i)
  let s := (gone 16 x.slices r.slices).foldl (fun (s : State) n => s.updSlc n Slice.scrub) s
  let s := s.waysClear (maskOf (gone 16 x.dcWays r.dcWays))
  let s := s.clearSegs (gone 64 (s.te.segments.rd r.parcel) r.segments)
  let s := (s.platRemoved r).foldl (fun (s : State) c => s.clearMc c) s
  let s := { s with te := { s.te with segments := s.te.segments.wr r.parcel r.segments, nodeWays := s.te.nodeWays.wr r.parcel r.nodeWays } }
  let s := s.updPar r.parcel (fun x => { x with
    active := r.active == 1, sealed := r.sealed == 1, tally := r.tally == 1, floor := r.floor, engines := r.engines,
    slices := r.slices, dcWays := r.dcWays, controllers := r.controllers, qFirst := r.qFirst, qCount := r.qCount,
    linkShare := r.linkShare, sems := r.sems, sealKey := none, sealCount := 0, sealOffered := false })
  { s with plat := { s.plat with epoch := s.plat.epoch + 1 } }.platDone .ok

/-- PLAT_REQUEST (11 R399-R401; 16 R590, R615, R622). One request is served at a time. -/
def execPlatRequest (by' : Principal) (data : List Byte) (s : State) : Out :=
  .next (s.servedOpen 43 fun s =>
    if by' ≠ .hostk ∧ by' ≠ .surv then s.answer .denied
    else if !platFieldsOk data then s.answer .unsupported
    else if s.fatal ∨ s.svc.state ≠ 0 then s.answer .retired
    else if s.plat.waiting.isSome then s
    else
      let r := platReqOf data
      let s := { s with plat := { s.plat with result := {} } }.answer .ok
      match s.platRefusal r with
      | some st => s.platDone st
      | none =>
          if (s.platRemoved r).isEmpty then s.platApply r
          else { s with plat := { s.plat with waiting := some data } })

/-- PLAT_CLEAR_DONE (16 R622): the removed controllers hold zeros, and the change is made. -/
def execPlatClearDone (s : State) : Out :=
  .next (
    match s.plat.waiting with
    | some d => s.platApply (platReqOf d)
    | none => s)

/-! ## JOB_CONTROL (11 R402-R408) -/

/-- JOB_RESULT becomes ready (11 R403). -/
def State.jobDone (s : State) (st : Status) (id : Nat) (acct : List Byte) : State :=
  { s with jobResult := { ready := true, bytes := leBytes 1 st.code ++ leBytes 4 id ++ acct } }.answer .ok

/-- The gate of a JOB_CONTROL write (11 R403; 18 R680, R686; 20 R758): the answer where it is refused. -/
def State.jobGate (s : State) (by' : Principal) (parcel slot reserved : Byte) (create : Bool) : Option State :=
  if by' ≠ .hostk ∧ by' ≠ .rtp then some (s.answer .denied)
  else if parcel.toNat > 7 ∨ slot.toNat > 15 ∨ reserved ≠ 0 then some (s.answer .unsupported)
  else if s.fatal ∨ (create ∧ (s.svc.state ≠ 0 ∨ s.queuesRetired)) then some (s.answer .retired)
  else none

/-- The bytes of a metered job's record (11 Table 11.10). -/
def Acct.bytes (a : Acct) : List Byte :=
  leBytes 8 a.engineNs.toNat ++ (List.range 4).flatMap (fun k => leBytes 8 (a.bytesMc.getD k 0).toNat)
    ++ (List.range 8).flatMap (fun k => leBytes 8 (a.bytesSp.getD k 0).toNat) ++ leBytes 8 a.energyUj.toNat ++ leBytes 8 a.commands.toNat

/-- The slices a parcel has on the die of its images that has most (11 R417). -/
def State.saveSlices (s : State) (p : Nat) : Nat := Nat.max (popCount 16 (s.parcel p).slices) ((s.parcel p).others 4)

/-- The fixed part of a save image. -/
def saveHead (n : Nat) : Nat := 192 + 384 * n

/-- The stride of the save images (11 R417). -/
def State.saveStride (s : State) (p : Nat) : Nat :=
  let n := s.saveSlices p
  (saveHead n + 1024 * 3072 * n + 4095) / 4096 * 4096

/-- The number of dies of a parcel. -/
def State.parcelDies (s : State) (p : Nat) : Nat := if (s.parcel p).fabricId = 0 then 1 else (s.fabricDies (s.parcel p).fabricId).length

/-- Where this die's save image lies (11 R417). -/
def State.saveAt (s : State) (p : Nat) (j : Job) : Nat :=
  let d := if (s.parcel p).fabricId = 0 then 0 else ((s.fabricDies (s.parcel p).fabricId).findIdx? (· == s.dieId)).getD 0
  j.save + d * s.saveStride p

/-- What fetching bytes for a job gives: the bytes, a wait, or a failure. -/
inductive Fetch where
  | ok (bs : List Byte) (s : State)
  | wait (s : State)
  | fail (st : Status) (c : Cause) (s : State)

/-- Fetch bytes over pieces for a job's image, remote ones as bulk reads (14 R538); `keep` stays in the buffer for later phases. -/
def State.fetch (s : State) (p slot phase : Nat) (keep : Tab Byte) (ps : List Piece) (len : Nat) : Fetch :=
  let o : GOwner := .image p slot
  let start (s : State) : Fetch :=
    match s.readAll (.job p slot) 9 (s.parcel p).fabricId ps with
    | .ok bs s => .ok bs s
    | .wait s => .wait s
    | .start buf reqs s =>
        let buf := keep.foldl (fun (t : Tab Byte) (x : Nat × Byte) => t.wr x.1 x.2) buf
        .wait ((s.dropGather o).startGather { owner := o, phase := phase, todo := reqs, buf := buf })
    | .fail st c s => .fail st c s
  match s.gatherOf o with
  | some g =>
      if g.phase ≠ phase then start s
      else if !g.ready then .wait s
      else match g.failed with
        | some (st, c) => .fail st c (s.dropGather o)
        | none => .ok (memRead g.buf 0 len) s
  | none => start s

/-- Write bytes over pieces for a job's image, remote ones as bulk writes. -/
def State.land (s : State) (p slot phase : Nat) (ps : List Piece) (bs : List Byte) : Fetch :=
  let o : GOwner := .image p slot
  let start (s : State) : Fetch :=
    match s.writeAll (.job p slot) 0xA (s.parcel p).fabricId ps bs with
    | .ok s => .ok [] s
    | .wait s => .wait s
    | .start reqs s => .wait ((s.dropGather o).startGather { owner := o, phase := phase, todo := reqs })
    | .fail st c s => .fail st c s
  match s.gatherOf o with
  | some g =>
      if g.phase ≠ phase then start s
      else if !g.ready then .wait s
      else match g.failed with
        | some (st, c) => .fail st c (s.dropGather o)
        | none => .ok [] s
  | none => start s

/-- The header of a job image keeps Table 11.4. -/
def jobHeaderOk (h : List Byte) : Bool :=
  let cnt := field h 18 2
  let roff := field h 20 4
  let fo := field h 24 4
  let ib := field h 32 8
  field h 0 4 == 0x314A4E45 && field h 4 2 == 1 && decide (field h 6 2 ≤ 49152) && decide (1 ≤ field h 8 4 ∧ field h 8 4 ≤ 1048560)
    && decide (1 ≤ field h 12 4 ∧ field h 12 4 ≤ 1048560) && decide (1 ≤ field h 16 2) && decide (cnt ≤ 1024) && roff % 32 == 0
    && fo % 128 == 0 && zeros h 28 4 && decide (64 ≤ ib ∧ ib ≤ 2 ^ 40) && zeros h 40 24
    && (cnt == 0 || decide (roff + 32 * cnt ≤ ib)) && (fo == 0 || decide (fo < ib))

/-- Read a resident entry (11 Table 11.5). -/
def residentOf (b : List Byte) : Resident :=
  { kind := field b 0 1, scr := scrOperand (field b 4 4), src := field b 8 8, dst := field b 16 8, len := field b 24 8 }

/-- A resident entry keeps Table 11.5; a SCRATCH entry lies within its slice. -/
def residentOk (slices : Nat) (b : List Byte) : Bool :=
  let r := residentOf b
  let scr := field b 4 4
  zeros b 1 3 && decide (scr < 2 ^ 20)
    && (match r.kind with
      | 0 => scr == 0 && r.len % 4096 == 0
      | 1 => scr % 16 == 0 && r.len % 1024 == 0 && r.dst == 0 && decide (r.scr.slice < slices) && decide (64 * r.scr.off64 + r.len ≤ sliceBytes)
      | 2 => scr == 0 && r.dst == 0 && r.len % 4096 == 0
      | _ => false)

/-- Open a job's queues in order (11 R405); the first that is refused refuses the whole, and none stays open. -/
def openAll (p : Nat) (cfg : XlatConfig) (cached : Bool) : List Nat → State → OpenRes
  | [], s => .ok s
  | q :: qs, s =>
      match s.openQueue q p cfg cached with
      | .ok s => openAll p cfg cached qs s
      | r => r

/-- The checks of a CREATE that need no memory (11 R404): a refusal. -/
def State.createRefusal (s : State) (p slot qFirst qCount : Nat) : Option Status :=
  if (s.job p slot).st ≠ .ended then some .busy
  else if (List.range qCount).any (fun k => s.queueParcel (qFirst + k) != some p) then some .denied
  else none

/-- The extents of a region, or what a CREATE gives instead: a fault record is written, nothing parks (11 R404). -/
def State.createTr (s : State) (p q : Nat) (g : Region) (k : List Extent → State → State) : State :=
  match trRegion s p (s.xlat.cfg.rd p) true false 64 g with
  | .ok es s => k es s
  | .wait s => s
  | .fault c s => ((s.raiseFault q p c 0xFF g.dva g.access).1).jobDone .faulted 0 []

/-- Whether a CREATE's queues are free (11 R404). -/
def State.queuesFree (s : State) (qFirst qCount : Nat) : Bool :=
  (List.range qCount).all (fun k => (s.queue (qFirst + k)).st == .closed && (s.jobOf (qFirst + k)).isNone)

/-- Give a slot its job (11 R405): for a fabric parcel the lead's identifier (15 R574). -/
def State.createFinish (s : State) (p slot : Nat) (j : Job) : State :=
  let recId := ((s.agree.jobRecs.rd p).jobs.getD slot (0, 0)).1
  if !s.leads p && recId == 0 then s
  else
    let id := if s.leads p then s.nextJobId else recId
    let s' := s.updJob p slot (fun _ => { j with id := BitVec.ofNat 32 id, st := .waiting })
    match openAll p j.cfg (decide (j.cfg = s.xlat.cfg.rd p)) j.queues s' with
    | .wait s => { s with jobs := s.jobs.wr (p * 16 + slot) {}, queues := j.queues.foldl (fun (t : Tab Queue) q => t.upd q (fun y => { y with st := .closed })) s.queues }
    | .refused st s =>
        let s := j.queues.foldl (fun (s : State) q => s.updQ q (fun y => { y with st := .closed, descRing := [], cplRing := [] })) s
        { s with jobs := s.jobs.wr (p * 16 + slot) {} }.jobDone st 0 []
    | .ok s =>
        let s := if s.leads p then { s with nextJobId := s.nextJobId + 1 } else s
        let s := s.updPar p (fun x => { x with created := x.created + 1 })
        ((s.jobEpochUp p).refreshJobs p).jobDone .ok id []

/-- The rest of a CREATE once header and resident table are here (11 R404, R405, R417; 01 R28). -/
def State.createChecked (s : State) (p slot qFirst qCount image save saveBytes : Nat) (h table : List Byte) : State :=
  let x := s.parcel p
  let q := if qCount = 0 then 0xFFFF else qFirst
  s.createTr p q { dva := save, len := saveBytes, r := true, w := true } (fun es s =>
    let refuse (st : Status) : State := s.jobDone st 0 []
    let entries := entriesOf (field h 18 2) 32 table
    let slices := x.others 1 + popCount 16 x.slices + x.others 3
    let engines := x.others 0 + popCount 16 x.engines + x.others 2
    if x.sealed ∧ es.any (s.unsealedExt p) then refuse .denied
    else if !jobHeaderOk h || !entries.all (residentOk slices) then refuse .unsupported
    else if field h 8 4 > engines ∨ field h 12 4 > slices ∨ field h 16 2 > s.parcelDies p then refuse .unsupported
    else if !s.queuesFree qFirst qCount then refuse .unsupported
    else if saveBytes < s.parcelDies p * s.saveStride p then refuse .unsupported
    else s.createFinish p slot { cfg := s.xlat.cfg.rd p, image := image, imageBytes := field h 32 8, liveBudget := field h 6 2,
                                 residents := entries.map residentOf, forestOff := field h 24 4, save := save,
                                 qFirst := qFirst, qCount := qCount })

/-- JOB_CREATE (11 R402-R405): the image is read through the parcel's configuration as it stands. -/
def execJobCreate (by' : Principal) (parcel slot reserved : Byte) (qFirst qCount : U16) (image save saveBytes : U64) (s : State) : Out :=
  .next (s.servedOpen 47 fun s =>
    match s.jobGate by' parcel slot reserved true with
    | some s => s
    | none =>
        let p := parcel.toNat
        let k := slot.toNat
        let o : GOwner := .image p k
        let q := if qCount = 0 then 0xFFFF else qFirst.toNat
        let s := { s with jobResult := {} }
        if (match s.plat.waiting with | some d => (platReqOf d).parcel == p | none => false) then s
        else match s.createRefusal p k qFirst.toNat qCount.toNat with
          | some st => s.jobDone st 0 []
          | none =>
              let fail (s : State) : State := (s.dropGather o).jobDone .faulted 0 []
              s.createTr p q { dva := image.toNat, len := 64, r := true, mis := image.toNat % 128 ≠ 0 } (fun es s =>
                let head : Fetch := match s.gatherOf o with
                  | some g => if g.phase = 1 then .ok (memRead g.buf (2 ^ 20) 64) s
                      else s.fetch p k 0 [] ((runPieces es image.toNat 64).getD []) 64
                  | none => s.fetch p k 0 [] ((runPieces es image.toNat 64).getD []) 64
                match head with
                | .wait s => s
                | .fail _ _ s => fail s
                | .ok h s =>
                    let cnt := field h 18 2
                    let off := image.toNat + field h 20 4
                    let n := if cnt ≤ 1024 ∧ field h 20 4 % 32 = 0 then 32 * cnt else 0
                    s.createTr p q { dva := off, len := n, r := true } (fun es s =>
                      match s.fetch p k 1 (memWrite [] (2 ^ 20) h) ((runPieces es off n).getD []) n with
                      | .wait s => s
                      | .fail _ _ s => fail s
                      | .ok t s => (s.dropGather o).createChecked p k qFirst.toNat qCount.toNat image.toNat save.toNat saveBytes.toNat h t)))

/-- The energy that a job's islands took joins its account (11 Table 11.10). -/
def State.meter (s : State) (p slot : Nat) : State :=
  if (s.parcel p).tally then s
  else (s.updJob p slot (fun j => { j with acct := { j.acct with energyUj := j.acct.energyUj + BitVec.ofNat 64 (Config.energyUj s.freeCtr) } })).bump

/-- The parcel has no holder: what belonged to it is cleared (11 Table 11.8, steps 3-4; R418). -/
def State.leaveParcel (s : State) (p : Nat) : State :=
  (s.clearParcel p).updPar p (fun x => { x with holder := none, switch := none, sliceEnd := none, expired := none, graceOver := false,
                                                ordered := none, flags := [], flagWaits := [], firstFree := [] })

/-- The end of a destroyed job (11 R407, R428-R430; 12 R460; 13 R480). -/
def State.destroyJob (s : State) (p slot : Nat) : State :=
  let j := s.job p slot
  let acct := if (s.parcel p).tally then [] else j.acct.bytes
  let s := j.queues.foldl (fun (s : State) q => (s.discardCmds q).closeQueue q) s
  let s := ((s.freeCaddy p slot).stopStreams j.id.toNat).dropGather (.image p slot)
  let s := { s with jobs := s.jobs.wr (p * 16 + slot) {} }
  let s := s.updPar p (fun x => { x with ended := x.ended + 1 })
  (((s.jobEpochUp p).settleDeferred p).refreshJobs p).jobDone .ok j.id.toNat acct

/-- A job whose DESTROY has been accepted ends: a holder once no command of it is running, its parcel cleared with no save (11 R407). -/
def State.endJob (s : State) (p slot : Nat) : State :=
  if (s.job p slot).st = .switching then s
  else if (s.parcel p).holder = some slot then
    if s.jobBusy p slot then s else ((s.meter p slot).leaveParcel p).destroyJob p slot
  else s.destroyJob p slot

/-- JOB_DESTROY (11 R407): a holder's running commands complete first, and the parcel is cleared with no save; a job in a switch is
destroyed after it. JOB_BOUNDARY carries on what waits. -/
def execJobDestroy (by' : Principal) (parcel slot reserved : Byte) (s : State) : Out :=
  .next (s.served 35 fun s =>
    match s.jobGate by' parcel slot reserved false with
    | some s => s
    | none =>
        let p := parcel.toNat
        let k := slot.toNat
        let j := s.job p k
        let s := { s with jobResult := {} }
        if j.st = .ended then s.jobDone .unsupported 0 []
        else
          let s := s.updJob p k (fun j => { j with ending := true })
          let s := if (s.parcel p).holder = some k then s.updPar p (fun x => { x with graceOver := true }) else s
          (s.answer .ok).endJob p k)

/-- JOB_RESUME (11 R408). -/
def execJobResume (by' : Principal) (parcel slot reserved : Byte) (s : State) : Out :=
  .next (s.served 35 fun s =>
    match s.jobGate by' parcel slot reserved false with
    | some s => s
    | none =>
        let p := parcel.toNat
        let k := slot.toNat
        let j := s.job p k
        let s := { s with jobResult := {} }
        if j.st = .suspended then
          ((s.updJob p k (fun j => { j with st := .waiting, suspendReq := false })).refreshJobs p).jobDone .ok j.id.toNat []
        else s.jobDone .unsupported j.id.toNat [])

/-- JOB_FAULT (11 R425-R427): counted with VALUE 0. -/
def execJobFault (by' : Principal) (parcel slot reserved : Byte) (s : State) : Out :=
  .next (s.served 35 fun s =>
    match s.jobGate by' parcel slot reserved false with
    | some s => s
    | none =>
        let j := s.job parcel.toNat slot.toNat
        let s := { s with jobResult := {} }
        if j.st = .ended then s.jobDone .unsupported 0 []
        else (s.faultJob parcel.toNat slot.toNat 0).jobDone .ok j.id.toNat [])

/-! ## Live state and the switch out (11 R413-R420) -/

/-- A bitmap of granules, 384 bytes. -/
def granMap (gs : List Nat) : List Byte :=
  (List.range 384).map (fun i => BitVec.ofNat 8 ((gs.filter (fun g => g / 8 == i)).foldl (fun a g => a + 2 ^ (g % 8)) 0))

/-- The save image of a job (11 Table 11.7). -/
def State.saveImage (s : State) (p slot : Nat) : List Byte :=
  let sls := maskBits 16 (s.parcel p).slices
  let live := sls.map (fun sl => (sl, s.liveOf p slot sl))
  leBytes 4 (s.job p slot).id.toNat ++ leBytes 4 (s.liveCount p slot) ++ List.replicate 56 0#8
    ++ (List.range 64).flatMap (fun f => leBytes 2 ((s.parcel p).flags.rd f))
    ++ (List.range (s.saveSlices p)).flatMap (fun k => granMap ((live.getD k (0, [])).2))
    ++ live.flatMap (fun (x : Nat × List Nat) => x.2.flatMap (fun g => memRead (s.slc.rd x.1).bytes (1024 * g) 1024))

/-- The outgoing job leaves the parcel, saved (11 R418-R420), and the incoming one begins. -/
def State.switchedOut (s : State) (p slot : Nat) : State :=
  let inc := match (s.parcel p).switch with | some w => w.incoming | none => 16
  let n := s.liveCount p slot
  let s := ((s.meter p slot).dropGather (.image p slot)).leaveParcel p
  let s := if (s.job p slot).suspendReq then s.jobDone .ok (s.job p slot).id.toNat [] else s
  let s := s.updJob p slot (fun j => { j with saved := true, lastSaved := BitVec.ofNat 16 n, suspendReq := false,
                                              st := if j.suspendReq then .suspended else .waiting })
  let s := s.judgeJobs p
  if inc < 16 ∧ ((s.job p inc).st = .ready ∨ s.leads p = false) ∧ (s.job p inc).st ≠ .faulted ∧ (s.job p inc).st ≠ .ended then s.beginSwitchIn p inc
  else s.pickNext p ((slot + 1) % 16)

/-- Steps 1 and 2 of a switch (11 Table 11.8): the outgoing job is saved; a fault in step 2 faults it (R423). -/
def State.switchOut (s : State) (p slot next : Nat) : State :=
  let s := match (s.parcel p).switch with
    | some _ => s
    | none =>
        let s := s.updJob p slot (fun j => { j with st := .switching, switches := j.switches + 1 })
        (s.updPar p (fun x => { x with switch := some { incoming := next, saving := true } })).jobEpochUp p
  let j := s.job p slot
  let bs := s.saveImage p slot
  let at' := s.saveAt p j
  let q := if j.qCount = 0 then 0xFFFF else j.qFirst
  match trRegion s p j.cfg true false 64 { dva := at', len := bs.length, w := true } with
  | .wait s => s
  | .fault c s => ((s.raiseFault q p c 0xFF at' 2).1).faultJob p slot c.code
  | .ok es s =>
      match s.land p slot 1 ((runPieces es at' bs.length).getD []) bs with
      | .wait s => s
      | .fail _ c s => s.faultJob p slot c.code
      | .ok _ s => s.switchedOut p slot

/-- A job whose SUSPEND has been accepted leaves scheduling (11 R408): a holder once no command of it is running, its live state saved;
one that has faulted since cannot. -/
def State.suspendJob (s : State) (p slot : Nat) : State :=
  let j := s.job p slot
  let off (s : State) (st : JobSt) : State := s.updJob p slot (fun j => { j with suspendReq := false, st := st })
  match j.st with
  | .switching => s
  | .holding => if s.jobBusy p slot then s else s.switchOut p slot ((s.judgeJobs p).nextReady p ((slot + 1) % 16) |>.getD 16)
  | .faulted => (off s .faulted).jobDone .unsupported j.id.toNat []
  | .ended => s
  | _ => (off s .suspended).jobDone .ok j.id.toNat []

/-- JOB_SUSPEND (11 R408): a holder's slice ends with a grace of 0, its commands complete and its live state is saved; a job in a switch
is suspended after it. JOB_BOUNDARY carries on what waits. -/
def execJobSuspend (by' : Principal) (parcel slot reserved : Byte) (s : State) : Out :=
  .next (s.served 35 fun s =>
    match s.jobGate by' parcel slot reserved false with
    | some s => s
    | none =>
        let p := parcel.toNat
        let k := slot.toNat
        let j := s.job p k
        let s := { s with jobResult := {} }
        if j.st = .ended ∨ j.st = .faulted then s.jobDone .unsupported j.id.toNat []
        else
          let s := s.updJob p k (fun j => { j with suspendReq := true })
          let s := if (s.parcel p).holder = some k then s.updPar p (fun x => { x with graceOver := true }) else s
          (s.answer .ok).suspendJob p k)

/-! ## Time slices (11 R409-R416) -/

/-- A quantum and a grace in ns. -/
def msNs (n : Nat) : Nat := n * 1000000

/-- A job becomes HOLDING and its slice begins (11 R410, Table 11.8 step 8). -/
def State.hold (s : State) (p slot : Nat) : State :=
  let s := s.updJob p slot (fun j => { j with st := .holding })
  s.updPar p (fun x => { x with holder := some slot, switch := none, ordered := none, expired := none, graceOver := false,
                                sliceEnd := some (s.now + msNs x.quantumMs) })

/-- The READY job that would follow the holder (11 R410). -/
def State.follower (s : State) (p slot : Nat) : Option Nat :=
  (s.judgeJobs p).nextReady p ((slot + 1) % 16)

/-- SLICE_EXPIRY (11 R410, R411): on the lead die; with no other job READY the holder keeps the parcel for another slice. -/
def execSliceExpiry (p : Fin 8) (s : State) : Out :=
  .next (
    let x := s.parcel p
    match x.holder with
    | none => s
    | some h =>
        if x.switch.isSome || x.expired.isSome || (s.job p h).st != .holding || (s.job p h).suspendReq || (s.job p h).ending
            || !s.leads p then s
        else
          let next := s.follower p h
          let idle := !s.runnable p h && !s.jobBusy p h
          if next.isSome ∧ idle then (s.judgeJobs p).updPar p (fun x => { x with expired := some s.now })
          else
            let s := s.reach (x.sliceEnd.getD s.now)
            if next.isSome then (s.judgeJobs p).updPar p (fun x => { x with expired := some s.now })
            else s.updPar p (fun x => { x with sliceEnd := some (s.now + msNs x.quantumMs) }))

/-- GRACE_EXPIRY (11 R415): no further command of the holder starts. -/
def execGraceExpiry (p : Fin 8) (s : State) : Out :=
  .next (
    let x := s.parcel p
    match x.expired with
    | some t => if x.graceOver then s else (s.reach (t + msNs x.graceMs)).updPar p (fun x => { x with graceOver := true })
    | none => s)

/-- The slot of a job that waits to be destroyed or suspended and can be now (11 R407, R408). -/
def State.endsDue (s : State) (p : Nat) : Option Nat :=
  (List.range 16).find? (fun k =>
    let j := s.job p k
    (j.ending || j.suspendReq) && j.st != .switching && j.st != .ended && !((s.parcel p).holder == some k && s.jobBusy p k))

/-- JOB_BOUNDARY (11 R413-R420; 15 R575): a DESTROY or SUSPEND that waited goes on. With no command of the holder running, after expiry,
at a cheap point or once grace is over, the switch begins; on another die than the lead once the lead has ordered it. -/
def execJobBoundary (p : Fin 8) (s : State) : Out :=
  .next (
    let x := s.parcel p
    match s.endsDue p with
    | some k => if (s.job p k).ending then s.endJob p k else s.suspendJob p k
    | none =>
        match x.holder with
        | none =>
            match x.ordered, x.switch with
            | some k, none => if k < 16 ∧ (s.job p k).st ≠ .ended ∧ (s.job p k).st ≠ .faulted then s.beginSwitchIn p k else s
            | _, _ => s
        | some h =>
            match x.switch with
            | some w => if w.saving then s.switchOut p h w.incoming else s
            | none =>
                if (s.job p h).st ≠ .holding ∨ s.jobBusy p h = true ∨ (s.job p h).suspendReq = true ∨ (s.job p h).ending = true then s
                else match x.ordered, x.expired with
                  | some k, _ => if s.leads p then s else s.switchOut p h k
                  | none, none => s
                  | none, some t =>
                      let live := s.liveCount p h
                      let cheap := decide (live ≤ (s.job p h).liveBudget)
                      if !cheap && !x.graceOver then s
                      else
                        let late := s.now - t - msNs x.quantumMs
                        let s := if s.now > t + msNs x.quantumMs then s.emit 57 0x350 p (late / 1000000) else s
                        match s.follower p h with
                        | none => s.hold p h
                        | some k =>
                            let s := if cheap then s else s.emit 57 0x351 p live
                            (s.judgeJobs p).switchOut p h k)

/-! ## Infusion and restore (11 R420-R424) -/

/-- What a part of infusion gives. -/
inductive Infuse where
  | ok (s : State)
  | wait (s : State)
  | fault (c : Cause) (s : State)

/-- Translate a region of an infusion through the incoming job's configuration; a fault writes a record and parks nothing. -/
def State.infTr (s : State) (p slot : Nat) (g : Region) (k : List Extent → State → Infuse) : Infuse :=
  let j := s.job p slot
  match trRegion s p j.cfg true false 64 g with
  | .ok es s => k es s
  | .wait s => .wait s
  | .fault c s => .fault c (s.raiseFault (if j.qCount = 0 then 0xFFFF else j.qFirst) p c 0xFF g.dva g.access).1

/-- The pieces of a run, all of them. -/
def piecesOf (es : List Extent) (dva len : Nat) : List Piece := (runPieces es dva len).getD []

/-- Put bytes into granules as DMA_IN would set them (11 R422, 03 R81). -/
def State.fillGran (s : State) (sl off : Nat) (bs : List Byte) : State :=
  s.updSlc sl (fun y =>
    let y := y.store off bs
    { y with gran := (granules off bs.length).foldl (fun (t : Tab Gran) g => t.wr g { st := .present, readers := 0 }) y.gran })

/-- Infuse one resident entry (11 R420 step 6, R422; 16 R619), in phases 2k+2 and 2k+3 of the job's transfer. -/
def State.infuseOne (s : State) (p slot k : Nat) (r : Resident) : Infuse :=
  let ph := 2 * k + 2
  s.infTr p slot { dva := r.src, len := r.len, r := true } (fun es s =>
    match r.kind with
    | 2 =>
        match s.readPieces (.job p slot) ((piecesOf es r.src r.len).filter (fun x => x.back == .loc && !x.nocache)) with
        | .ok _ s => .ok s
        | .wait s => .wait s
        | .remote _ _ => .ok s
        | .fail _ c => .fault c s
    | 1 =>
        match s.fetch p slot ph [] (piecesOf es r.src r.len) r.len, (s.parcel p).sliceOf r.scr.slice with
        | .ok bs s, some sl => .ok (s.fillGran sl (64 * r.scr.off64) bs)
        | .ok _ s, none => .ok s
        | .wait s, _ => .wait s
        | .fail _ c s, _ => .fault c s
    | _ =>
        s.infTr p slot { dva := r.dst, len := r.len, w := true } (fun ds s =>
          if (s.parcel p).sealed ∧ ds.any (s.unsealedExt p) then .fault .none (s.emit 57 0x505 p p)
          else
            let writing : Bool := match s.gatherOf (.image p slot) with | some g => g.phase == ph + 1 | none => false
            let put (s : State) (bs : List Byte) : Infuse := match s.land p slot (ph + 1) (piecesOf ds r.dst r.len) bs with
              | .ok _ s => .ok s
              | .wait s => .wait s
              | .fail _ c s => .fault c s
            if writing then put s []
            else match s.fetch p slot ph [] (piecesOf es r.src r.len) r.len with
              | .ok bs s => put s bs
              | .wait s => .wait s
              | .fail _ c s => .fault c s))

/-- Bind the forest of a job's image (11 R420 step 6). -/
def State.infuseForest (s : State) (p slot : Nat) : Infuse :=
  let j := s.job p slot
  let at' := j.image + j.forestOff
  if j.forestOff = 0 then .ok s
  else s.infTr p slot { dva := at', len := 128, r := true } (fun es s =>
    match s.readDva (.job p slot) es at' 128 with
    | .wait s => .wait s
    | .remote _ _ => .fault .exec s
    | .fail _ c => .fault c s
    | .ok h s =>
        let n := field h 32 8
        s.infTr p slot { dva := at', len := n, r := true } (fun es s =>
          match s.bindForest p at' n es with
          | .ok _ s => .ok s
          | .wait s => .wait s
          | .remote _ _ => .fault .exec s
          | .fail _ c => .fault c s))

/-- Infuse the entries from the one in progress on, then the forest (11 R420, R422). -/
def infuseGo (p slot : Nat) : List Resident → Nat → State → Infuse
  | [], _, s => s.infuseForest p slot
  | r :: rs, k, s =>
      match s.infuseOne p slot k r with
      | .ok s => infuseGo p slot rs (k + 1) ((s.dropGather (.image p slot)).updPar p (fun x =>
          { x with switch := x.switch.map (fun w => { w with entry := k + 1 }) }))
      | r => r

/-- The granules of a save image: slice index and granule, in image order. -/
def savedGrans (n : Nat) (b : List Byte) : List (Nat × Nat) :=
  (List.range n).flatMap (fun k => (maskBits 3072 (field b (192 + 384 * k) 384)).map (fun g => (k, g)))

/-- Restore the live granules and flags of a job that was saved (11 Table 11.8 step 7); an image that holds more granules than were
saved faults it. -/
def State.restore (s : State) (p slot : Nat) : Infuse :=
  let j := s.job p slot
  if !j.saved then .ok s
  else
    let n := s.saveSlices p
    let len := saveHead n + 1024 * j.lastSaved.toNat
    let at' := s.saveAt p j
    s.infTr p slot { dva := at', len := len, r := true } (fun es s =>
      match s.fetch p slot 1 [] (piecesOf es at' len) len with
      | .wait s => .wait s
      | .fail _ c s => .fault c s
      | .ok b s =>
          let gs := (savedGrans n b).take (field b 4 4)
          if gs.length > j.lastSaved.toNat then .fault .exec s
          else
            let sls := maskBits 16 (s.parcel p).slices
            let s := gs.zipIdx.foldl (fun (s : State) (x : (Nat × Nat) × Nat) =>
              match sls[x.1.1]? with
              | some sl => s.fillGran sl (1024 * x.1.2) (slice b (saveHead n + 1024 * x.2) 1024)
              | none => s) s
            let fl := (List.range 64).foldl (fun (t : Tab Nat) f => t.wr f (field b (64 + 2 * f) 2)) []
            .ok (s.updPar p (fun x => { x with flags := fl })))

/-- Every member of a fabric parcel has reported step 7 of the switch (15 R575). -/
def State.allSwitched (s : State) (p : Nat) : Bool :=
  let f := (s.parcel p).fabricId
  (s.fabricDies f).all (fun d => d == s.dieId || s.agree.switchDone.contains (f, d))

/-- The lead makes the incoming job HOLDING once every member has reported (15 R575 step 4). -/
def State.leadSwitch (s : State) (p : Nat) : State :=
  match (s.parcel p).switch with
  | some w =>
      if w.done && s.leads p && s.allSwitched p then
        let f := (s.parcel p).fabricId
        let s := { s with agree := { s.agree with switchDone := s.agree.switchDone.filter (fun (x : Nat × Nat) => x.1 != f) } }
        (s.hold p w.incoming).jobEpochUp p
      else s
  | none => s

/-- The incoming job's switch is over on this die (11 R424, Table 11.8 step 8; 15 R575). -/
def State.switchedIn (s : State) (p slot : Nat) : State :=
  let x := s.parcel p
  let s := s.dropGather (.image p slot)
  if x.fabricId = 0 then s.hold p slot
  else
    let s := s.updPar p (fun x => { x with switch := x.switch.map (fun w => { w with done := true }) })
    if s.leads p then s.leadSwitch p
    else s.writeTo x.leadDie 0x4109 0 (leBytes 2 x.fabricId ++ leBytes 8 (s.agree.jobRecs.rd p).epoch)

/-- SWITCH_IN_COMPLETE (11 Table 11.8 steps 5-8, R421-R424): the configuration is installed, the image infused and the live state
restored; a failure faults the incoming job (R423). -/
def execSwitchInComplete (p : Fin 8) (s : State) : Out :=
  .next (
    match (s.parcel p).switch with
    | none => s
    | some w =>
        if w.saving || w.done || decide (w.incoming ≥ 16) then s
        else
          let k := w.incoming
          let j := s.job p k
          let s := if w.entry = 0 ∧ (s.gatherOf (.image p k)).isNone then
              { s with xlat := { s.xlat with cfg := s.xlat.cfg.wr p j.cfg } }.cacheDrop p 0 (2 ^ 48)
            else s
          match infuseGo p k (j.residents.drop w.entry) w.entry s with
          | .wait s => s
          | .fault c s => s.faultJob p k c.code
          | .ok s =>
              match s.restore p k with
              | .wait s => s
              | .fault c s => s.faultJob p k c.code
              | .ok s => s.switchedIn p k)

end Sys2Proof.Machine
end

