-- ==== Sys2Proof/Machine/Ports.lean ====
section
/-! DEFINITION. The Statislink ports: reception of flits and control flits, training, sparing, retraining and the guard of a
lost link (14 R512-R530, R544-R546). -/
namespace Sys2Proof.Machine
open Sys2Proof

/-! ## Reception -/

/-- Assemble the messages of a received stream (14 R512, R537): zero bytes between messages fill a flit; a message ends its
header's length later. Answers the messages and what is left. -/
def assemble : Nat → List (Byte × Bool) → List Msg → List Msg × List (Byte × Bool)
  | 0, bs, acc => (acc, bs)
  | n + 1, bs, acc =>
      match bs with
      | [] => (acc, [])
      | (b, _) :: rest =>
          if b = 0#8 then assemble n rest acc
          else if bs.length < 16 then (acc, bs)
          else
            let h := (bs.take 16).map (·.1)
            let op := field h 0 1
            let ctl := field h 1 1
            let addr := field h 10 6
            let len := payloadLen op ctl addr
            if bs.length < 16 + len then (acc, bs)
            else
              let body := (bs.drop 16).take len
              let m : Msg := { op := op, ctl := ctl, dest := field h 2 2, src := field h 4 2, tag := field h 6 2,
                               fabric := field h 8 2, addr := addr, payload := body.map (·.1),
                               kept := body.findIdx? (·.2) }
              assemble n (bs.drop (16 + len)) (acc ++ [m])

/-- A contribution's first hop names the collective window: its context's unit takes it (14 R555). Every other message goes
to the router. -/
def State.routeAll (s : State) (p cls : Nat) (ms : List Msg) : State := ms.foldl (fun s m => s.route (some p) cls m) s

/-- Whole messages of a stream go to the router. -/
def State.drain (s : State) (p k : Nat) : State :=
  let (ms, rest) := assemble 4096 ((s.port p).rxIn.rd k) []
  let s := s.updPort p (fun x =>
    let marks := if k / 2 = 7 then ms.map (fun _ => x.closeAt) else []
    { x with rxIn := x.rxIn.wr k rest, closeGot := x.closeGot ++ marks })
  s.routeAll p (k % 2) ms

/-- Release a verified record (14 R520, R523): each content flit is decrypted and joins its stream; whole messages go to the router.
A VC7 message that begins in a flit is remembered with what had been received before that flit (15 R584, R585): `before` is the
count before the record. -/
def State.releaseRecord (s : State) (p key nonce : Nat) (before : List Nat) : State :=
  let fs := contentFlits (s.port p).rxRec
  let r := (fs.zipIdx).foldl (fun (r : State × List Nat) (f : List Byte × Nat) =>
    let s := r.1
    let h := field f.1 0 4
    let k := bitsOf h 27 27 + 2 * bitsOf h 26 24
    let bs := (gcmXor key nonce (56 * f.2) (slice f.1 4 56)).map (fun b => (b, bitAt h 28))
    let fresh := (s.port p).rxIn.rd k
    let s := s.updPort p (fun x => { x with rxIn := x.rxIn.upd k (· ++ bs),
                                            closeAt := if k / 2 = 7 ∧ fresh.isEmpty then r.2 else x.closeAt })
    let s := if k / 2 = 7 then s.drain p k else s
    (s, listSet r.2 k (r.2.getD k 0 + 1))) (s, before)
  (List.range 16).foldl (fun s k => s.drain p k) r.1

/-- An acknowledgement frees the replay buffer up to its FSEQ (14 R514). -/
def Port.acked (x : Port) (ack : Nat) : Port :=
  let first := (x.txSeq + 4096 - x.replay.length) % 4096
  let n := (ack + 1 + 4096 - first) % 4096
  if n ≤ x.replay.length then { x with replay := x.replay.drop n } else x

/-- The first flit out of order is answered with a NAK of the FSEQ expected (14 R513). -/
def State.nakOnce (s : State) (p : Nat) : State :=
  if (s.port p).naked then s
  else (s.updPort p (fun x => { x with naked := true })).sendCtrl p 2 (leBytes 3 0 ++ leBytes 2 (s.port p).rxSeq)

/-- A port enters RETRAIN (14 R530). -/
def State.enterRetrain (s : State) (p : Nat) : State :=
  let s := s.updPort p (fun x => { x with st := .retrain, limitAt := s.now + 2000000,
                                          stats := { x.stats with retrains := x.stats.retrains + 1 } })
  s.emit (72 + p) 0x403 0xFF p

/-- A tag flit ends a record (14 R520): a tag that verifies releases the content; one that fails discards the record and
NAKs its first FSEQ, and the third failure in a row retrains the port for a new key. -/
def State.recordTag (s : State) (p : Nat) (raw : List Byte) : State :=
  let x := s.port p
  let h := field raw 0 4
  let phase := bitAt h 31
  let key := if phase = x.rxPhase then x.rxKey else x.rxNext
  let fs := contentFlits x.rxRec
  let seqs := x.rxRec.filter (fun f => !bitAt (field f 0 4) 30)
  let nonce := if phase = x.rxPhase then x.rxCount - seqs.length - 1 else 0
  let good := match key with
    | some k => slice raw 4 16 == padTo 16 (Config.gcmTag k nonce (recordAad x.rxRec) (recordText x.rxRec))
        && field raw 20 2 == fs.length
    | none => false
  let k := bitsOf h 27 27 + 2 * bitsOf h 26 24
  if good then
    let counts := (seqs.map (fun f => bitsOf (field f 0 4) 27 27 + 2 * bitsOf (field f 0 4) 26 24)) ++ [k]
    let before := counts.foldl (fun (l : List Nat) j => listSet l j (l.getD j 0 - 1)) ((List.range 16).map (fun j => x.got.rd j))
    let s := s.releaseRecord p (key.getD 0) nonce before
    let gave := (fs.map (fun f => bitsOf (field f 0 4) 27 27 + 2 * bitsOf (field f 0 4) 26 24)) ++ [k]
    s.updPort p (fun x =>
      let x := { x with credGiven := gave.foldl (fun (t : Tab Nat) j => t.upd j (· + 1)) x.credGiven, credDirty := true,
                        rxRec := [], recFails := 0 }
      if phase = x.rxPhase then x
      else { x with rxKey := x.rxNext, rxNext := none, rxPhase := phase, rxCount := seqs.length + 1 })
  else
    let back := (seqs.map (fun f => bitsOf (field f 0 4) 27 27 + 2 * bitsOf (field f 0 4) 26 24)) ++ [k]
    let first := (x.rxSeq + 4096 - seqs.length - 1) % 4096
    let s := s.emit (72 + p) 0x401 0xFF p
    let s := s.updPort p (fun x => { x with rxSeq := first, rxCount := x.rxCount - seqs.length - 1, rxRec := [],
                                            got := back.foldl (fun (t : Tab Nat) j => t.upd j (· - 1)) x.got,
                                            recFails := x.recFails + 1, naked := false,
                                            stats := { x.stats with tagFails := x.stats.tagFails + 1 } })
    let s := s.nakOnce p
    if (s.port p).recFails ≥ 3 then (s.updPort p (fun x => { x with recFails := 0, rekeyDue := true })).enterRetrain p else s

/-- A sequenced flit (14 R513, R522): the expected FSEQ is taken; any other is discarded. -/
def State.rxSeqFlit (s : State) (p : Nat) (raw : List Byte) : State :=
  let h := field raw 0 4
  let x := s.port p
  let k := bitsOf h 27 27 + 2 * bitsOf h 26 24
  if h % 4096 ≠ x.rxSeq then
    if (h + 4096 - x.rxSeq) % 4096 < 2048 then s.nakOnce p else s
  else
    let s := s.updPort p (fun x => { x with rxSeq := (x.rxSeq + 1) % 4096, rxCount := x.rxCount + 1, naked := false,
                                            got := x.got.upd k (· + 1) })
    if bitAt h 29 then s.recordTag p raw
    else s.updPort p (fun x => { x with rxRec := x.rxRec ++ [raw] })

/-! ## Control flits (14 R515) -/

/-- IDLE (14 R515): only its acknowledgement. -/
def State.rxAck (s : State) (p ack : Nat) : State := (s.updPort p (fun x => x.acked ack)).pump p

/-- IDLE. -/
def execIdle (p : Fin 8) (ack : Fin 4096) (s : State) : Out := .next (s.rxAck p ack)

/-- A cumulative total modulo 65,536 as the count it stands for, at or above what was known. -/
def unwrap16 (known v : Nat) : Nat := known + (v + 65536 - known % 65536) % 65536

/-- CREDIT (14 R515, R522): cumulative totals per stream since link-up, modulo 65,536. -/
def State.rxCredit (s : State) (p : Nat) (totals : List Nat) : State :=
  (s.updPort p (fun x => { x with credBack := totals.zipIdx.foldl (fun (t : Tab Nat) (v : Nat × Nat) =>
    let n := unwrap16 (t.rd v.2) v.1
    if n ≤ x.sent.rd v.2 then t.wr v.2 n else t) x.credBack })).pump p

/-- CREDIT. -/
def execCredit (p : Fin 8) (totals : List U16) (s : State) : Out := .next (s.rxCredit p ((totals.take 16).map (·.toNat)))

/-- NAK (14 R513): every sequenced flit from the named FSEQ on is sent again, unchanged (R519). -/
def State.rxNak (s : State) (p fseq : Nat) : State :=
  let s := s.updPort p (fun x => x.acked ((fseq + 4095) % 4096))
  ((s.port p).replay).foldl (fun s f => s.send (.flit p f)) s

/-- NAK. -/
def execNak (p : Fin 8) (fseq : Fin 4096) (s : State) : Out := .next (s.rxNak p fseq)

/-- RETRAIN_REQ (14 R530): RETRAIN at the requested speed. -/
def State.rxRetrain (s : State) (p speed : Nat) : State :=
  if (s.port p).st ≠ .active ∨ speed > 1 then s else (s.updPort p (fun x => { x with speed := speed })).enterRetrain p

/-- RETRAIN_REQ. -/
def execRetrainReq (p : Fin 8) (speed : Byte) (s : State) : Out := .next (s.rxRetrain p speed.toNat)

/-! ## The guard of a lost link (14 R545, R546) -/

/-- Complete the messages being received on a port: what arrived stands, the rest is padding (14 R545 step 1, R546). -/
def State.completeRx (s : State) (p : Nat) : State :=
  (List.range 16).foldl (fun s k =>
    let bs := (s.port p).rxIn.rd k
    let s := s.updPort p (fun x => { x with rxIn := x.rxIn.wr k [] })
    if bs.length < 16 then s
    else
      let h := (bs.take 16).map (·.1)
      let len := payloadLen (field h 0 1) (field h 1 1) (field h 10 6)
      let full := bs ++ List.replicate (16 + len - bs.length) (0#8, true)
      let nulls := (len + 127) / 128 - (bs.length - 16) / 128
      (s.routeAll p (k % 2) (assemble 4096 full []).1).emit (72 + p) 0x408 0xFF nulls) s

/-- The guard (14 R545). -/
def State.guardPort (s : State) (p : Nat) : State :=
  let s := s.completeRx p
  let s := s.updPort p (fun x => { x with out := [], sent := [], got := [], credGiven := [], credBack := [], credDirty := false,
                                          closeAt := [], closeGot := [], replay := [], txRec := [], rxRec := [], naked := false, recFails := 0, rxSeq := 0,
                                          txSeq := 0 })
  let s := { s with fab := { s.fab with waitOut := s.fab.waitOut.filter (fun w => !(w.1 == p && (msgVc w.2.2.op) == some 2)) } }
  s.endTagsTo (s.peerDie p) .truncated

/-- A RESET_NOTICE: the guard runs and the loss is reported without a probe (14 R545; 15 R570, R571). -/
def State.rxReset (s : State) (p : Nat) : State :=
  if (s.port p).st ≠ .active ∧ (s.port p).st ≠ .retrain then s
  else (s.guardPort p).report 0 (s.peerDie p) ((s.agree.neigh.rd p).resetCount + 1)

/-- RESET_NOTICE. -/
def execResetNotice (p : Fin 8) (s : State) : Out := .next (s.rxReset p)

/-- A port becomes DOWN (14 R528, Table 14.4). -/
def State.portDown (s : State) (p : Nat) : State :=
  (s.updPort p (fun x => { x with st := .down, admitted := false, auth := {} })).emit (72 + p) 0x404 0xFF p

/-- A port loses its link (14 R545; 15 R570): the guard runs, the port is DOWN and the loss is reported. -/
def State.loseLink (s : State) (p : Nat) : State :=
  if (s.port p).st ≠ .active ∧ (s.port p).st ≠ .retrain then s
  else
    let d := s.peerDie p
    let s := (s.guardPort p).portDown p
    let s := { s with agree := { s.agree with neigh := s.agree.neigh.wr p {} } }
    if s.alone then (s.applyNotice 0 d).elect else s.report 0 d 0

/-- LINK_LOSS. -/
def execLinkLoss (p : Fin 8) (s : State) : Out := .next (s.loseLink p)

/-! ## Key agreement (16 R611, R612) -/

/-- The parts of a message of 48 bytes each. -/
def authPart (body : List Byte) (k : Nat) : List Byte := padTo 48 (slice body (48 * k) 48)

/-- RCVD of a port: the peer's parts held (16 R612). -/
def Auth.mask (a : Auth) : Nat := maskOf (a.peerHello.map Prod.fst) + 65536 * maskOf (a.peerFinish.map Prod.fst)

/-- Send an AUTH flit: part 0xFF only acknowledges. -/
def State.sendAuth (s : State) (p msg part count : Nat) (data : List Byte) : State :=
  s.sendCtrl p 5 (leBytes 1 msg ++ leBytes 1 part ++ leBytes 1 count ++ padTo 48 data ++ leBytes 4 (s.port p).auth.mask)

/-- Send the parts of a message that a mask lacks. -/
def State.sendParts (s : State) (p msg count : Nat) (body : List Byte) (have' : Nat) : State :=
  ((List.range count).filter (fun k => !bitAt have' k)).foldl (fun s k => s.sendAuth p msg k count (authPart body k)) s

/-- This die's HELLO, 309 bytes (16 R611). -/
def State.helloBytes (s : State) : List Byte :=
  leBytes 2 s.dieId ++ padTo 16 Config.serial ++ padTo 97 Config.identKey ++ [Config.endorseSlot] ++ padTo 96 Config.endorsement
    ++ padTo 97 (Config.ephemeral s.freeCtr)

/-- Begin an agreement: the HELLO is sent, and LINK_AUTH may take 50 ms (16 R611, R612). -/
def State.startAuth (s : State) (p : Nat) : State :=
  let h := s.helloBytes
  let s := s.bump.updPort p (fun x => { x with auth := { running := true, limitAt := s.now + 50000000, hello := h,
                                                         resendAt := s.now + 20000 } })
  s.sendParts p 0 7 h 0

/-- The peer's whole HELLO, if it is held. -/
def Auth.helloOf (a : Auth) : Option (List Byte) :=
  if a.peerHello.length = 7 then some (((List.range 7).flatMap (fun k => a.peerHello.rd k)).take 309) else none
/-- The peer's whole FINISH, if it is held. -/
def Auth.finishOf (a : Auth) : Option (List Byte) :=
  if a.peerFinish.length = 2 then some (((List.range 2).flatMap (fun k => a.peerFinish.rd k)).take 96) else none

/-- The hash both FINISH messages sign: the HELLO of the lower die ID, then the other (16 R611). -/
def authHash (own peer : List Byte) : List Byte :=
  if field own 0 2 < field peer 0 2 then Config.sha384 (own ++ peer) else Config.sha384 (peer ++ own)

/-- An AUTH flit (16 R612): a new part is kept, the mask is noted, FINISH is sent once the peer's HELLO is whole and this one's
is acknowledged; else the flit is answered with RCVD. -/
def State.rxAuth (s : State) (p msg part count : Nat) (data : List Byte) (rcvd : Nat) : State :=
  let a := (s.port p).auth
  if !a.running then s
  else
    let a := if msg = 0 ∧ part < 7 ∧ count = 7 ∧ !(a.peerHello.any (fun e => e.1 == part)) then
        { a with peerHello := a.peerHello.ins part data }
      else if msg = 1 ∧ part < 2 ∧ count = 2 ∧ !(a.peerFinish.any (fun e => e.1 == part)) then
        { a with peerFinish := a.peerFinish.ins part data }
      else a
    let a := { a with rcvd := rcvd }
    match a.helloOf with
    | some peer =>
        if a.finish.isEmpty && rcvd % 128 == 127 then
          let f := padTo 96 (Config.sign 0 (authHash a.hello peer))
          (s.updPort p (fun x => { x with auth := { a with finish := f } })).sendParts p 1 2 f 0
        else (s.updPort p (fun x => { x with auth := a })).sendAuth p 0 0xFF 0 []
    | none => (s.updPort p (fun x => { x with auth := a })).sendAuth p 0 0xFF 0 []

/-- AUTH (16 R611, R612). -/
def execAuth (p : Fin 8) (msg part count : Byte) (data : List Byte) (rcvd : U32) (s : State) : Out :=
  .next (s.rxAuth p msg.toNat part.toNat count.toNat (padTo 48 data) rcvd.toNat)

/-- AUTH_RESEND_TIMER (16 R612): the parts of the current message that the peer lacks are sent again. -/
def execAuthResendTimer (p : Fin 8) (s : State) : Out :=
  .next (
    let a := (s.port p).auth
    if !a.running then s
    else
      let s := s.reach a.resendAt
      let s := s.updPort p (fun x => { x with auth := { x.auth with resendAt := s.now + 20000 } })
      if a.finish.isEmpty then s.sendParts p 0 7 a.hello (a.rcvd % 65536)
      else s.sendParts p 1 2 a.finish (a.rcvd / 65536))

/-- LINK_AUTH_TIMEOUT (16 R612): not ACTIVE within 50 ms. -/
def execLinkAuthTimeout (p : Fin 8) (s : State) : Out :=
  .next (
    let x := s.port p
    if x.st ≠ .linkAuth ∨ !x.auth.running then s
    else
      let s := (s.reach x.auth.limitAt).emit (72 + p) 0x506 0xFF p
      s.updPort p (fun x => { x with st := .down, auth := {} }))

/-- KEY_PHASE_SWITCH (14 R521): at a record boundary the sender takes the key agreed and inverts KEYPHASE; without one, a new
key is agreed. -/
def execKeyPhaseSwitch (p : Fin 8) (s : State) : Out :=
  .next (
    let x := s.port p
    if x.st ≠ .active then s
    else match x.nextKey with
      | some k =>
          let s := if x.txRec.isEmpty then s else s.closeRecord p
          s.updPort p (fun x => { x with txKey := some k, nextKey := none, keyPhase := !x.keyPhase, txCount := 0 })
      | none => if x.auth.running then s else s.startAuth p)

/-! ## Flits -/

/-- A control flit by its CTYPE (14 Table 14.2). -/
def State.rxCtrl (s : State) (p : Nat) (raw : List Byte) : State :=
  let s := s.updPort p (fun x => { x with rxRec := if x.rxRec.isEmpty then [] else x.rxRec ++ [raw] })
  match field raw 4 1 with
  | 1 => s.rxCredit p ((List.range 16).map (fun k => field raw (8 + 2 * k) 2))
  | 2 => s.rxNak p (field raw 8 2 % 4096)
  | 3 => s.rxReset p
  | 4 => s.rxRetrain p (field raw 8 1)
  | 5 => s.rxAuth p (field raw 5 1) (field raw 6 1) (field raw 7 1) (slice raw 8 48) (field raw 56 4)
  | _ => s

/-- A port receives flits. -/
def PortState.receives : PortState → Bool
  | .linkAuth => true
  | .active => true
  | _ => false

/-- FLIT_RECEIVE (14 R513-R515, R522): a flit whose CRC fails is discarded and NAKed; a good one acknowledges, and is a
control flit or the next sequenced one. -/
def execFlitReceive (p : Fin 8) (bytes : List Byte) (s : State) : Out :=
  .next (
    let raw := padTo 64 bytes
    let h := field raw 0 4
    if !(s.port p).st.receives then s
    else
      let s := s.updPort p (fun x => { x with stats := { x.stats with flitsRx := x.stats.flitsRx + 1 } })
      if field raw 60 4 ≠ crc32c (raw.take 60) then
        if (s.port p).naked then s
        else
          let s := s.updPort p (fun x => { x with stats := { x.stats with crcRetries := x.stats.crcRetries + 1 } })
          (s.emit (72 + p) 0x400 0xFF p).nakOnce p
      else
        let s := s.rxAck p (bitsOf h 23 12)
        if bitAt h 30 then s.rxCtrl p raw
        else if (s.port p).st = .active then s.rxSeqFlit p raw
        else s)

/-- RECORD_CLOSE_TIMEOUT (14 R519): with no content flit to send, short pieces are sent filled and the record is closed. -/
def execRecordCloseTimeout (p : Fin 8) (s : State) : Out :=
  .next (
    if (s.port p).st ≠ .active then s
    else
      let s := pumpGo p true 1024 s
      s.closeRecord p)

/-- CREDIT_SEND_TIMER (14 R516): the totals returned since link-up, while any has changed. -/
def execCreditSendTimer (p : Fin 8) (s : State) : Out :=
  .next (
    let x := s.port p
    if x.st ≠ .active ∨ !x.credDirty then s
    else
      (s.updPort p (fun x => { x with credDirty := false })).sendCtrl p 1
        (leBytes 3 0 ++ (List.range 16).flatMap (fun k => leBytes 2 (x.credGiven.rd k))))

/-! ## Training (14 R526-R530) -/

/-- Begin to detect on an enabled port (14 R527). -/
def State.startPort (s : State) (p at' : Nat) : State :=
  s.updPort p (fun x => { x with st := .detect, attempts := 0, quarterTried := false, speed := x.speedLimit, detectAt := at',
                                 admitted := false, auth := {} })

/-- PORT_DETECT (14 R527): an attempt at its time; one that fails is retried after 10 ms × 2^k and a random delay. -/
def execPortDetect (p : Fin 8) (found : Bool) (s : State) : Out :=
  .next (
    let x := s.port p
    if x.st ≠ .detect then s
    else
      let s := s.reach x.detectAt
      if found then s.updPort p (fun x => { x with st := .equalize, limitAt := s.now + 200000000 })
      else
        let d := Config.portDelay s.freeCtr % 10000001
        s.bump.updPort p (fun x => { x with attempts := x.attempts + 1,
                                            detectAt := s.now + 10000000 * 2 ^ (Nat.min (x.attempts + 1) 5) + d }))

/-- Training at a speed has failed: once more at quarter speed, then DOWN (14 R528). -/
def State.trainFailed (s : State) (p : Nat) : State :=
  let x := s.port p
  if x.speed = 0 ∧ !x.quarterTried then
    s.updPort p (fun x => { x with st := .equalize, speed := 1, quarterTried := true, limitAt := s.now + 200000000 })
  else s.portDown p

/-- PORT_EQUALIZE (14 R526, R528). -/
def execPortEqualize (p : Fin 8) (ok : Bool) (s : State) : Out :=
  .next (
    if (s.port p).st ≠ .equalize then s
    else if ok then s.updPort p (fun x => { x with st := .laneMap, limitAt := s.now + 2000000 })
    else s.trainFailed p)

/-- Four lanes of the good ones: the one named is left out where all five are good (14 R526). -/
def fourLanes (good leave : Nat) : Option Nat :=
  let g := maskBits 5 good
  if g.length < 4 then none
  else if g.length = 4 then some (maskOf g)
  else some (maskOf (g.filter (· ≠ leave)))

/-- LANE_MAP (14 R526, R528): the good lanes of each direction and the one kept as the spare. -/
def execLaneMap (p : Fin 8) (ok : Bool) (goodTx goodRx : Fin 32) (spareTx spareRx : Fin 5) (s : State) : Out :=
  .next (
    if (s.port p).st ≠ .laneMap then s
    else if !ok then s.trainFailed p
    else match fourLanes goodTx spareTx, fourLanes goodRx spareRx with
      | some tx, some rx => s.updPort p (fun x => { x with st := .linkInit, goodTx := goodTx, goodRx := goodRx, txLanes := tx,
                                                           rxLanes := rx, limitAt := s.now + 1000000 })
      | _, _ => s.portDown p)

/-- LINK_INIT (14 R529; 15 R567): the peer's identity frame; LINK_AUTH follows, and an epoch above this die's is adopted. -/
def execLinkInit (p : Fin 8) (frameOk : Bool) (die : U16) (port : Fin 8) (fabricId : U16) (epoch : U64) (s : State) : Out :=
  .next (
    if (s.port p).st ≠ .linkInit then s
    else if !frameOk ∨ die.toNat = s.dieId ∨ die = 0xFFFF then s.portDown p
    else
      let s := s.updPort p (fun x => { x with st := .linkAuth, peer := { die := die.toNat, port := port, fabric := fabricId.toNat },
                                              admitted := false })
      let a : Adoption := { die := die.toNat, port := some p.val, epoch := epoch.toNat }
      let s := if epoch.toNat > s.agree.datum.epoch ∧ s.agree.adoption.isNone then { s with agree := { s.agree with adoption := some a } }
        else s
      s.startAuth p)

/-- Lanes in use after failures: each failing lane is replaced by a good one not in use (14 R530). Answers the lanes and how
many were replaced. -/
def spareLanes (use good : Nat) : Option (Nat × Nat) :=
  let keep := (maskBits 5 use).filter (fun l => bitAt good l)
  let free := (maskBits 5 good).filter (fun l => !bitAt use l)
  let need := 4 - keep.length
  if free.length < need then none else some (maskOf (keep ++ free.take need), need)

/-- PORT_RETRAIN (14 R530): an ACTIVE port enters RETRAIN; in RETRAIN the failing lanes are replaced by the spare and the port
is ACTIVE again, or falls back as R528 does. No sequenced flit is lost. The row carries the codewords that the lanes have
corrected and those they could not since the last such row; PORT_STATS adds them (Table 14.11; log 10). -/
def execPortRetrain (p : Fin 8) (failTx failRx : Fin 32) (corrected uncorr : U32) (s : State) : Out :=
  .next (
    let x := s.port p
    let down (good fail : Nat) : Nat := maskOf ((maskBits 5 good).filter (fun l => !bitAt fail l))
    let upd (s : State) : State :=
      s.updPort p (fun x => { x with goodTx := down x.goodTx failTx, goodRx := down x.goodRx failRx,
                                     stats := { x.stats with fecCorrected := x.stats.fecCorrected + corrected.setWidth 64,
                                                             fecUncorr := x.stats.fecUncorr + uncorr.setWidth 64 } })
    if x.st = .active then (upd s).enterRetrain p
    else if x.st = .retrain then
      let s := upd s
      let y := s.port p
      match spareLanes y.txLanes y.goodTx, spareLanes y.rxLanes y.goodRx with
      | some (tx, n), some (rx, m) =>
          let s := s.updPort p (fun x => { x with st := .active, txLanes := tx, rxLanes := rx,
                                                  spared := x.spared + BitVec.ofNat 32 (n + m) })
          let s := (List.range (n + m)).foldl (fun s _ => s.emit (72 + p) 0x402 0xFF p) s
          let s := s.freeWaiting p
          if (s.port p).rekeyDue ∧ !(s.port p).auth.running then
            (s.updPort p (fun x => { x with rekeyDue := false })).startAuth p
          else s
      | _, _ => (s.guardPort p).trainFailed p
    else s)

end Sys2Proof.Machine
end

