-- ==== Sys2Proof/Machine/Agreement.lean ====
section
/-! DEFINITION. Agreement across dies: beacons, the datum, notices, job records, benchmark time and closure (chapter 15). -/
namespace Sys2Proof.Machine
open Sys2Proof

/-- The next whole multiple of a span past a time. -/
def nextMultiple (t n : Nat) : Nat := (t / n + 1) * n

/-! ## Beacons (15 R560-R563) -/

/-- This die's beacon (15 Table 15.2). -/
def State.beaconBytes (s : State) : List Byte :=
  let a := s.agree
  let flags := (if a.standing = .fenced then 1 else 0) + (if a.standing = .quarantined then 2 else 0) + (if s.leveled then 4 else 0)
  leBytes 8 a.datum.epoch ++ leBytes 8 (if a.survDie = s.dieId then a.datum.epoch else a.survEpoch) ++ leBytes 2 a.survDie
    ++ leBytes 1 a.survHops ++ leBytes 1 flags ++ leBytes 4 a.survSeq ++ leBytes 4 s.ledger.resetCount ++ leBytes 4 0 ++ s.digest

/-- BEACON_TIMER (15 R560, R561): every 1 ms, on each ACTIVE port; a surveyor adds 1 to SURV_SEQ in each beacon. -/
def execBeaconTimer (s : State) : Out :=
  .next (
    let s := (s.reach (nextMultiple s.now 1000000)).elect
    (List.range 8).foldl (fun (s : State) p =>
      if (s.port p).st ≠ .active then s
      else
        let s := if s.isSurveyor then { s with agree := { s.agree with survSeq := (s.agree.survSeq + 1) % 2 ^ 32 } } else s
        s.writeLong (some p) (s.peerDie p) 0x4104 0 s.beaconBytes) s)

/-- A beacon arrives on a port (15 R561, R567, R570). -/
def State.takeBeacon (s : State) (p : Nat) (b : List Byte) : State :=
  if b.length ≠ 80 ∨ field b 19 1 ≥ 8 ∨ field b 28 4 ≠ 0 then s.answer .unsupported
  else if (s.port p).st ≠ .active then s.answer .denied
  else
    let old := s.agree.neigh.rd p
    let die := s.peerDie p
    let same := old.known && old.survDie == field b 16 2 && old.survSeq == field b 20 4
    let x : Beacon :=
      { heard := true, known := true, epoch := field b 0 8, survEpoch := field b 8 8, survDie := field b 16 2, survHops := field b 18 1,
        flags := field b 19 1, survSeq := field b 20 4, resetCount := field b 24 4, digest := slice b 32 48, at' := s.now,
        seqAt := if same then old.seqAt else s.now }
    let s := ({ s with agree := { s.agree with neigh := s.agree.neigh.wr p x } }).elect
    let s := if old.known ∧ old.resetCount ≠ x.resetCount then s.report 0 die x.resetCount else s
    let s := if bitAt x.flags 1 ∧ !bitAt old.flags 1 then s.report 1 die x.resetCount else s
    let s := if bitAt x.flags 0 ∧ !bitAt old.flags 0 then s.report 2 die x.resetCount else s
    let s := if x.flags % 4 = 0 ∧ s.agree.notices.rd die ≠ 0 then s.report 3 die x.resetCount else s
    (s.compareDatum die (some p) x.epoch x.digest).answer .ok

/-- BEACON (15 R560, R561, R567, R570): a neighbour's beacon record, whole. -/
def execBeacon (p : Fin 8) (data : List Byte) (s : State) : Out := .next (s.takeBeacon p data)

/-- BEACON_STALE (15 R561): an entry past its freshness is dropped and the election moves on. -/
def execBeaconStale (p : Fin 8) (s : State) : Out :=
  .next (
    let b := s.agree.neigh.rd p
    if !b.heard then s
    else
      let s := s.reach (Nat.min (b.at' + 3000000) (b.seqAt + 5000000) + 1)
      ({ s with agree := { s.agree with neigh := s.agree.neigh.wr p { b with heard := false } } }).elect)

/-! ## The datum (15 R566-R569) -/

/-- DATUM_RESULT is given (15 R566). -/
def State.datumDone (s : State) (st : Status) (epoch : Nat) : State :=
  { s with agree := { s.agree with result := { ready := true, bytes := leBytes 1 st.code ++ leBytes 8 epoch } } }

/-- A proposal's parts from its record past BASE_EPOCH (15 R566). -/
def proposalOf (b : List Byte) : Option DatumParts :=
  let v := 1 + 4 * field b 0 1
  let q := 2 + 264 * field b (v + 60) 2
  if b.length ≠ v + 60 + q + 4 then none
  else partsOf (b.take v) (slice b v 60) (slice b (v + 60) q) (slice b (v + 60 + q) 4)

/-- A proposal changes or removes the entry of a fabric parcel that holds a job (15 R566 check 3). -/
def State.heldParcel (s : State) (d : DatumParts) : Bool :=
  s.agree.datum.plat.any (fun e => !d.plat.contains e && s.agree.survJobs.any (fun r =>
    r.fparcel == e.fparcel && r.jobs.any (fun j => j.2 != 0)))

/-- The surveyor checks a proposal (15 R566). -/
def State.propose (s : State) (b : List Byte) : State :=
  let own := s.agree.datum.epoch
  let s := { s with agree := { s.agree with result := {} } }
  if field b 0 8 ≠ own then s.datumDone .busy own
  else match proposalOf (b.drop 8) with
    | none => s.datumDone .unsupported own
    | some d =>
        if s.heldParcel d then s.datumDone .busy own
        else (((s.applyDatum (own + 1) d).elect).datumDone .ok (own + 1)).announceDatum

/-- DATUM_PROPOSE (15 R566): a die that is not the surveyor forwards it on VC0. -/
def execDatumPropose (by' : Principal) (data : List Byte) (s : State) : Out :=
  .next (s.served 44 fun s =>
    if by' ≠ .hostk ∧ by' ≠ .rtp ∧ by' ≠ .board then s.answer .denied
    else if s.isSurveyor then (s.propose data).answer .ok
    else
      let s := { s with agree := { s.agree with result := {} } }
      (s.writeLong none s.agree.survDie 0x4102 0 data).answer .ok)

/-- The digest does not match, or the parts are not a datum: the read is repeated once, then abandoned (15 Table 15.5 step 2). -/
def State.adoptAgain (s : State) (a : Adoption) : State :=
  if a.retried then { s with agree := { s.agree with adoption := none } }
  else ({ s with agree := { s.agree with adoption := some { a with retried := true, got := [] } } }).readDatum a.die

/-- DATUM_ADOPTION (15 R568, Table 15.5): once the peer's parts have been read. -/
def execDatumAdoption (s : State) : Out :=
  .next (
    match s.agree.adoption with
    | none => s
    | some a =>
        if a.got.length < 5 then s
        else
          let all := a.got.rd 2 ++ a.got.rd 4 ++ a.got.rd 5 ++ a.got.rd 6
          let dig := padTo 48 (Config.sha384 all)
          let shown := if a.digest.isEmpty then padTo 48 (a.got.rd 3) else a.digest
          match partsOf (a.got.rd 2) (a.got.rd 4) (a.got.rd 5) (a.got.rd 6) with
          | none => s.adoptAgain a
          | some d =>
              if dig ≠ shown then s.adoptAgain a
              else
                let was := s.agree.standing
                let s := { s with agree := { s.agree with adoption := none, maxEpoch := Nat.max s.agree.maxEpoch a.epoch } }
                let s :=
                  if s.inWindow d.versions then s.applyDatum a.epoch d
                  else
                    let s := { s with agree := { s.agree with standing := .quarantined,
                                                              datum := { s.agree.datum with epoch := a.epoch, digest := shown } } }
                    if was = .quarantined then s else s.emit 66 0x413 0xFF s.dieId
                let s := (s.emit 66 0x411 0xFF a.epoch).elect
                if s.isSurveyor ∧ s.agree.standing = .admitted then s.announceDatum else s)

/-! ## Notices (15 R569-R572) -/

/-- A report reaches the surveyor (15 R570, R588). -/
def State.takeReport (s : State) (b : List Byte) : State :=
  if b.length ≠ 8 ∨ field b 0 1 > 3 ∨ field b 1 1 ≠ 0 then s.answer .unsupported
  else if !s.isSurveyor then s.answer .denied
  else (s.surveyNotice (field b 0 1) (field b 2 2) (field b 4 4)).answer .ok

/-- NOTICE_REPORT. -/
def execNoticeReport (_src : U16) (data : List Byte) (s : State) : Out := .next (s.takeReport data)

/-- LOST_PROBE_TIMEOUT (15 R571): no answer within 5 ms declares the die lost. -/
def execLostProbeTimeout (die : U16) (s : State) : Out :=
  .next (
    match s.agree.probes.find? (fun (q : Nat × Nat) => q.1 == die.toNat) with
    | none => s
    | some q =>
        let s := s.reach q.2
        let s := { s with agree := { s.agree with probes := s.agree.probes.filter (fun (q : Nat × Nat) => q.1 != die.toNat) },
                          dict := { s.dict with readings := s.dict.readings.filter (fun (r : Reading) =>
                            !(r.dest == die.toNat && r.index == 0x4101)) } }
        s.sendNotice 0 die.toNat 0)

/-- A broadcast frame of an index among the messages delivered. -/
def isCast (m : Msg) (index : Nat) : Bool := m.op == 0x30 && m.dest == 0xFFFF && field m.payload 0 1 == 0x11 && field m.payload 4 2 == index

/-- NOTICE (15 R572, R576). -/
def execNotice (m : Msg) (s : State) : Out :=
  .next (
    if !s.fab.arrived.contains m || !isCast m 0x4108 then s
    else
      let s := s.take m
      let b := slice m.payload 16 8
      if field b 0 1 > 3 then s else s.applyNotice (field b 0 1) (field b 2 2))

/-- DATUM_ANNOUNCE (15 R567, R572). -/
def execDatumAnnounce (m : Msg) (s : State) : Out :=
  .next (
    if !s.fab.arrived.contains m || !isCast m 0x4100 then s
    else (s.take m).compareDatum m.src none (field m.payload 16 8) (slice m.payload 24 48))

/-! ## Job records (15 R574-R576) -/

/-- A job record from its bytes. -/
def jobRecOf (b : List Byte) : JobRec :=
  { fparcel := field b 0 2, epoch := field b 2 8, holder := field b 10 1,
    jobs := (List.range 16).map (fun k => (field b (11 + 5 * k) 4, field b (15 + 5 * k) 1)) }

/-- A member adopts a record (15 R575, R576): a started switch orders its own, and an entry to HOLDING that it is ready for lets the
job run. -/
def State.adoptRec (s : State) (p : Nat) (r : JobRec) : State :=
  let s := ({ s with agree := { s.agree with jobRecs := s.agree.jobRecs.wr p r } }).recFaults p r
  if s.leads p then s
  else
    let sw := (List.range 16).filter (fun k => (r.jobs.getD k (0, 0)).2 == 4)
    let inc := (sw.find? (fun k => k != r.holder)).getD 16
    let s := if sw.isEmpty ∨ (s.parcel p).switch.isSome then s
      else s.updPar p (fun x => { x with ordered := some inc, graceOver := true })
    let k := r.holder
    match (s.parcel p).switch with
    | some w => if k < 16 ∧ (r.jobs.getD k (0, 0)).2 = 3 ∧ w.done = true ∧ w.incoming = k then s.hold p k else s
    | none => s

/-- A job record arrives from a die (15 R574, R576): from its lead or from the surveyor, whose copy governs. -/
def State.takeJobRec (s : State) (src p : Nat) (b : List Byte) : State :=
  let r := jobRecOf b
  if b.length ≠ 91 then s.answer .unsupported
  else
    let lead := s.agree.datum.plat.any (fun e => e.fparcel == r.fparcel && e.lead == src)
    let surv := src == s.agree.survDie
    if !lead && !surv then s.answer .denied
    else
      let copy := s.agree.survJobs.find? (fun x => x.fparcel == r.fparcel)
      let stale := match copy with | some c => decide (c.epoch > r.epoch) | none => false
      let s := if !s.isSurveyor || !lead then s
        else if stale then s.writeTo src 0x4105 (p + 1) ((copy.getD {}).bytes)
        else { s with agree := { s.agree with survJobs := putRec s.agree.survJobs r } }
      let own := s.agree.jobRecs.rd p
      let take := (s.parcel p).fabricId == r.fparcel && ((surv && own != r) || (lead && decide (r.epoch > own.epoch)))
      (if take then s.adoptRec p r else s).answer .ok

/-- JOB_RECORD. -/
def execJobRecord (src : U16) (slot : Fin 8) (data : List Byte) (s : State) : Out := .next (s.takeJobRec src.toNat slot data)

/-- A member reports its switch to the lead (15 R575). -/
def State.takeSwitchDone (s : State) (src : Nat) (b : List Byte) : State :=
  let f := field b 0 2
  if b.length ≠ 10 then s.answer .unsupported
  else match (List.range 8).find? (fun p => f != 0 && (s.parcel p).fabricId == f && s.leads p) with
    | none => s.answer .denied
    | some p =>
        if (s.fabricDies f).contains src = false then s.answer .denied
        else if (s.parcel p).switch.isNone ∨ s.agree.switchDone.contains (f, src) then s.answer .ok
        else (({ s with agree := { s.agree with switchDone := s.agree.switchDone ++ [(f, src)] } }).leadSwitch p).answer .ok

/-- SWITCH_DONE. -/
def execSwitchDone (src : U16) (data : List Byte) (s : State) : Out := .next (s.takeSwitchDone src.toNat data)

/-! ## Benchmark time (15 R577-R582) -/

/-- The BENCH payload (15 R579). -/
def benchPayload (kind depth source seq t1 t2 t3 : Nat) (leveled : Bool) (epoch : Nat) : List Byte :=
  padTo 128 (leBytes 1 kind ++ leBytes 1 depth ++ leBytes 2 source ++ leBytes 4 seq ++ leBytes 8 t1 ++ leBytes 8 t2 ++ leBytes 8 t3
    ++ leBytes 1 (if leveled then 1 else 0) ++ leBytes 7 0 ++ leBytes 8 epoch)

/-- Change the benchmark. -/
def State.updBench (s : State) (f : Bench → Bench) : State := { s with agree := { s.agree with bench := f s.agree.bench } }

/-- Correct benchmark time by a difference in quarter-nanoseconds, never backwards (15 R580). -/
def State.correct (s : State) (θ : Int) : State :=
  let base : Int := (s.benchQ : Int) - 4 * (s.now : Int)
  if θ > 2000 then
    (s.updBench (fun b => { b with ahead := base + θ, since := s.now, behind := 0, slew := 0 })).emit 66 0x416 0xFF (θ / 4000).toNat
  else if θ < -2000 then s.updBench (fun b => { b with ahead := base, since := s.now, behind := (-θ - 2000).toNat, slew := -2000 })
  else s.updBench (fun b => { b with ahead := base, since := s.now, behind := 0, slew := θ })

/-- The die becomes UNLEVELED (15 R581). -/
def State.unlevel (s : State) : State :=
  let was := s.agree.bench.leveled
  let s := s.updBench (fun b => { b with leveled := false, good := 0 })
  if was then s.emit 66 0x415 0xFF (sat32 (s.agree.bench.theta.natAbs / 4)) else s

/-- The parent (15 R578): the ADMITTED or FENCED neighbour of the lowest known depth, then the lowest die ID, then the lowest port; one
whose depth is not known comes after those known and before one that has none. -/
def State.chooseParent (s : State) : Option Nat :=
  let rank (p : Nat) : Nat :=
    let d := s.agree.bench.depths.rd p
    (if d = 0 then 255 else if d = 256 then 256 else d - 1) * 2 ^ 20 + s.peerDie p * 8 + p
  let cs := (List.range 8).filter (fun p => (s.port p).st == .active && s.carries p 6 && (s.agree.notices.rd (s.peerDie p) != 2)
    && !bitAt (s.agree.neigh.rd p).flags 1)
  cs.foldl (fun (b : Option Nat) p => match b with
    | none => some p
    | some q => if rank p < rank q then some p else some q) none

/-- SYNC_TIMER (15 R578): every 1 ms a die that is not the source asks its parent. -/
def execSyncTimer (s : State) : Out :=
  .next (
    let s := s.reach (nextMultiple s.now 1000000)
    if s.isBenchSource then s.updBench (fun b => { b with parent := none, depth := 0, source := s.dieId, asked := none })
    else match s.chooseParent with
      | none => s.updBench (fun b => { b with parent := none, depth := 255, asked := none })
      | some p =>
          let b := s.agree.bench
          let d := b.depths.rd p
          let depth := if d = 0 ∨ d ≥ 255 then 255 else d
          let seq := (b.seq + 1) % 2 ^ 32
          let t1 := s.benchQ
          let fresh := b.parent ≠ some p
          let s := s.updBench (fun b => { b with parent := some p, parentDie := s.peerDie p, depth := depth, seq := seq,
                                                 asked := some (seq, t1), lastSync := if fresh then s.now else b.lastSync })
          s.putMsg p 0 { op := 0x40, dest := s.peerDie p, src := s.dieId,
                         payload := benchPayload 0 depth s.benchSource seq t1 0 0 s.leveled s.agree.datum.epoch })

/-- The port on which a neighbour's message came. -/
def State.portOf (s : State) (die : Nat) : Option Nat := (s.portsTo die).head?

/-- Note a neighbour's depth. -/
def State.noteDepth (s : State) (die depth : Nat) : State :=
  (s.portsTo die).foldl (fun (s : State) p => s.updBench (fun b => { b with depths := b.depths.wr p (depth + 1) })) s

/-- SYNC_REQ (15 R578): t2 as it arrives, t3 as its answer leaves. -/
def execSyncReq (m : Msg) (s : State) : Out :=
  .next (
    if !s.fab.arrived.contains m || m.op != 0x40 || field m.payload 0 1 != 0 then s
    else
      let s := (s.take m).noteDepth m.src (field m.payload 1 1)
      let t := s.benchQ
      let depth := if s.isBenchSource then 0 else s.agree.bench.depth
      match s.portOf m.src with
      | none => s
      | some p => s.putMsg p 0 { op := 0x40, dest := m.src, src := s.dieId,
                                 payload := benchPayload 1 depth s.benchSource (field m.payload 4 4) (field m.payload 8 8) t t s.leveled
                                   s.agree.datum.epoch })

/-- SYNC_RESP (15 R578, R580, R581). -/
def execSyncResp (m : Msg) (s : State) : Out :=
  .next (
    if !s.fab.arrived.contains m || m.op != 0x40 || field m.payload 0 1 != 1 then s
    else
      let s := (s.take m).noteDepth m.src (field m.payload 1 1)
      let b := m.payload
      match s.agree.bench.asked with
      | none => s
      | some (seq, t1) =>
          if field b 4 4 ≠ seq ∨ m.src ≠ s.agree.bench.parentDie ∨ field b 8 8 ≠ t1 then s
          else
            let t2 : Int := (field b 16 8 : Nat)
            let t3 : Int := (field b 24 8 : Nat)
            let t4 : Int := (s.benchQ : Nat)
            let θ : Int := ((t2 - t1) - (t4 - t3)) / 2
            let d : Int := ((t4 - t1) - (t3 - t2)) / 2
            let depth := Nat.min 255 (field b 1 1 + 1)
            let s := s.updBench (fun b' => { b' with asked := none, theta := θ, delay := d, depth := depth, source := field b 2 2,
                                                     lastSync := s.now })
            let s := s.correct θ
            if θ.natAbs > 2000 ∨ field b 32 1 = 0 then s.unlevel
            else if θ.natAbs ≤ 200 then
              s.updBench (fun x => { x with good := x.good + 1, leveled := x.leveled || decide (x.good + 1 ≥ 16) })
            else s.updBench (fun x => { x with good := 0 }))

/-- ANNOUNCE (15 R579): the source as announced; the router has forwarded it (R573). -/
def execAnnounce (m : Msg) (s : State) : Out :=
  .next (
    if !s.fab.arrived.contains m || m.op != 0x40 || field m.payload 0 1 != 2 then s
    else
      let s := (s.take m).updBench (fun b => { b with source := field m.payload 2 2 })
      { s with agree := { s.agree with maxEpoch := Nat.max s.agree.maxEpoch (field m.payload 40 8) } })

/-- BENCH_ANNOUNCE_TIMER (15 R579): every 100 ms the source broadcasts ANNOUNCE; a PTM source follows its host's time (R577). -/
def execBenchAnnounceTimer (s : State) : Out :=
  .next (
    let s := s.reach (nextMultiple s.now 100000000)
    if !s.isBenchSource then s
    else
      let s := if s.agree.datum.benchKind = 1 ∧ s.agree.datum.benchDie = s.dieId ∧ !s.straps.packageP then
          (s.correct (Config.ptmTheta s.freeCtr)).bump
        else s
      let t := s.benchQ
      s.broadcast { op := 0x40, payload := benchPayload 2 0 s.dieId s.agree.bench.seq t t t true s.agree.datum.epoch })

/-- BENCH_IMPORT (15 R577, R580): the time of the write's receipt, where this die is a HOST_SET source. -/
def execBenchImport (by' : Principal) (v : U64) (s : State) : Out :=
  .next (s.served 44 fun s =>
    if by' ≠ .hostk then s.answer .denied
    else if s.agree.datum.benchKind = 2 ∧ s.isBenchSource then
      (s.correct (4 * (v.toNat : Int) - (s.benchQ : Int))).answer .ok
    else s.answer .ok)

/-- PARENT_TIMEOUT (15 R581): 20 ms without a valid exchange. -/
def execParentTimeout (s : State) : Out :=
  .next (
    if s.isBenchSource ∨ s.agree.bench.parent.isNone then s
    else (s.reach (s.agree.bench.lastSync + 20000000)).unlevel)

/-! ## Closure (15 R583-R587) -/

/-- A closure error is recorded (15 R587): LOOP, HOP, QUANTITY, PASS, the difference, and OUTSIDE_PROMISE where an uncorrectable error
has been reported (01 R33). -/
def State.closureError (s : State) (isl loop hop quantity pass : Nat) (diff : Int) : State :=
  let outside := s.mem.ecc.any (fun (e : Nat × EccCount) => e.2.uncorr != 0)
  let rec' := leBytes 4 loop ++ leBytes 2 hop ++ leBytes 1 quantity ++ leBytes 8 pass ++ leBytes 8 (twos 64 diff)
    ++ leBytes 1 (if outside then 1 else 0)
  ({ s with agree := { s.agree with closure := { s.agree.closure with lastError := rec' } } }).emit isl 0x420 0xFF quantity

/-- The on-die identities that fail (15 Table 15.6): kind and place, the island, the row and the difference. -/
def State.dieFailures (s : State) : List (Nat × Nat × Nat × Int) :=
  let block (isl row : Nat) (d : Int) : List (Nat × Nat × Nat × Int) := if d = 0 then [] else [(2 * 2 ^ 24 + isl, isl, row, d)]
  let chans := s.chans.flatMap (fun (e : Nat × Chan) =>
    let d : Int := ((e.2.sent - e.2.recvd).toNat : Int) - (e.2.fifo.length : Int)
    if d = 0 then [] else [(e.1, e.1 % 80, 1, d)])
  let held := (s.fab.txns.filter (fun (t : Nat × Txn) => t.2.held)).length
  let tags := block 71 7 ((s.fab.issued.toNat : Int) - ((s.fab.completed + s.fab.timedOut + BitVec.ofNat 64 held).toNat : Int))
  let caddy := block 57 9 (if s.caddy.seqs.length ≤ 1024 then 0 else (s.caddy.seqs.length : Int) - 1024)
  let jobs := (List.range 8).flatMap (fun p =>
    let x := s.parcel p
    let live := ((List.range 16).filter (fun k => (s.job p k).st != .ended)).length
    block 57 10 ((x.created.toNat : Int) - ((x.ended + BitVec.ofNat 32 live).toNat : Int)))
  let waits := s.sems.foldl (fun n (e : Nat × Sem) => n + e.2.waiters.length) 0
  chans ++ tags ++ caddy ++ jobs ++ block 57 11 (if waits ≤ 1104 then 0 else (waits : Int) - 1104)

/-- ONDIE_CLOSURE_PASS (15 R583, R585-R587): at each multiple of 10 ms of benchmark time; a pass that stalls is not whole, and an error
is die-fatal. -/
def execOndieClosurePass (stalled : Bool) (s : State) : Out :=
  .next (
    let at' := nextMultiple s.bench 10000000
    let s := s.reach (s.now + (at' - s.bench))
    let put (s : State) (f : Closure → Closure) : State := { s with agree := { s.agree with closure := f s.agree.closure } }
    if stalled then put s (fun c => { c with dieEnd := some (s.now + 1000000) })
    else match s.dieFailures with
      | [] => put s (fun c => { c with diePasses := c.diePasses + 1 })
      | fs => (fs.foldl (fun (s : State) (f : Nat × Nat × Nat × Int) =>
          s.closureError f.2.1 f.1 f.2.1 f.2.2.1 (at' / 10000000) f.2.2.2) s).dieFatal)

/-- A CLOSE marker's payload (15 R584). -/
def closePayload (pass port : Nat) (sent : List Nat) : List Byte :=
  padTo 128 (leBytes 8 pass ++ leBytes 1 0 ++ leBytes 1 port ++ leBytes 6 0 ++ sent.flatMap (fun n => leBytes 4 n))

/-- FABRIC_CLOSURE_PASS (15 R583): at each multiple of 100 ms each end of a port that carries VC7 sends its marker. -/
def execFabricClosurePass (s : State) : Out :=
  .next (
    if s.alone then s
    else
      let at' := nextMultiple s.bench 100000000
      let s := s.reach (s.now + (at' - s.bench))
      let pass := at' / 100000000
      let ps := (List.range 8).filter (fun p => (s.port p).st == .active && s.carries p 7)
      let c := s.agree.closure
      let marks := ps.filter (fun p => !c.early.contains p)
      let s := { s with agree := { s.agree with closure :=
        { c with passNo := pass, passEnd := s.now + 10000000, marks := marks, early := [],
                 fabricPasses := if marks.isEmpty ∧ !ps.isEmpty then c.fabricPasses + 1 else c.fabricPasses } } }
      ps.foldl (fun (s : State) p =>
        let sent := (List.range 16).map (fun k => (s.port p).sent.rd k)
        s.putMsg p 0 { op := 0x50, dest := s.peerDie p, src := s.dieId, payload := closePayload pass p sent }) s)

/-- The identities of a port that fail at a marker (15 Table 15.6): row and difference. -/
def Port.failures (x : Port) (sent got : List Nat) : List (Nat × Int) :=
  let per (f : Nat → List (Nat × Int)) : List (Nat × Int) := (List.range 16).flatMap f
  let row (n : Nat) (d : Int) : List (Nat × Int) := if d = 0 then [] else [(n, d)]
  let held (k : Nat) : Nat := (x.rxRec.filter (fun f => let h := field f 0 4; !bitAt h 30 && bitsOf h 27 27 + 2 * bitsOf h 26 24 == k)).length
  per (fun k => row 3 (((got.getD k 0 % 2 ^ 32 : Nat) : Int) - (sent.getD k 0 : Int)))
    ++ per (fun k => row 4 ((x.credits k : Int) + ((x.sent.rd k : Int) - (x.credBack.rd k : Int)) - (vcCredits (k / 2) : Int)))
    ++ per (fun k => row 5 ((held k : Int) + (x.credGiven.rd k : Int) - (x.got.rd k : Int)))
    ++ (if x.replay.length ≤ 512 then [] else [(6, (x.replay.length : Int) - 512)])

/-- CLOSE (15 R584, R585, R587): the marker's counts against what was received before it; an error takes the link out of service. -/
def execClose (m : Msg) (s : State) : Out :=
  .next (
    if !s.fab.arrived.contains m || m.op != 0x50 then s
    else
      let s := s.take m
      match (s.portsTo m.src).find? (fun p => (s.port p).peer.port == field m.payload 9 1) with
      | none => s
      | some p =>
          let got := (s.port p).closeGot.headD []
          let s := s.updPort p (fun x => { x with closeGot := x.closeGot.drop 1 })
          let sent := (List.range 16).map (fun k => field m.payload (16 + 4 * k) 4)
          let pass := field m.payload 0 8
          match (s.port p).failures sent got with
          | [] =>
              let c := s.agree.closure
              let last := c.marks == [p]
              let c := if pass > c.passNo then { c with early := c.early ++ [p] }
                else { c with marks := c.marks.filter (· ≠ p), fabricPasses := if last then c.fabricPasses + 1 else c.fabricPasses }
              { s with agree := { s.agree with closure := c } }
          | fs =>
              let s := fs.foldl (fun (s : State) (f : Nat × Int) => s.closureError (72 + p) (2 ^ 24 + p) s.dieId f.1 pass f.2) s
              s.loseLink p)

/-- CLOSURE_LATE (15 R586): an on-die pass not whole 1 ms after its start, or a fabric pass whose markers have not all come in 10 ms. -/
def execClosureLate (fabric : Bool) (s : State) : Out :=
  .next (
    let c := s.agree.closure
    if fabric then
      if c.marks.isEmpty then s
      else
        let s := s.reach c.passEnd
        ({ s with agree := { s.agree with closure := { c with marks := [], late := c.late + 1 } } }).emit 66 0x421 0xFF 3
    else match c.dieEnd with
      | none => s
      | some t =>
          let s := s.reach t
          ({ s with agree := { s.agree with closure := { c with dieEnd := none, late := c.late + 1 } } }).emit 66 0x421 0xFF 1)

end Sys2Proof.Machine
end

