-- ==== Sys2Proof/Machine/Caddy.lean ====
section
/-! DEFINITION. The caddy: quotas, the binding and its template, sequences, generated steps and their results (chapter 12). -/
namespace Sys2Proof.Machine
open Sys2Proof

/-! ## The sequence table (12 R431-R433) -/

/-- A parcel's occupied entries (12 R432). -/
def State.caddyInUse (s : State) (p : Nat) : Nat := (s.caddy.seqs.filter (fun (e : Nat × Seq) => e.2.parcel == p && e.2.st != .free)).length

/-- Unoccupied entries (12 R432). -/
def State.caddyFree (s : State) : Nat := 1024 - (s.caddy.seqs.filter (fun (e : Nat × Seq) => e.2.st != .free)).length

/-- Change an entry. -/
def State.updSeq (s : State) (i : Nat) (f : Seq → Seq) : State := { s with caddy := { s.caddy with seqs := s.caddy.seqs.upd i f } }

/-- Free an entry. -/
def State.freeSeq (s : State) (i : Nat) : State := { s with caddy := { s.caddy with seqs := s.caddy.seqs.wr i {} } }

/-- CADDY_QUOTA_WRITE (12 R431). -/
def execCaddyQuotaWrite (by' : Principal) (p : Fin 8) (v : U16) (s : State) : Out :=
  .next (s.served 35 fun s =>
    let others := (List.range 8).foldl (fun n o => if o = p.val then n else n + s.caddy.quota.rd o) 0
    if by' ≠ .hostk ∧ by' ≠ .rtp then s.answer .denied
    else if others + v.toNat > 1024 then s.answer .unsupported
    else if v.toNat < s.caddyInUse p then s.answer .busy
    else { s with caddy := { s.caddy with quota := s.caddy.quota.wr p v.toNat } }.answer .ok)

/-- The entries of a job's sequences, rising. -/
def State.seqsOf (s : State) (p slot : Nat) : List (Nat × Seq) :=
  s.caddy.seqs.filter (fun (e : Nat × Seq) => e.2.parcel == p && e.2.job == slot && e.2.st != .free)

/-- A job's open sequence by its identifier. -/
def State.seqBy (s : State) (p slot id : Nat) : Option (Nat × Seq) := (s.seqsOf p slot).find? (fun (e : Nat × Seq) => e.2.id == id)

/-! ## Caddy commands (12 R434-R441) -/

/-- A region lies on another die: the caddy has no path to it. -/
def remoteExts (es : List Extent) : Bool := es.any (fun e => match e.back with | .fabric _ => true | _ => false)

/-- Apply a caddy command (12 R436, R442): where `bound`, only on the queue of its job's binding. What `k` answers `none` for waits. -/
def State.caddyCmd (s : State) (q op : Nat) (bound : Bool) (k : State → Nat → Nat → Cmd → State) : State :=
  let go (s : State) (p slot : Nat) (c : Cmd) : State :=
    if bound && !s.stepQueue p slot q then s.endCmd q c.serial .unsupported .none
    else if remoteExts (c.record.flatMap Prod.snd) then s.endCmd q c.serial .faulted .exec
    else k s p slot c
  match (s.queue q).consumed, s.jobOf q with
  | c :: _, some (p, slot) =>
      if dOp c.bytes ≠ op ∨ c.isOver then s
      else if c.started then (if c.stopped.isSome then s else go s p slot c)
      else s.startHead q op go
  | _, _ => s

/-- An image of a template (12 R445): a RUN whose head and continuation slots keep Tables 10.4-10.7 and 12.3, unstamped. -/
def imageOk (slots : Nat) (b : List Byte) : Bool :=
  dOp b == 1 && dSlots b == slots && !descBad true b && !dStamped b && dJobSeq b == 0 && !(dRegions b 0).any (·.mis)

/-- The header of a template keeps R445, and the binding's fields keep R437. -/
def templateOk (n : Nat) (h : List Byte) : Bool :=
  let es := entriesOf n 16 h
  es.all (fun b => decide (1 ≤ field b 0 2 ∧ field b 0 2 ≤ 8192) && decide (field b 2 1 ≤ 7) && zeros b 3 5 && field b 8 8 % 64 == 0)
    && ascending (es.map (fun b => ((field b 0 2 : Nat) : Int)))

/-- Read the images of a template. -/
def readImages (w : Who) (exts : List Extent) (dva : Nat) : List (Nat × Nat × Nat) → State → Acc (List Bucket)
  | [], s => .ok [] s
  | (rows, slots, off) :: rest, s =>
      (s.readDva w exts (dva + off) (64 * (1 + slots))).andThen (fun b s =>
        (readImages w exts dva rest s).andThen (fun bs s => .ok ({ rows := rows, bytes := b } :: bs) s))

/-- CADDY_BIND (12 R436, R437, R445). -/
def execCaddyBind (q : Fin 1024) (s : State) : Out :=
  .next (s.caddyCmd q 0x10 false (fun s p slot c =>
    let b := c.bytes
    let n := field b 56 1
    let tpl := field b 32 8
    let wl := scrOperand (field b 58 4)
    let done (s : State) (st : Status) (ca : Cause) : State := s.endCmd q c.serial st ca
    if (s.caddy.bind.rd (p * 16 + slot)).bound then done s .unsupported .none
    else match s.readDva (.parcel p) (recOf c.record 0) tpl (16 * n) with
      | .wait s => s
      | .remote _ _ => done s .faulted .exec
      | .fail st ca => done s st ca
      | .ok h s =>
          let bk := templateBuckets n h
          if !templateOk n h then done s .unsupported .none
          else match readImages (.parcel p) (recOf c.record 0) tpl bk s with
            | .wait s => s
            | .remote _ _ => done s .faulted .exec
            | .fail st ca => done s st ca
            | .ok imgs s =>
                let budget := field b 24 2
                let chunk := field b 26 2
                let max := maxRows bk
                if !(bk.zip imgs).all (fun x => imageOk x.1.2.1 x.2.bytes) || decide (budget > max) || decide (chunk > budget)
                    || wl.slice != 0 || decide (64 * wl.off64 + 16 * max > sliceBytes) then done s .unsupported .none
                else
                  let x : Binding := { bound := true, queue := q, rowBudget := budget, chunk := chunk, share := field b 28 1,
                                       report := bitAt (field b 29 1) 0, worklist := field b 40 8, wlExts := recOf c.record 1,
                                       result := field b 48 8, resExts := recOf c.record 2, wlScr := 64 * wl.off64, buckets := imgs }
                  done { s with caddy := { s.caddy with bind := s.caddy.bind.wr (p * 16 + slot) x } } .ok .none))

/-- The 16 bytes of a sequence stamp (12 Table 12.5). -/
def seqStamp (e : Seq) (st : Status) (flags : Nat) : List Byte :=
  leBytes 8 e.count ++ leBytes 4 e.pos ++ leBytes 1 st.code ++ leBytes 1 flags ++ leBytes 2 0

/-- The DONE flag of a stamp. -/
def Seq.doneFlag (e : Seq) : Nat := if e.st = .done then 1 else 0

/-- Write a sequence's stamp and go on; a stamp refused at its backing is not written, a busy line waits (09 R359). -/
def State.stampSeq (s : State) (p : Nat) (e : Seq) (st : Status) (flags : Nat) (k : State → State) : State :=
  match s.writeDva (.parcel p) e.stampExts e.stamp (seqStamp e st flags) with
  | .ok _ s => k s
  | .wait s => s
  | _ => k s

/-- The lowest entry in no use. -/
def State.freeEntry (s : State) : Option Nat := (List.range 1024).find? (fun i => (s.caddy.seqs.rd i).st == .free)

/-- The victim of an eviction (12 R455): evictable, of lower priority than the opener; the lowest priority, then the oldest last
step. -/
def State.evictVictim (s : State) (p slot prio : Nat) : Option (Nat × Seq) :=
  let cs := (s.seqsOf p slot).filter (fun (e : Nat × Seq) => e.2.evictable && decide (e.2.prio > prio))
  cs.foldl (fun (best : Option (Nat × Seq)) (e : Nat × Seq) => match best with
    | none => some e
    | some b => if e.2.prio > b.2.prio ∨ (e.2.prio = b.2.prio ∧ e.2.lastStep < b.2.lastStep) then some e else some b) none

/-- Add one to a parcel's evictions in a metered parcel (12 R461). -/
def State.countEviction (s : State) (p : Nat) : State :=
  if (s.parcel p).tally then s
  else { s with caddy := { s.caddy with stats := s.caddy.stats.upd p (fun x => { x with evictions := x.evictions + 1 }) } }

/-- SEQ_OPEN (12 R438, R455, R456). -/
def execSeqOpen (q : Fin 1024) (s : State) : Out :=
  .next (s.caddyCmd q 0x11 true (fun s p slot c =>
    let b := c.bytes
    let id := field b 24 4
    let ext := bitAt (field b 29 1) 0
    let len := field b 40 4
    let start := field b 44 4
    let stateExts := recOf c.record 1
    let done (s : State) (st : Status) (ca : Cause) : State := s.endCmd q c.serial st ca
    let enter (s : State) (i : Nat) : State :=
      let e : Seq := { st := if len > 0 then .prefill else .feedWait, parcel := p, job := slot, id := id, prio := field b 28 1,
                       external := ext, evictable := bitAt (field b 29 1) 1, prompt := field b 32 8, promptLeft := len,
                       promptExts := recOf c.record 0, pos := start, state := field b 48 8, stateBytes := field b 56 8,
                       stateExts := stateExts, out := field b 64 8, outExts := recOf c.record 2, maxNew := field b 72 4,
                       stamp := field b 80 8, stampExts := recOf c.record 3,
                       count := if start = 0 then 0 else Config.reopenCount s.freeCtr, order := s.caddy.order }
      let s := { s with caddy := { s.caddy with seqs := s.caddy.seqs.wr i e, order := s.caddy.order + 1 } }
      done s.bump .ok .none
    if (s.seqBy p slot id).isSome ∨ (len = 0 ∧ ext = false) ∨ field b 56 8 = 0 then done s .unsupported .none
    else if stateExts.length > 4 then
      let (s, seq) := s.raiseFault q p .extentLimit 1 (field b 48 8) 3
      done (s.updCmd q c.serial (fun c => { c with faultSeq := seq })) .faulted .extentLimit
    else
      let room := decide (s.caddyInUse p < s.caddy.quota.rd p)
      match (if room then s.freeEntry else none) with
      | some i => enter s i
      | none =>
          match s.evictVictim p slot (field b 28 1) with
          | some (i, v) =>
              s.stampSeq p v .truncated (v.doneFlag + 2) (fun s => enter (((s.freeSeq i).emit 57 0x360 p p).countEviction p) i)
          | none =>
              let s := s.emit 57 0x361 p p
              done (s.updCmd q c.serial (fun c => { c with faultSeq := 1 })) .busy .none))

/-- SEQ_APPEND (12 R439, R441): a DONE sequence gets more prompt and a new turn. -/
def execSeqAppend (q : Fin 1024) (s : State) : Out :=
  .next (s.caddyCmd q 0x12 true (fun s p slot c =>
    let b := c.bytes
    match s.seqBy p slot (field b 24 4) with
    | some (i, e) =>
        if e.st ≠ .done then s.endCmd q c.serial .unsupported .none
        else
          let s := s.updSeq i (fun e =>
            { e with st := .prefill, prompt := field b 32 8, promptLeft := field b 28 4, promptExts := recOf c.record 0,
                     out := field b 40 8, outExts := recOf c.record 1, maxNew := field b 48 4, outs := 0, order := s.caddy.order,
                     fedWait := false })
          { s with caddy := { s.caddy with order := s.caddy.order + 1 } }.endCmd q c.serial .ok .none
    | none => s.endCmd q c.serial .unsupported .none))

/-- An output of a turn: the run of its location and its bytes (12 R454). -/
def outRun (e : Seq) (token : Nat) : Nat × List Byte := (e.out + 8 * e.outs, leBytes 4 token ++ leBytes 4 e.pos)

/-- SEQ_FEED (12 R440, R453): the token answers a step's RESULT row, and is then written out, or is a first input. -/
def execSeqFeed (q : Fin 1024) (s : State) : Out :=
  .next (s.caddyCmd q 0x13 true (fun s p slot c =>
    let token := field c.bytes 28 4
    let fin := bitAt (field c.bytes 32 1) 0
    let done (s : State) : State := s.endCmd q c.serial .ok .none
    match s.seqBy p slot (field c.bytes 24 4) with
    | some (i, e) =>
        if e.st ≠ .feedWait then s.endCmd q c.serial .unsupported .none
        else if !e.fedWait then
          done (s.updSeq i (fun e => { e with st := if fin then .done else .ready, token := token }))
        else
          let e' : Seq := { e with st := if fin ∨ e.outs + 1 ≥ e.maxNew then .done else .ready, token := token, outs := e.outs + 1,
                                   count := e.count + 1, fedWait := false }
          let o := outRun e token
          match s.writeDva (.parcel p) e.outExts o.1 o.2 with
          | .wait s => s
          | .ok _ s => s.stampSeq p e' .ok e'.doneFlag (fun s => done (s.updSeq i (fun _ => e')))
          | .fail st ca => s.endCmd q c.serial st ca
          | .remote _ _ => s.endCmd q c.serial .faulted .exec
    | none => s.endCmd q c.serial .unsupported .none))

/-- Close a sequence: its stamp carries CLOSED, and its entry is free (12 R441). -/
def State.closeSeq (s : State) (p i : Nat) (e : Seq) (k : State → State) : State :=
  s.stampSeq p e .ok (e.doneFlag + 4) (fun s => k (s.freeSeq i))

/-- SEQ_CLOSE (12 R441). -/
def execSeqClose (q : Fin 1024) (s : State) : Out :=
  .next (s.caddyCmd q 0x14 true (fun s p slot c =>
    match s.seqBy p slot (field c.bytes 24 4) with
    | some (i, e) => s.closeSeq p i e (fun s => s.endCmd q c.serial .ok .none)
    | none => s.endCmd q c.serial .unsupported .none))

/-- Close sequences in order and go on. -/
def closeAll (p : Nat) (k : State → State) : List (Nat × Seq) → State → State
  | [], s => k s
  | (i, e) :: rest, s => s.closeSeq p i e (fun s => closeAll p k rest s)

/-- CADDY_UNBIND (12 R441). -/
def execCaddyUnbind (q : Fin 1024) (s : State) : Out :=
  .next (s.caddyCmd q 0x15 true (fun s p slot c =>
    closeAll p (fun s =>
      { s with caddy := { s.caddy with bind := s.caddy.bind.wr (p * 16 + slot) {} } }.endCmd q c.serial .ok .none) (s.seqsOf p slot) s))

/-! ## Building a step (12 R448-R451, R458) -/

/-- Insert an element where a test first puts it before another. -/
def insertBy {α : Type} (before : α → α → Bool) (x : α) : List α → List α
  | [] => [x]
  | y :: ys => if before x y then x :: y :: ys else y :: insertBy before x ys

/-- Sort by a test, keeping the order of equals. -/
def sortBy {α : Type} (before : α → α → Bool) (l : List α) : List α := l.foldr (insertBy (fun x y => !before y x)) []

/-- READY sequences, by priority then oldest last step (12 R449). -/
def readyOrder (l : List (Nat × Seq)) : List (Nat × Seq) :=
  sortBy (fun a b => decide (a.2.prio < b.2.prio ∨ (a.2.prio = b.2.prio ∧ a.2.lastStep < b.2.lastStep)))
    (l.filter (fun e => e.2.st == .ready))

/-- PREFILL sequences, by priority then order of OPEN or APPEND (12 R449). -/
def prefillOrder (l : List (Nat × Seq)) : List (Nat × Seq) :=
  sortBy (fun a b => decide (a.2.prio < b.2.prio ∨ (a.2.prio = b.2.prio ∧ a.2.order < b.2.order)))
    (l.filter (fun e => e.2.st == .prefill))

/-- Prompt chunks: entries with their row counts, while rows are left; one of lower priority waits behind one that keeps prompt left
(12 R449, R450). -/
def chunks (chunk : Nat) : List (Nat × Seq) → Nat → Option Nat → List (Nat × Seq × Nat)
  | [], _, _ => []
  | (i, e) :: rest, room, held =>
      let n := Nat.min (Nat.min chunk e.promptLeft) room
      if n == 0 || (match held with | some k => decide (e.prio > k) | none => false) then []
      else
        let held := if n < e.promptLeft ∧ held.isNone then some e.prio else held
        (i, e, n) :: chunks chunk rest (room - n) held

/-- The rows of a step: entries with the number of rows each takes; token rows first, then prompt chunks, then the refill. -/
def stepPlan (b : Binding) (l : List (Nat × Seq)) : List (Nat × Seq × Nat) :=
  let ready := readyOrder l
  let pre := prefillOrder l
  let reserve := if pre.isEmpty then 0 else b.rowBudget * b.share / 16
  let first := ready.take (b.rowBudget - reserve)
  let cs := chunks b.chunk pre (b.rowBudget - first.length) none
  let used := cs.foldl (fun n (x : Nat × Seq × Nat) => n + x.2.2) first.length
  let more := (ready.drop first.length).take (b.rowBudget - used)
  first.map (fun x => (x.1, x.2, 1)) ++ cs ++ more.map (fun x => (x.1, x.2, 1))

/-- The work-list rows of a plan, from a row number on, reading prompts from memory. -/
def planRows (p : Nat) : List (Nat × Seq × Nat) → Nat → State → Acc (List WlRow)
  | [], _, s => .ok [] s
  | (i, e, n) :: rest, at', s =>
      let more (rows : List WlRow) (s : State) : Acc (List WlRow) :=
        (planRows p rest (at' + n) s).andThen (fun rs s => .ok (rows ++ rs) s)
      if e.st = .ready then more [{ entry := i, kind := 1, pos := e.pos, token := e.token, firstRow := at' }] s
      else (s.readDva (.parcel p) e.promptExts e.prompt (4 * n)).andThen (fun b s =>
        more ((List.range n).map (fun k => { entry := i, kind := if k + 1 = e.promptLeft then 3 else 2, pos := e.pos + k,
                                             token := field b (4 * k) 4, firstRow := at' })) s)

/-- The 16 bytes of a work-list row (12 Table 12.4). -/
def WlRow.bytes (r : WlRow) : List Byte :=
  leBytes 2 r.entry ++ leBytes 1 r.kind ++ leBytes 1 0 ++ leBytes 4 r.pos ++ leBytes 4 r.token ++ leBytes 2 r.firstRow ++ leBytes 2 0

/-- Translate again the state memory of sequences that a shootdown overlapped (12 R458). Answers whether that is over. -/
def retransSeqs (q p slot : Nat) (cfg : XlatConfig) : List (Nat × Seq) → State → State × Bool
  | [], s => (s, true)
  | (i, e) :: rest, s =>
      if !e.retrans then retransSeqs q p slot cfg rest s
      else
        match trRegion s p cfg true false 64 { dva := e.state, len := e.stateBytes, r := true, w := true } with
        | .wait s => (s, false)
        | .ok es s =>
            if es.length ≤ 4 then retransSeqs q p slot cfg rest (s.updSeq i (fun e => { e with stateExts := es, retrans := false }))
            else
              let e' : Seq := { e with st := .done, retrans := false }
              let (s, _) := s.raiseFault q p .extentLimit 1 e.state 3
              retransSeqs q p slot cfg rest ((s.stampSeq p e' .faulted 1 id).updSeq i (fun _ => e'))
        | .fault c s =>
            let e' : Seq := { e with st := .done, retrans := false }
            let (s, _) := s.raiseFault q p c 1 e.state 3
            retransSeqs q p slot cfg rest ((s.stampSeq p e' .faulted 1 id).updSeq i (fun _ => e'))

/-- Put a generated step at the head of its queue (12 R442, R443): it is pretranslated as it starts. -/
def State.injectStep (s : State) (q : Nat) (b : Binding) (bucket : Bucket) (rows : List WlRow) : State :=
  let c : Cmd := { serial := s.serial, bytes := bucket.bytes, items := itemsOf bucket.bytes, gen := some (b.stepNo + 1),
                   rows := rows ++ List.replicate (bucket.rows - rows.length) {}, retrans := true }
  { s with serial := s.serial + 1 }.updQ q (fun x => { x with consumed := c :: x.consumed })

/-- Count a step of a metered parcel (12 R461). -/
def State.countStep (s : State) (p rows pad : Nat) : State :=
  if (s.parcel p).tally then s
  else { s with caddy := { s.caddy with stats := s.caddy.stats.upd p (fun x =>
    { x with steps := x.steps + 1, rows := x.rows + BitVec.ofNat 64 rows, padRows := x.padRows + BitVec.ofNat 64 pad }) } }

/-- The work list's place in scratch: slice, offset (12 R448). -/
def State.wlPlace (s : State) (p : Nat) (b : Binding) : Option (Nat × Nat) := ((s.parcel p).sliceOf 0).map (fun sl => (sl, b.wlScr))

/-- CADDY_STEP_DISPATCH (12 R442, R448-R451): with no caddy command to apply and pending work, the rows are chosen, the work list is
written to memory and to scratch, and the bucket's command is put at the head of the step queue. -/
def execCaddyStepDispatch (q : Fin 1024) (s : State) : Out :=
  .next (
    match s.jobOf q with
    | none => s
    | some (p, slot) =>
        let b := s.caddy.bind.rd (p * 16 + slot)
        if !s.stepQueue p slot q || (s.queue q).st != .opened || !(s.queue q).consumed.isEmpty || !s.mayStart p slot || s.xlatShut p
            || !s.caddyPending p slot then s
        else match retransSeqs q p slot (s.job p slot).cfg (s.seqsOf p slot) s with
          | (s, false) => s
          | (s, true) =>
              let plan := stepPlan b (s.seqsOf p slot)
              if plan.isEmpty then s
              else match planRows p plan 0 s with
                | .wait s => s
                | .remote _ _ => s.faultQueue q
                | .fail _ _ => s.faultQueue q
                | .ok rows s =>
                    match b.buckets.find? (fun (k : Bucket) => decide (rows.length ≤ k.rows)), s.wlPlace p b with
                    | some bucket, some (sl, off) =>
                        let bytes := (rows ++ List.replicate (bucket.rows - rows.length) ({} : WlRow)).flatMap WlRow.bytes
                        let gs := granules off bytes.length
                        if !s.canClaim sl gs then s
                        else match s.writeDva (.parcel p) b.wlExts b.worklist bytes with
                          | .wait s => s
                          | .ok _ s =>
                              let (s, cs) := s.takeClaims sl gs
                              let s := (s.updSlc sl (fun x => x.store off bytes)).complete cs
                              let s := (s.injectStep q b bucket rows).countStep p rows.length (bucket.rows - rows.length)
                              { s with caddy := { s.caddy with bind := s.caddy.bind.upd (p * 16 + slot) (fun b => { b with stepNo := b.stepNo + 1 }) } }
                          | _ => s.faultQueue q
                    | _, _ => s.faultQueue q)

/-! ## The results of a step (12 R452-R454) -/

/-- What a step does to a sequence: its new entry, and its output if it has one. -/
def advanceSeq (step : Nat) (e : Seq) (rows : List WlRow) (res : Option (Nat × Bool)) : Seq × Option (Nat × List Byte) :=
  let n := rows.length
  let prompt := e.st == .prefill
  let e : Seq := { e with pos := e.pos + n, lastStep := step, promptLeft := if prompt then e.promptLeft - n else e.promptLeft,
                          prompt := if prompt then e.prompt + 4 * n else e.prompt }
  match res with
  | none => (e, none)
  | some (token, fin) =>
      if e.external then ({ e with st := .feedWait, fedWait := true }, none)
      else
        let o := outRun e token
        ({ e with st := if fin ∨ e.outs + 1 ≥ e.maxNew then .done else .ready, token := token, outs := e.outs + 1, count := e.count + 1 },
          some o)

/-- CADDY_STEP_RESULTS (12 R452-R454): the RESULT rows of token rows and last prompt rows are read, outputs are written, then the
stamps of the sequences whose output changed. -/
def execCaddyStepResults (q : Fin 1024) (s : State) : Out :=
  .next (
    match (s.queue q).consumed, s.jobOf q with
    | c :: _, some (p, slot) =>
        let b := s.caddy.bind.rd (p * 16 + slot)
        if c.gen.isNone || !c.isOver || c.resultsDone || c.outcome.1 != .ok then s
        else match s.readDva (.parcel p) b.resExts b.result (16 * c.rows.length) with
          | .wait s => s
          | .ok r s =>
              let live := c.rows.zipIdx.filter (fun (x : WlRow × Nat) => x.1.kind != 0)
              let entries := (live.map (fun (x : WlRow × Nat) => x.1.entry)).eraseDups
              let news := entries.map (fun i =>
                let mine := live.filter (fun (x : WlRow × Nat) => x.1.entry == i)
                let res := (mine.find? (fun (x : WlRow × Nat) => x.1.kind != 2)).map (fun (x : WlRow × Nat) =>
                  (field r (16 * x.2) 4, bitAt (field r (16 * x.2 + 4) 1) 0))
                (i, s.caddy.seqs.rd i, advanceSeq (c.gen.getD 0) (s.caddy.seqs.rd i) (mine.map Prod.fst) res))
              let outs := news.filterMap (fun (x : Nat × Seq × Seq × Option (Nat × List Byte)) => x.2.2.2.map (fun o => (x.2.1, x.2.2.1, o)))
              let ps := outs.map (fun (x : Seq × Seq × Nat × List Byte) => runPieces x.1.outExts x.2.2.1 8)
              let qs := outs.map (fun (x : Seq × Seq × Nat × List Byte) => runPieces x.1.stampExts x.1.stamp 16)
              let bytes := outs.flatMap (fun (x : Seq × Seq × Nat × List Byte) => x.2.2.2)
                ++ outs.flatMap (fun (x : Seq × Seq × Nat × List Byte) => seqStamp x.2.1 .ok x.2.1.doneFlag)
              let fail (s : State) : State := (s.setItem q c.serial 0 (.done .faulted .exec))
              if (ps ++ qs).any (·.isNone) then fail s
              else match s.writeAll (.parcel p) 2 (s.parcel p).fabricId ((ps ++ qs).flatMap (·.getD [])) bytes with
                | .wait s => s
                | .ok s =>
                    let s := news.foldl (fun (s : State) (x : Nat × Seq × Seq × Option (Nat × List Byte)) => s.updSeq x.1 (fun _ => x.2.2.1)) s
                    s.updCmd q c.serial (fun c => { c with resultsDone := true })
                | .start _ s => fail s
                | .fail _ _ s => fail s
          | _ => s.setItem q c.serial 0 (.done .faulted .exec)
    | _, _ => s)

end Sys2Proof.Machine
end

