-- ==== Sys2Proof/Machine/DictTable.lean ====
section
/-! DEFINITION. The entries of the object dictionary (22 Tables 22.1-22.14): index, subindexes, type, rights, class and size. -/
namespace Sys2Proof.Machine
open Sys2Proof

/-- One row of Tables 22.2-22.14: indexes `lo` to `lo + span - 1`; subindexes `first` to `last`, a single entry when `first` is 0; the
type code of Table 21.1; the rights as five hexadecimal digits in the order RTP, HOSTK, PARCEL, SURV, BOARD, with 0 none, 1 r, 2 w, 3 x,
4 c, 5 R, 6 W, 7 X (Table 22.1); whether it is ledger-class and result-bearing; its least and its fixed or greatest size. -/
structure DictRow where
  lo : Nat
  span : Nat := 1
  first : Nat := 0
  last : Nat := 0
  type : Nat
  rights : Nat
  ledger : Bool := false
  rb : Bool := false
  size : Nat
  min : Nat := size
deriving DecidableEq, Repr

/-- Tables 22.2 and 22.3. -/
def dictRows1 : List DictRow :=
  [ { lo := 0x1000, first := 1, last := 1, type := 3, rights := 0x44444, size := 2 },
    { lo := 0x1000, first := 2, last := 2, type := 2, rights := 0x44444, size := 1 },
    { lo := 0x1000, first := 3, last := 3, type := 3, rights := 0x44444, size := 2 },
    { lo := 0x1000, first := 4, last := 4, type := 10, rights := 0x44444, size := 16 },
    { lo := 0x1000, first := 5, last := 5, type := 9, rights := 0x44444, size := 22 },
    { lo := 0x1000, first := 6, last := 6, type := 9, rights := 0x44444, size := 7 },
    { lo := 0x1000, first := 7, last := 7, type := 3, rights := 0x44444, size := 2 },
    { lo := 0x1000, first := 8, last := 8, type := 11, rights := 0x11111, size := 4 },
    { lo := 0x1100, type := 11, rights := 0x11001, size := 24 },
    { lo := 0x1101, type := 3, rights := 0x33003, size := 2 },
    { lo := 0x1102, type := 3, rights := 0x30003, ledger := true, size := 2 },
    { lo := 0x1103, first := 1, last := 15, type := 11, rights := 0x33000, size := 4 },
    { lo := 0x1104, type := 3, rights := 0x03000, size := 2 },
    { lo := 0x1110, type := 10, rights := 0x02000, size := 4096, min := 4 },
    { lo := 0x1111, type := 10, rights := 0x01000, rb := true, size := 4096, min := 0 },
    { lo := 0x2000, first := 1, last := 64, type := 11, rights := 0x11001, size := 21 },
    { lo := 0x2001, type := 2, rights := 0x11111, size := 1 },
    { lo := 0x2002, type := 2, rights := 0x02002, size := 1 },
    { lo := 0x2003, type := 11, rights := 0x33003, size := 4 },
    { lo := 0x2004, type := 1, rights := 0x33003, ledger := true, size := 1 },
    { lo := 0x2005, type := 4, rights := 0x33000, size := 4 },
    { lo := 0x2006, type := 11, rights := 0x11001, size := 8 },
    { lo := 0x2007, type := 5, rights := 0x11001, size := 8 },
    { lo := 0x2010, first := 1, last := 80, type := 11, rights := 0x11001, size := 16 },
    { lo := 0x2011, first := 1, last := 80, type := 3, rights := 0x33000, size := 2 },
    { lo := 0x2100, type := 2, rights := 0x11001, size := 1 },
    { lo := 0x2101, first := 1, last := 6, type := 11, rights := 0x31003, ledger := true, size := 4 },
    { lo := 0x2102, type := 2, rights := 0x30003, ledger := true, size := 1 },
    { lo := 0x2103, type := 2, rights := 0x33003, ledger := true, size := 1 },
    { lo := 0x2104, first := 1, last := 7, type := 4, rights := 0x11001, size := 4 },
    { lo := 0x2200, first := 1, last := 1, type := 11, rights := 0x44400, size := 8 },
    { lo := 0x2200, first := 2, last := 8, type := 11, rights := 0x33100, size := 8 },
    { lo := 0x2201, first := 1, last := 8, type := 2, rights := 0x33500, size := 1 },
    { lo := 0x2202, type := 2, rights := 0x33000, size := 1 },
    { lo := 0x2203, first := 1, last := 16, type := 11, rights := 0x11000, size := 5 } ]

/-- Tables 22.4 and 22.5. -/
def dictRows2 : List DictRow :=
  [ { lo := 0x3000, first := 1, last := 16, type := 2, rights := 0x11000, size := 1 },
    { lo := 0x3001, first := 1, last := 16, type := 11, rights := 0x11000, size := 137, min := 1 },
    { lo := 0x3002, first := 1, last := 16, type := 1, rights := 0x33000, size := 1 },
    { lo := 0x3010, first := 1, last := 16, type := 5, rights := 0x11000, size := 8 },
    { lo := 0x3011, first := 1, last := 16, type := 4, rights := 0x11000, size := 4 },
    { lo := 0x3100, first := 1, last := 4, type := 2, rights := 0x11001, size := 1 },
    { lo := 0x3101, first := 1, last := 4, type := 4, rights := 0x11001, size := 4 },
    { lo := 0x3102, first := 1, last := 4, type := 3, rights := 0x33003, ledger := true, size := 2 },
    { lo := 0x3103, first := 1, last := 4, type := 2, rights := 0x33003, ledger := true, size := 1 },
    { lo := 0x3104, first := 1, last := 4, type := 12, rights := 0x33000, size := 9 },
    { lo := 0x3105, type := 3, rights := 0x31101, size := 2 },
    { lo := 0x3106, first := 1, last := 10, type := 11, rights := 0x11000, size := 16 },
    { lo := 0x3107, type := 3, rights := 0x33000, size := 2 },
    { lo := 0x3108, type := 3, rights := 0x33000, size := 2 },
    { lo := 0x3109, type := 11, rights := 0x11001, size := 12 },
    { lo := 0x3200, first := 1, last := 8, type := 11, rights := 0x33500, size := 40 },
    { lo := 0x3201, type := 11, rights := 0x33000, size := 14 },
    { lo := 0x3202, type := 4, rights := 0x03000, size := 4 },
    { lo := 0x3203, type := 11, rights := 0x02000, size := 9 },
    { lo := 0x3204, type := 11, rights := 0x22000, size := 24 },
    { lo := 0x3205, type := 4, rights := 0x11000, size := 4 },
    { lo := 0x3206, first := 1, last := 8, type := 11, rights := 0x11000, size := 20 },
    { lo := 0x3207, type := 1, rights := 0x11000, size := 1 },
    { lo := 0x3300, span := 8, first := 1, last := 128, type := 11, rights := 0x33500, size := 32 },
    { lo := 0x3308, span := 8, first := 1, last := 128, type := 11, rights := 0x11500, size := 24 },
    { lo := 0x3310, type := 11, rights := 0x22000, size := 3 },
    { lo := 0x3311, type := 3, rights := 0x03000, size := 2 },
    { lo := 0x3340, span := 2, first := 1, last := 128, type := 11, rights := 0x11000, size := 12 },
    { lo := 0x3342, type := 2, rights := 0x22000, size := 1 },
    { lo := 0x3380, type := 11, rights := 0x22000, size := 32 },
    { lo := 0x3381, type := 11, rights := 0x11000, rb := true, size := 125, min := 5 },
    { lo := 0x3382, first := 1, last := 8, type := 11, rights := 0x33500, size := 4 },
    { lo := 0x3390, span := 8, first := 1, last := 16, type := 11, rights := 0x11500, size := 11 } ]

/-- Tables 22.6-22.8. -/
def dictRows3 : List DictRow :=
  [ { lo := 0x3400, span := 8, first := 1, last := 1, type := 11, rights := 0x31501, size := 4 },
    { lo := 0x3400, span := 8, first := 2, last := 4, type := 3, rights := 0x31501, size := 2 },
    { lo := 0x3400, span := 8, first := 5, last := 5, type := 2, rights := 0x31501, size := 1 },
    { lo := 0x3400, span := 8, first := 6, last := 6, type := 11, rights := 0x31501, size := 4 },
    { lo := 0x3400, span := 8, first := 7, last := 7, type := 2, rights := 0x31501, size := 1 },
    { lo := 0x3400, span := 8, first := 8, last := 8, type := 10, rights := 0x31501, size := 32 },
    { lo := 0x3400, span := 8, first := 9, last := 9, type := 11, rights := 0x31501, size := 6 },
    { lo := 0x3408, type := 5, rights := 0x11101, size := 8 },
    { lo := 0x3410, span := 8, first := 1, last := 16, type := 11, rights := 0x11500, size := 120 },
    { lo := 0x3500, type := 3, rights := 0x11000, size := 2 },
    { lo := 0x3501, first := 1, last := 8, type := 3, rights := 0x33500, size := 2 },
    { lo := 0x3502, first := 1, last := 8, type := 3, rights := 0x11500, size := 2 },
    { lo := 0x3503, first := 1, last := 8, type := 11, rights := 0x11000, size := 28 },
    { lo := 0x3600, type := 2, rights := 0x11000, size := 1 },
    { lo := 0x3601, first := 1, last := 8, type := 5, rights := 0x31501, size := 8 },
    { lo := 0x3602, first := 1, last := 8, type := 3, rights := 0x31501, size := 2 },
    { lo := 0x3603, first := 1, last := 8, type := 11, rights := 0x01500, size := 20 },
    { lo := 0x3700, first := 1, last := 16, type := 11, rights := 0x33500, size := 48 },
    { lo := 0x3701, first := 1, last := 16, type := 11, rights := 0x11500, size := 17 },
    { lo := 0x3702, type := 11, rights := 0x22000, size := 2 },
    { lo := 0x3800, type := 2, rights := 0x11001, size := 1 },
    { lo := 0x3801, type := 11, rights := 0x33000, size := 2 },
    { lo := 0x3802, type := 10, rights := 0x22600, size := 32768, min := 1 },
    { lo := 0x3803, type := 2, rights := 0x22600, size := 1 },
    { lo := 0x3804, type := 10, rights := 0x11001, size := 48 },
    { lo := 0x3805, type := 11, rights := 0x11500, size := 32 },
    { lo := 0x3806, type := 11, rights := 0x11500, size := 20 },
    { lo := 0x3807, type := 3, rights := 0x03000, size := 2 } ]

/-- Tables 22.9 and 22.10. -/
def dictRows4 : List DictRow :=
  [ { lo := 0x4000, first := 1, last := 1, type := 2, rights := 0x11111, size := 1 },
    { lo := 0x4001, first := 1, last := 8, type := 11, rights := 0x33003, ledger := true, size := 2 },
    { lo := 0x4002, first := 1, last := 8, type := 11, rights := 0x11011, size := 11 },
    { lo := 0x4003, first := 1, last := 8, type := 11, rights := 0x11010, size := 48 },
    { lo := 0x4004, type := 3, rights := 0x30003, ledger := true, size := 2 },
    { lo := 0x4005, type := 3, rights := 0x30003, ledger := true, size := 2 },
    { lo := 0x4010, type := 10, rights := 0x33030, size := 131072 },
    { lo := 0x4011, type := 4, rights := 0x33030, size := 4 },
    { lo := 0x4012, type := 11, rights := 0x11010, size := 26 },
    { lo := 0x4020, first := 1, last := 8, type := 11, rights := 0x33500, size := 32 },
    { lo := 0x4021, first := 1, last := 8, type := 11, rights := 0x11500, size := 5 },
    { lo := 0x4100, first := 1, last := 1, type := 5, rights := 0x11111, size := 8 },
    { lo := 0x4100, first := 2, last := 2, type := 11, rights := 0x11111, size := 33, min := 5 },
    { lo := 0x4100, first := 3, last := 3, type := 10, rights := 0x11111, size := 48 },
    { lo := 0x4100, first := 4, last := 4, type := 11, rights := 0x11111, size := 60 },
    { lo := 0x4100, first := 5, last := 5, type := 10, rights := 0x11111, size := 67586, min := 2 },
    { lo := 0x4100, first := 6, last := 6, type := 11, rights := 0x11111, size := 4 },
    { lo := 0x4101, type := 11, rights := 0x11011, size := 10 },
    { lo := 0x4102, type := 11, rights := 0x22002, size := 67691, min := 79 },
    { lo := 0x4103, type := 11, rights := 0x11001, rb := true, size := 9 },
    { lo := 0x4104, type := 11, rights := 0x00000, size := 80 },
    { lo := 0x4105, first := 1, last := 8, type := 11, rights := 0x11010, size := 91 },
    { lo := 0x4106, type := 11, rights := 0x11010, size := 51 },
    { lo := 0x4108, type := 11, rights := 0x00000, size := 8 },
    { lo := 0x4109, type := 11, rights := 0x00000, size := 10 },
    { lo := 0x4200, type := 5, rights := 0x11111, size := 8 },
    { lo := 0x4201, type := 11, rights := 0x11011, size := 16 },
    { lo := 0x4202, type := 5, rights := 0x02000, size := 8 } ]

/-- Tables 22.11-22.14. -/
def dictRows5 : List DictRow :=
  [ { lo := 0x5000, type := 2, rights := 0x11111, size := 1 },
    { lo := 0x5001, first := 1, last := 8, type := 11, rights := 0x11001, size := 52 },
    { lo := 0x5002, type := 10, rights := 0x11011, size := 16 },
    { lo := 0x5003, first := 1, last := 5, type := 11, rights := 0x11011, size := 56 },
    { lo := 0x5004, type := 2, rights := 0x02002, size := 1 },
    { lo := 0x5010, type := 11, rights := 0x02002, size := 72 },
    { lo := 0x5011, first := 1, last := 8, type := 11, rights := 0x11001, size := 112 },
    { lo := 0x5012, type := 11, rights := 0x02002, size := 232 },
    { lo := 0x5020, type := 11, rights := 0x02020, size := 64 },
    { lo := 0x5021, type := 11, rights := 0x11010, rb := true, size := 9 },
    { lo := 0x5030, first := 1, last := 8, type := 11, rights := 0x00600, size := 148 },
    { lo := 0x5031, first := 1, last := 8, type := 11, rights := 0x01500, rb := true, size := 272 },
    { lo := 0x5040, type := 10, rights := 0x02222, size := 32 },
    { lo := 0x5041, type := 10, rights := 0x01111, rb := true, size := 1232 },
    { lo := 0x5042, type := 10, rights := 0x01111, size := 4096, min := 0 },
    { lo := 0x6000, type := 11, rights := 0x33003, size := 2 },
    { lo := 0x6001, type := 11, rights := 0x11011, size := 24 },
    { lo := 0x6002, type := 11, rights := 0x33000, size := 16 },
    { lo := 0x6003, type := 11, rights := 0x11001, size := 16 },
    { lo := 0x6004, type := 11, rights := 0x11011, size := 32 },
    { lo := 0x6010, first := 1, last := 64, type := 10, rights := 0x11011, size := 4096 },
    { lo := 0x6020, span := 32, first := 1, last := 128, type := 11, rights := 0x33011, size := 3 },
    { lo := 0x6100, first := 1, last := 8, type := 11, rights := 0x11500, size := 14 },
    { lo := 0x7000, type := 11, rights := 0x11111, size := 12 },
    { lo := 0x7001, first := 1, last := 48, type := 11, rights := 0x11011, size := 6 },
    { lo := 0x7002, type := 10, rights := 0x11001, ledger := true, size := 512 },
    { lo := 0x7003, type := 2, rights := 0x02002, ledger := true, size := 1 },
    { lo := 0x7004, type := 11, rights := 0x11011, size := 8 },
    { lo := 0x7005, type := 4, rights := 0x33003, ledger := true, size := 4 },
    { lo := 0x7006, type := 2, rights := 0x22002, size := 1 },
    { lo := 0x7007, type := 4, rights := 0x33003, ledger := true, size := 4 },
    { lo := 0x7008, type := 2, rights := 0x30003, ledger := true, size := 1 },
    { lo := 0x7010, type := 11, rights := 0x00001, size := 16 },
    { lo := 0x7011, type := 10, rights := 0x00002, size := 65548, min := 12 },
    { lo := 0x7100, type := 11, rights := 0x11011, size := 8 },
    { lo := 0x7101, type := 2, rights := 0x22002, ledger := true, size := 1 },
    { lo := 0x7102, first := 1, last := 8, type := 11, rights := 0x11011, size := 8 },
    { lo := 0x7103, first := 1, last := 16, type := 11, rights := 0x11001, size := 3 },
    { lo := 0x7104, type := 2, rights := 0x02022, size := 1 },
    { lo := 0x7105, type := 2, rights := 0x11111, size := 1 },
    { lo := 0x7106, type := 3, rights := 0x33003, ledger := true, size := 2 },
    { lo := 0x7F00, type := 11, rights := 0x33003, ledger := true, size := 10 },
    { lo := 0x7F01, type := 11, rights := 0x22002, size := 3 },
    { lo := 0x7F02, type := 11, rights := 0x11001, rb := true, size := 3 },
    { lo := 0x7F03, first := 1, last := 34, type := 11, rights := 0x11001, size := 29 } ]

/-- Every row (22 R787). -/
def dictRows : List DictRow := dictRows1 ++ dictRows2 ++ dictRows3 ++ dictRows4 ++ dictRows5

/-- The row names an index. -/
def DictRow.hasIndex (r : DictRow) (index : Nat) : Bool := decide (r.lo ≤ index ∧ index < r.lo + r.span)

/-- The highest subindex of a family index (21 R764, 22 R801), none for a single entry or an absent index. -/
def familyHigh (index : Nat) : Option Nat :=
  match (dictRows.filter (fun r => r.hasIndex index)) with
  | [] => none
  | r :: rs => if r.first = 0 then none else some (rs.foldl (fun a x => Nat.max a x.last) r.last)

/-- The entry at an index and subindex (21 R764): subindex 0 of a family is a CONST U8. -/
def dictEntry (index sub : Nat) : Option DictRow :=
  if sub = 0 ∧ (familyHigh index).isSome then some { lo := index, type := 2, rights := 0x44444, size := 1 }
  else dictRows.find? (fun r => r.hasIndex index && decide (r.first ≤ sub ∧ sub ≤ r.last))

/-- The code of a right for a principal (22 Table 22.1). -/
def DictRow.code (r : DictRow) (by' : Principal) : Nat :=
  match by' with
  | .rtp => r.rights / 65536 % 16
  | .hostk => r.rights / 4096 % 16
  | .parcel _ => r.rights / 256 % 16
  | .surv => r.rights / 16 % 16
  | .board => r.rights % 16
  | .none => 0

end Sys2Proof.Machine
end

