-- ==== Sys2Proof/Machine/Streams.lean ====
section
/-! DEFINITION. The stream ingress unit: configuration, opening and closing, source tails and the delivery of entries (13
R462-R481). -/
namespace Sys2Proof.Machine
open Sys2Proof

/-- The job a stream names, in its parcel (13 R465). -/
def State.streamSlot (s : State) (c : StreamCfg) : Option Nat :=
  (List.range 16).find? (fun k => let j := s.job c.parcel k; j.st != .ended && j.id.toNat == c.jobId)

/-- A SCRATCH stream is HELD while its job does not hold its parcel (13 R479). -/
def State.streamHeld (s : State) (x : Stream) : Bool :=
  x.cfg.ringKind == 1 && (match s.streamSlot x.cfg with
    | some k => !((s.parcel x.cfg.parcel).holder == some k && (s.job x.cfg.parcel k).st == .holding)
    | none => true)

/-- The code of a stream's state (13 Table 13.2). -/
def State.streamCode (s : State) (x : Stream) : Nat :=
  match x.st with
  | .closed => 0
  | .opened => if s.streamHeld x then 2 else 1
  | .faulted => 3
  | .stopped => 4

/-- A stream becomes FAULTED (13 R470, R475, R476, R481). -/
def State.faultStream (s : State) (n : Nat) : State :=
  ((s.dropGather (.stream n)).updStream n (fun x => { x with st := .faulted, entry := none, phase := 0 })).emit 62 0x371
    (s.streams.rd n).cfg.parcel n

/-- The Kettle image in force has a field. -/
def Kettle.f (k : Kettle) (lo n : Nat) : Nat := field k.image lo n
/-- The rate of the Kettle image in kHz. -/
def Kettle.rate (k : Kettle) : Nat := if k.f 10 1 = 0 then 8 else 16
/-- Its channels: which are enabled. -/
def Kettle.chans (k : Kettle) : Nat := popCount 2 (k.f 7 1)
/-- A sensor entry's byte. -/
def Kettle.sensor (k : Kettle) (i : Nat) (lo n : Nat) : Nat := k.f (k.f 44 4 + 16 * i + lo) n

/-- The bytes one ENTRY_MS of a Kettle output takes (13 Table 13.8). -/
def Kettle.entryNeed (k : Kettle) (out : Nat) : Nat :=
  let e := k.f 18 2
  match out with
  | 0 => e * k.rate * 2 * k.chans
  | 1 => if k.f 12 2 = 0 then 0 else ((e * k.rate + k.f 12 2 - 1) / k.f 12 2) * k.f 11 1
  | 2 => 16 * (List.range 8).foldl (fun n i =>
      let p := k.sensor i 2 2
      if k.sensor i 0 1 = 0 then n else n + (if p = 0 then 1 else (e + p - 1) / p)) 0
  | _ => 32

/-- The ranges of 13 Table 13.1 hold. -/
def StreamCfg.ok (c : StreamCfg) : Bool :=
  let host := c.source == 0
  decide (c.parcel ≤ 7) && (host || decide (0x10 ≤ c.source ∧ c.source ≤ 0x13)) && decide (c.ringKind ≤ 1) && c.jobId != 0
    && (if c.ringKind = 1 then decide (1 ≤ c.log2 ∧ c.log2 ≤ 8) && c.entryBytes % 1024 == 0 && c.ring % 16 == 0 && decide (c.ring < 2 ^ 20)
          && decide (64 * (c.ring % 65536) + 2 ^ c.log2 * c.entryBytes ≤ sliceBytes)
        else decide (4 ≤ c.log2 ∧ c.log2 ≤ 16) && c.entryBytes % 128 == 0 && c.ring % 4096 == 0)
    && decide (128 ≤ c.entryBytes ∧ c.entryBytes ≤ 65536)
    && (if host then c.srcRing % 4096 == 0 && decide (4 ≤ c.srcLog2 ∧ c.srcLog2 ≤ 12) else c.srcRing == 0 && c.srcLog2 == 0)
    && decide (1 ≤ c.weight ∧ c.weight ≤ 16)

/-- STREAM_CONFIG_WRITE (13 R463, R464). -/
def execStreamConfigWrite (by' : Principal) (n : Fin 16) (parcel source kind log2 : Byte) (jobId entryBytes reserved : U32)
    (ring srcRing : U64) (srcLog2 weight : Byte) (reserved2 : BitVec 112) (s : State) : Out :=
  .next (s.served 37 fun s =>
    let c : StreamCfg := { parcel := parcel.toNat, source := source.toNat, ringKind := kind.toNat, log2 := log2.toNat,
                           jobId := jobId.toNat, entryBytes := entryBytes.toNat, ring := ring.toNat, srcRing := srcRing.toNat,
                           srcLog2 := srcLog2.toNat, weight := weight.toNat }
    let others := (List.range 16).filter (fun k => k != n.val && (s.streams.rd k).cfg.jobId != 0)
    if by' ≠ .hostk ∧ by' ≠ .rtp then s.answer .denied
    else if c.ok = false ∨ reserved ≠ 0 ∨ reserved2 ≠ 0 then s.answer .unsupported
    else if s.fatal then s.answer .retired
    else if (s.streams.rd n).st ≠ .closed then s.answer .busy
    else if c.source ≠ 0 ∧ !s.kettle.image.isEmpty ∧ s.kettle.entryNeed (c.source - 0x10) + 32 > c.entryBytes then s.answer .unsupported
    else if c.source ≠ 0 ∧ (others.any (fun k => (s.streams.rd k).cfg.source == c.source) ∨ c.parcel ≠ s.kettle.target) then
      s.answer .denied
    else (s.updStream n (fun x => { x with cfg := c })).answer .ok)

/-- Translate a stream's rings (13 R465, R481): RING with W, SRC_RING with R, each within 4 extents. Answers the extents, a wait, or
the fault. -/
def State.streamRings (s : State) (c : StreamCfg) (slot : Nat) : Pre :=
  let cfg := (s.job c.parcel slot).cfg
  let cached := decide (cfg = s.xlat.cfg.rd c.parcel)
  let src (ring : List Extent) (s : State) : Pre :=
    if c.source ≠ 0 then .ok [(0, ring)] s
    else match trRegion s c.parcel cfg cached false 4 { dva := c.srcRing, len := 2 ^ c.srcLog2 * c.entryBytes, r := true } with
      | .wait s => .wait s
      | .fault ca s => .fault 1 ca s
      | .ok es s => .ok [(0, ring), (1, es)] s
  if c.ringKind = 1 then src [] s
  else match trRegion s c.parcel cfg cached false 4 { dva := c.ring, len := 128 + 2 ^ c.log2 * c.entryBytes, w := true } with
    | .wait s => .wait s
    | .fault ca s => .fault 0 ca s
    | .ok es s => src es s

/-- STREAM_CONTROL OPEN (13 R465, R499; 18 ST37). -/
def execStreamOpen (by' : Principal) (n : Fin 16) (s : State) : Out :=
  .next (s.servedOpen 47 fun s =>
    let x := s.streams.rd n
    let c := x.cfg
    if by' ≠ .hostk ∧ by' ≠ .rtp then s.answer .denied
    else if s.fatal ∨ s.svc.state ≠ 0 ∨ bitAt s.start.retiredFlags 1 then s.answer .retired
    else if x.st ≠ .closed then s.answer .busy
    else match s.streamSlot c with
      | none => s.answer .denied
      | some slot =>
          if c.ringKind = 1 ∧ ((s.parcel c.parcel).resolve (scrOperand c.ring) 0 (2 ^ c.log2 * c.entryBytes)).isNone then
            s.answer .faulted
          else match s.streamRings c slot with
            | .wait s => s
            | .fault i ca s =>
                let dva := if i = 0 then c.ring else c.srcRing
                (s.raiseFault 0xFFFF c.parcel ca i dva (if i = 0 then 2 else 1)).1.answer .faulted
            | .ok rec s =>
                if (s.parcel c.parcel).sealed && c.ringKind == 0 && (recOf rec 0).any (s.unsealedExt c.parcel) then s.answer .denied
                else
                  let s := s.updStream n (fun x => { x with st := .opened, closing := false, seq := 0, ringExts := recOf rec 0,
                                                            srcExts := recOf rec 1, cons := 0, entry := none, phase := 0 })
                  let s := if c.source = 0 then s
                    else
                      let k := s.kettle
                      let o := k.outs.rd (c.source - 0x10)
                      let mark := if o.wake then o.mark else if c.source = 0x10 then some s.now else
                        match o.buf with | (t, _) :: _ => some t | [] => some s.now
                      { s with kettle := { k with outs := k.outs.wr (c.source - 0x10) { o with mark := mark, offer := none } } }
                  s.answer .ok)

/-- STREAM_CONTROL CLOSE (13 R465): complete once the entry in progress has been delivered. -/
def execStreamClose (by' : Principal) (n : Fin 16) (s : State) : Out :=
  .next (s.served 37 fun s =>
    let x := s.streams.rd n
    if by' ≠ .hostk ∧ by' ≠ .rtp then s.answer .denied
    else if x.st = .opened ∧ x.entry.isSome ∧ !s.streamHeld x then s.updStream n (fun x => { x with closing := true })
    else ((s.dropGather (.stream n)).updStream n (fun x => { x with st := .closed, closing := false, entry := none, phase := 0 })).answer .ok)

/-- A write of SRC_TAIL (13 R475). -/
def State.ringSource (s : State) (n : Nat) (v : U32) : State :=
  let x := s.streams.rd n
  if x.st ≠ .opened ∨ x.cfg.source ≠ 0 ∨ (v - x.srcHead).toNat ≤ (x.srcTail - x.srcHead).toNat then s.emit 62 0x372 x.cfg.parcel n
  else if (v - x.srcHead).toNat ≤ 2 ^ x.cfg.srcLog2 then s.updStream n (fun x => { x with srcTail := v })
  else s.faultStream n

/-- SRC_TAIL_WRITE (13 R475): a write of SRC_TAIL on a stream's doorbell page. -/
def execSrcTailWrite (n : Fin 16) (v : U32) (s : State) : Out := .next (if s.awake then s.ringSource n v else s)

/-- An entry's header (13 Table 13.3). -/
def entryHeader (seq capture arrival length dropped flags source : Nat) : List Byte :=
  leBytes 8 seq ++ leBytes 8 capture ++ leBytes 8 arrival ++ leBytes 4 length ++ leBytes 2 (Nat.min dropped 65535) ++ leBytes 1 flags
    ++ leBytes 1 source

/-- The SIU takes a source record as the next entry (13 R474, R476). -/
def State.takeRecord (s : State) (n : Nat) (b : List Byte) : State :=
  let x := s.streams.rd n
  let len := field b 8 4
  if len > x.cfg.entryBytes - 32 ∨ field b 12 1 &&& 0xF7 ≠ 0 ∨ !zeros b 13 19 then s.faultStream n
  else
    let flags := (if x.seq = 0 then 1 else 0) + (if bitAt (field b 12 1) 3 then 8 else 0)
    s.updStream n (fun x => { x with
      phase := 1
      entry := some (entryHeader (x.seq.toNat + 1) (field b 0 8) s.bench len 0 flags 0 ++ b.drop 32) })

/-- The SIU takes the next entry from its source: a record of the source ring, or what the Kettle output offers (13 R472-R477,
R498, R499). -/
def State.takeEntry (s : State) (n : Nat) : State :=
  let x := s.streams.rd n
  let c := x.cfg
  let o : GOwner := .stream n
  if c.source = 0 then
    if x.srcHead = x.srcTail then s
    else match s.gatherOf o with
      | some g =>
          if !g.ready then s
          else if g.failed.isSome then s.faultStream n
          else (s.dropGather o).takeRecord n (memRead g.buf 0 c.entryBytes)
      | none =>
          match runPieces x.srcExts (c.srcRing + x.srcHead.toNat % 2 ^ c.srcLog2 * c.entryBytes) c.entryBytes with
          | none => s.faultStream n
          | some ps =>
              match s.readAll (.parcel c.parcel) 1 (s.parcel c.parcel).fabricId ps with
              | .ok b s => s.takeRecord n b
              | .wait s => s
              | .start buf reqs s => s.startGather { owner := o, todo := reqs, buf := buf }
              | .fail _ _ s => s.faultStream n
  else
    let k := s.kettle
    let y := k.outs.rd (c.source - 0x10)
    match y.offer with
    | none => s
    | some (t, b) =>
        let b := b.take (c.entryBytes - 32)
        let flags := (if x.seq = 0 then 1 else 0) + (if y.lost > 0 then 2 else 0) + (if y.wake then 4 else 0)
        let s := s.updStream n (fun x => { x with
          phase := 1, dropped := x.dropped + BitVec.ofNat 32 y.lost
          entry := some (entryHeader (x.seq.toNat + 1) (s.toBench t) s.bench b.length y.lost flags c.source ++ b) })
        { s with kettle := { k with outs := k.outs.wr (c.source - 0x10) { y with offer := none, lost := 0, wake := false } } }

/-- An entry has been delivered (13 R472, R476); a close that waited for it completes. -/
def State.entryDone (s : State) (n : Nat) : State :=
  let s := (s.dropGather (.stream n)).updStream n (fun x => { x with
    seq := x.seq + 1, entry := none, phase := 0, srcHead := if x.cfg.source = 0 then x.srcHead + 1 else x.srcHead })
  if (s.streams.rd n).closing then (s.updStream n (fun x => { x with st := .closed, closing := false })).answer .ok else s

/-- Where each part of a MEMORY entry goes, in order: payload, header, PROD (13 R468, R470). -/
def Stream.part (x : Stream) (b : List Byte) : Nat × List Byte :=
  let at' := x.cfg.ring + 128 + x.seq.toNat % 2 ^ x.cfg.log2 * x.cfg.entryBytes
  match x.phase with
  | 1 => (at' + 32, b.drop 32)
  | 2 => (at', b.take 32)
  | _ => (x.cfg.ring, leBytes 8 (x.seq.toNat + 1))

/-- Write the parts of a MEMORY entry from the one that is due, each after the one before it is visible (13 R470). -/
def pushParts (n : Nat) (b : List Byte) : Nat → State → State
  | 0, s => s
  | fuel + 1, s =>
      let x := s.streams.rd n
      if x.phase > 3 then s.entryDone n
      else
        let (dva, bs) := x.part b
        match runPieces x.ringExts dva bs.length with
        | none => s.faultStream n
        | some ps =>
            match s.writeAll (.parcel x.cfg.parcel) 0xC (s.parcel x.cfg.parcel).fabricId ps bs with
            | .ok s => pushParts n b fuel (s.updStream n (fun x => { x with phase := x.phase + 1 }))
            | .wait s => s
            | .start reqs s => s.startGather { owner := .stream n, phase := 1, todo := reqs }
            | .fail _ _ s => s.faultStream n

/-- Put a taken entry into its ring where there is room (13 R469, R470). -/
def State.pushEntry (s : State) (n : Nat) (b : List Byte) : State :=
  let x := s.streams.rd n
  let c := x.cfg
  if c.ringKind = 1 then
    match (s.parcel c.parcel).resolve (scrOperand c.ring) 0 (2 ^ c.log2 * c.entryBytes) with
    | none => s.faultStream n
    | some (sl, base) =>
        let off := base + x.seq.toNat % 2 ^ c.log2 * c.entryBytes
        let gs := granules off c.entryBytes
        let y := s.slc.rd sl
        if y.withdrawn || !y.powered || !gs.all (fun g => (y.gran.rd g).st == .empty) then s
        else
          let (s, cs) := s.takeClaims sl gs
          ((s.updSlc sl (fun y => y.store off b)).complete cs).entryDone n
  else match s.gatherOf (.stream n) with
    | some g =>
        if g.phase = 9 ∨ !g.ready then s
        else if g.failed.isSome then s.faultStream n
        else pushParts n b 4 ((s.dropGather (.stream n)).updStream n (fun x => { x with phase := x.phase + 1 }))
    | none =>
        if x.phase = 1 ∧ x.seq.toNat - x.cons ≥ 2 ^ c.log2 then s
        else pushParts n b 4 s

/-- STREAM_ENTRY_DELIVERY (13 R469, R470, R476-R479). -/
def execStreamEntryDelivery (n : Fin 16) (s : State) : Out :=
  .next (
    let x := s.streams.rd n
    if x.st ≠ .opened ∨ s.streamHeld x ∨ s.fatal ∨ !s.awake then s
    else
      let full := x.cfg.ringKind = 0 ∧ x.seq.toNat - x.cons ≥ 2 ^ x.cfg.log2
      let s := if x.entry.isNone ∧ !x.closing ∧ ¬full ∧ s.power.state = .idle then s.takeEntry n else s
      match (s.streams.rd n).entry with
      | some b => s.pushEntry n b
      | none => s)

/-- CONS as read: it may neither fall nor pass PROD (13 R470). -/
def State.takeCons (s : State) (n v : Nat) : State :=
  let x := s.streams.rd n
  if v < x.cons ∨ v > x.seq.toNat then s.faultStream n else s.updStream n (fun x => { x with cons := v })

/-- CONS_RECHECK (13 R470): the SIU reads CONS again while a MEMORY ring is full. -/
def execConsRecheck (n : Fin 16) (s : State) : Out :=
  .next (
    let x := s.streams.rd n
    let c := x.cfg
    let o : GOwner := .stream n
    if x.st ≠ .opened ∨ c.ringKind ≠ 0 ∨ x.phase > 1 ∨ x.seq.toNat - x.cons < 2 ^ c.log2 then s
    else match s.gatherOf o with
      | some g =>
          if g.phase ≠ 9 ∨ !g.ready then s
          else if g.failed.isSome then s.faultStream n
          else (s.dropGather o).takeCons n (leNat (memRead g.buf 0 8))
      | none =>
          match runPieces x.ringExts (c.ring + 64) 8 with
          | none => s.faultStream n
          | some ps =>
              match s.readAll (.parcel c.parcel) 1 (s.parcel c.parcel).fabricId ps with
              | .ok b s => s.takeCons n (leNat b)
              | .wait s => s
              | .start buf reqs s => s.startGather { owner := o, phase := 9, todo := reqs, buf := buf }
              | .fail _ _ s => s.faultStream n)

/-- A stream's rings that a shootdown overlapped are translated again (13 R481). Answers whether that is over. -/
def State.shotStream (s : State) (p lo hi n : Nat) : State × Bool :=
  let x := s.streams.rd n
  if x.st ≠ .opened ∨ x.cfg.parcel ≠ p ∨ !(recOverlaps [(0, x.ringExts), (1, x.srcExts)] lo hi) then (s, true)
  else match s.streamSlot x.cfg with
    | none => (s, true)
    | some slot =>
        match s.streamRings x.cfg slot with
        | .wait s => (s, false)
        | .fault _ _ s => (s.faultStream n, true)
        | .ok rec s => (s.updStream n (fun x => { x with ringExts := recOf rec 0, srcExts := recOf rec 1 }), true)

end Sys2Proof.Machine
end

