-- ==== Sys2Proof/Machine/Kettle.lean ====
section
/-! DEFINITION. Kettle: its image and target, samples and frames, the vector program, the threshold logic, sensors, pins and outputs
(13 R482-R500). -/
namespace Sys2Proof.Machine
open Sys2Proof

/-- Change Kettle. -/
def State.updKettle (s : State) (f : Kettle → Kettle) : State := { s with kettle := f s.kettle }

/-- Kettle captures: LISTENING or WAKING (13 Table 13.9). -/
def Kettle.captures (k : Kettle) : Bool := !k.frozen && (k.st == .listening || k.st == .waking)

/-! ## The image (13 R484, R485) -/

/-- A vector instruction of an image (13 Table 13.6). -/
structure KInstr where
  op : Nat := 0
  arg : Nat := 0
  a : Nat := 0
  d : Nat := 0
  w : Nat := 0
  n : Nat := 16
deriving DecidableEq, Repr

/-- Decode a vector instruction. -/
def kInstr (v : Nat) : KInstr :=
  { op := bitsOf v 7 0, arg := bitsOf v 15 8, a := bitsOf v 29 16, d := bitsOf v 43 30, w := 16 * bitsOf v 55 44,
    n := 16 * (bitsOf v 63 56 + 1) }

/-- K of a MATVEC. -/
def KInstr.k (i : KInstr) : Nat := 16 * (i.arg + 1)

/-- The source and destination bytes of a vector instruction, and the weight bytes it reads. -/
def KInstr.spans (i : KInstr) (classes : Nat) : Nat × Nat × Nat :=
  match i.op with
  | 1 => (i.k, 4 * i.n, i.n * i.k)
  | 2 => (4 * i.n, 4 * i.n, 4 * i.n)
  | 3 => (4 * i.n, i.n, 0)
  | 5 => (2 * i.n, i.n, 0)
  | 7 => (classes, 0, 0)
  | 0 => (0, 0, 0)
  | _ => (i.n, i.n, 0)

/-- A vector instruction passes the load (13 R491). -/
def KInstr.ok (i : KInstr) (classes weights : Nat) : Bool :=
  let (a, d, w) := i.spans classes
  decide (i.op ≤ 7) && (i.op == 1 || (if i.op = 3 then decide (i.arg ≤ 31) else i.arg == 0)) && (i.op != 7 || i.n == 16)
    && (i.op == 0 || (decide (i.a + a ≤ 16384) && (d == 0 || decide (i.d + d ≤ 16384)) && (w == 0 || decide (i.w + w ≤ weights))))

/-- A filter of the table (13 R488): a FIR's coefficients or a biquad's five. -/
inductive KFilter where
  | fir (h : List Int) | biquad (c : List Int)
deriving DecidableEq, Repr

/-- The FIRs of a filter table from a place on: the filters and the place after them; none where one is malformed. -/
def kFirs (b : List Byte) : Nat → Nat → Option (List KFilter × Nat)
  | 0, at' => some ([], at')
  | n + 1, at' =>
      let taps := field b at' 2
      if taps < 1 ∨ taps > 64 ∨ at' + 2 + 2 * taps > b.length then none
      else
        let h := (List.range taps).map (fun i => sext 16 (field b (at' + 2 + 2 * i) 2))
        (kFirs b n ((at' + 2 + 2 * taps + 3) / 4 * 4)).map (fun r => (.fir h :: r.1, r.2))

/-- The biquads of a filter table from a place on. -/
def kBiquads (b : List Byte) : Nat → Nat → Option (List KFilter × Nat)
  | 0, at' => some ([], at')
  | n + 1, at' =>
      if at' + 12 > b.length ∨ field b (at' + 10) 2 ≠ 0 then none
      else (kBiquads b n (at' + 12)).map (fun r => (.biquad ((List.range 5).map (fun i => sext 16 (field b (at' + 2 * i) 2))) :: r.1, r.2))

/-- The filter table of an image: its filters and the offset after it. -/
def kFilters (b : List Byte) : Option (List KFilter × Nat) :=
  let o := field b 20 4
  if o + 4 > b.length ∨ field b o 1 > 4 ∨ field b (o + 1) 1 > 8 ∨ field b (o + 2) 2 ≠ 0 then none
  else match kFirs b (field b o 1) (o + 4) with
    | none => none
    | some (fs, at') => (kBiquads b (field b (o + 1) 1) at').map (fun r => (fs ++ r.1, r.2))

/-- The checks of a load (13 R484, R485, R487, R488, R491, R493-R495). -/
def kImageOk (b : List Byte) : Bool :=
  let f := field b
  let rate := if f 10 1 = 0 then 8 else 16
  let chans := popCount 2 (f 7 1)
  let count := f 28 2
  let inImage (o n : Nat) : Bool := o % 8 == 0 && decide (o + n ≤ f 52 4)
  let fits (o n : Nat) : Bool := inImage o n && decide (o + n ≤ 32768)
  decide (64 ≤ b.length) && f 52 4 == b.length && decide (f 52 4 ≤ 98368) && f 0 4 == 0x3154454B && f 4 2 == 1
    && decide (8 ≤ f 6 1 ∧ f 6 1 ≤ 32) && decide (f 7 1 ≤ 3) && decide (f 10 1 ≤ 1)
    && f 8 2 % rate == 0 && [48, 64, 96, 128, 192].contains (f 8 2 / rate)
    && (f 11 1 == 0 || decide (16 ≤ f 11 1 ∧ f 11 1 ≤ 64)) && decide (80 ≤ f 12 2 ∧ f 12 2 ≤ 512)
    && decide (1 ≤ f 14 1 ∧ f 14 1 ≤ 16) && decide (1 ≤ f 15 1 ∧ f 15 1 ≤ 16) && decide (f 16 2 ≤ 6000)
    && decide (5 ≤ f 18 2 ∧ f 18 2 ≤ 100) && decide (1 ≤ count ∧ count ≤ 3072) && f 30 2 == 0 && decide (f 36 4 ≤ 65536)
    && zeros b 56 8 && inImage (f 32 4) (f 36 4) && fits (f 24 4) (8 * count) && fits (f 40 4) (4 * f 15 1)
    && fits (f 44 4) 128 && fits (f 48 4) 16
    && f 20 4 % 8 == 0 && (match kFilters b with | some (_, e) => decide (e ≤ 32768 ∧ e ≤ f 52 4) | none => false)
    && decide (f 16 2 * rate * 2 * chans ≤ 400 * 1024)
    && (List.range count).all (fun i => (kInstr (f (f 24 4 + 8 * i) 8)).ok (f 15 1) (f 36 4))
    && (List.range (f 15 1)).all (fun i =>
      let o := f 40 4 + 4 * i
      decide (1 ≤ f (o + 1) 1 ∧ f (o + 1) 1 ≤ 64) && decide (f (o + 3) 1 ≤ 1))
    && (List.range 8).all (fun i =>
      let o := f 44 4 + 16 * i
      decide (f (o + 2) 2 ≤ 1000) && decide (f (o + 4) 1 ≤ 2) && decide (f (o + 5) 1 ≤ 1) && zeros b (o + 8) 8)
    && (List.range 4).all (fun i =>
      let o := f 48 4 + 4 * i
      decide (f o 1 ≤ 5) && decide (f (o + 2) 1 ≤ 1) && f (o + 3) 1 == 0)

/-- Kettle's history and data memory are zeroed (13 R485, R486); what its filters and outputs hold goes with them. -/
def Kettle.zeroed (k : Kettle) : Kettle :=
  { k with data := [], filt := [], hist := [], frames := 0, due := 0, pc := none, scores := [], classes := [], outs := [] }

/-- Kettle was retired by the start or by self-test (18 ST34; 20 R746). -/
def State.kettleRetired (s : State) : Bool := bitAt s.start.retiredFlags 2

/-- The principals that control Kettle (13 Table 13.12). -/
def State.kettlePrincipal (s : State) (by' : Principal) : Bool :=
  by' == .hostk || by' == .rtp || (match by' with | .parcel p => p == s.kettle.target | _ => false)

/-- KETTLE_PROGRAM_LOAD (13 R485). -/
def execKettleProgramLoad (by' : Principal) (image : List Byte) (s : State) : Out :=
  .next (s.served 34 fun s =>
    if !s.kettlePrincipal by' then s.answer .denied
    else if s.kettleRetired then s.answer .retired
    else if s.kettle.st ≠ .stopped then s.answer .busy
    else if !kImageOk image then s.answer .unsupported
    else (s.updKettle (fun k => { k.zeroed with image := image, digest := Config.sha384 image })).answer .ok)

/-- KETTLE_TARGET_WRITE (13 R486). -/
def execKettleTargetWrite (by' : Principal) (parcel wakeEngines : Byte) (s : State) : Out :=
  .next (s.served 34 fun s =>
    if by' ≠ .hostk ∧ by' ≠ .rtp then s.answer .denied
    else if s.kettle.st ≠ .stopped then s.answer .busy
    else if (parcel.toNat > 7 ∧ parcel ≠ 0xFF) ∨ wakeEngines.toNat > 16 then s.answer .unsupported
    else (s.updKettle (fun k => { k.zeroed with target := parcel.toNat, wakeEngines := wakeEngines.toNat })).answer .ok)

/-- A pin's mode condition holds for a change to a level (13 R495): rising, falling, either edge, high, low. -/
def pinCond (mode : Nat) (level : Bool) : Bool :=
  match mode with
  | 1 => level | 2 => !level | 3 => true | 4 => level | 5 => !level | _ => false

/-- Begin to listen (13 R494, R495, R500): polls fall due after their periods, and a level condition that holds is timed. -/
def State.kListen (s : State) : State :=
  s.updKettle (fun k =>
    let polls := (List.range 8).foldl (fun (t : Tab Nat) i => t.wr i (s.now + 1000000 * k.sensor i 2 2)) k.pollAt
    let pins := (List.range 4).foldl (fun (t : Tab KPin) i => t.upd i (fun p =>
      let o := k.f 48 4 + 4 * i
      { p with deadline := if k.f o 1 ≥ 4 ∧ pinCond (k.f o 1) p.level then some (s.now + 1000000 * k.f (o + 1) 1) else none })) k.pins
    { k with st := .listening, listenDue := false, histEnd := s.now, pollAt := polls, pins := pins })

/-- LISTEN (13 R500, R501). -/
def execListen (by' : Principal) (s : State) : Out :=
  .next (s.served 34 fun s =>
    if !s.kettlePrincipal by' then s.answer .denied
    else if s.kettleRetired then s.answer .retired
    else if s.kettle.image.isEmpty then s.answer .notReady
    else match s.kettle.st with
      | .stopped => s.kListen.answer .ok
      | .withdrawn => (s.updKettle (fun k => { k with listenDue := true })).answer .ok
      | _ => s.answer .ok)

/-- Capture stops; the history stays (13 R500). -/
def State.kStop (s : State) : State :=
  s.updKettle (fun k => { k with st := .stopped, stopDue := false, due := 0, pc := none })

/-- STOP (13 R500): in WAKING it takes effect when the wake sequence ends. -/
def execStop (by' : Principal) (s : State) : Out :=
  .next (s.served 34 fun s =>
    if !s.kettlePrincipal by' then s.answer .denied
    else match s.kettle.st with
      | .listening => s.kStop.answer .ok
      | .waking => (s.updKettle (fun k => { k with stopDue := true })).answer .ok
      | .withdrawn => (s.updKettle (fun k => { k with listenDue := false })).answer .ok
      | .stopped => s.answer .ok)

/-! ## Outputs (13 R497-R499) -/

/-- Change an output. -/
def State.updOut (s : State) (o : Nat) (f : KOut → KOut) : State := s.updKettle (fun k => { k with outs := k.outs.upd o f })

/-- The nanoseconds an entry covers. -/
def Kettle.entryNs (k : Kettle) : Nat := 1000000 * Nat.max 1 (k.f 18 2)

/-- Undelivered entries of an output are lost: reported by its next entry, counted (13 R498). -/
def State.loseEntries (s : State) (o n : Nat) : State :=
  if n = 0 then s
  else
    let s := s.updOut o (fun y => { y with lost := y.lost + n })
    (s.updKettle (fun k => { k with drops := k.drops + BitVec.ofNat 32 n })).emit 63 0x382 s.kettle.target n

/-- Output 0's mark moves past audio that is no longer in the history, in whole entries (13 R498, R499). -/
def State.trimMark (s : State) : State :=
  let k := s.kettle
  match (k.outs.rd 0).mark, k.hist with
  | some m, (t, _) :: _ =>
      if m ≥ t then s
      else
        let n := (t - m + k.entryNs - 1) / k.entryNs
        (s.updOut 0 (fun y => { y with mark := some (m + n * k.entryNs) })).loseEntries 0 n
  | _, _ => s

/-- The entry window a time of an output lies in. -/
def KOut.window (y : KOut) (e t : Nat) : Nat := (t - y.mark.getD 0) / e

/-- A record joins an output's 4 KiB buffer; past that the oldest entry's records are lost (13 R498). -/
def State.outRecord (s : State) (o t : Nat) (b : List Byte) : State :=
  let k := s.kettle
  let y := k.outs.rd o
  let buf := y.buf ++ [(t, b)]
  if buf.foldl (fun n (x : Nat × List Byte) => n + x.2.length) 0 ≤ 4096 then s.updOut o (fun y => { y with buf := buf })
  else
    let rest := match o, buf with
      | 3, _ :: r => r
      | _, (t0, _) :: _ => buf.dropWhile (fun (x : Nat × List Byte) => y.window k.entryNs x.1 == y.window k.entryNs t0)
      | _, [] => []
    (s.updOut o (fun y => { y with buf := rest })).loseEntries o 1

/-- The stream that an output feeds. -/
def State.outStream (s : State) (o : Nat) : Option Nat :=
  (List.range 16).find? (fun n => let x := s.streams.rd n; x.st == .opened && x.cfg.source == 0x10 + o)

/-- The history's samples of a window of time, with their times. -/
def Kettle.audio (k : Kettle) (lo hi : Nat) : List (Nat × U16 × U16) :=
  let step := 1000000 / k.rate
  k.hist.flatMap (fun (r : Nat × List (U16 × U16)) =>
    (r.2.zipIdx.map (fun (x : (U16 × U16) × Nat) => (r.1 + step * x.2, x.1))).filter (fun x => decide (lo ≤ x.1 ∧ x.1 < hi)))

/-- The bytes of samples: int16, channels interleaved with channel 0 first (13 Table 13.8). -/
def Kettle.samplesBytes (k : Kettle) (xs : List (Nat × U16 × U16)) : List Byte :=
  xs.flatMap (fun (x : Nat × U16 × U16) =>
    (if bitAt (k.f 7 1) 0 then leBytes 2 x.2.1.toNat else []) ++ (if bitAt (k.f 7 1) 1 then leBytes 2 x.2.2.toNat else []))

/-- KETTLE_ENTRY_READY (13 R497-R499): an output that holds a whole entry offers it to its stream. -/
def execKettleEntryReady (o : Fin 4) (s : State) : Out :=
  .next (
    let s := if o.val = 0 then s.trimMark else s
    let k := s.kettle
    let y := k.outs.rd o
    if (s.outStream o).isNone ∨ y.offer.isSome then s
    else if o.val = 3 then
      match y.buf with
      | [] => s
      | x :: rest => s.updOut o (fun y => { y with buf := rest, offer := some x })
    else match y.mark with
      | none => s
      | some m =>
          let e := k.entryNs
          if o.val = 0 then
            if k.histEnd < m + e then s
            else match k.audio m (m + e) with
              | [] => (s.updOut 0 (fun y => { y with mark := some (m + e) })).loseEntries 0 1
              | x :: xs => s.updOut 0 (fun y => { y with mark := some (m + e), offer := some (x.1, k.samplesBytes (x :: xs)) })
          else
            if s.now < m + e then s
            else
              let mine := y.buf.filter (fun (x : Nat × List Byte) => decide (x.1 < m + e))
              let rest := y.buf.filter (fun (x : Nat × List Byte) => !decide (x.1 < m + e))
              match mine with
              | [] => s.updOut o (fun y => { y with mark := some (m + e) })
              | x :: _ => s.updOut o (fun y => { y with mark := some (m + e), buf := rest, offer := some (x.1, mine.flatMap (·.2)) }))

/-! ## Decisions (13 R493-R496, R504, R505) -/

/-- The bytes of a wake-cause record (13 R496). -/
def Kettle.causeBytes (k : Kettle) (time cause : Nat) : List Byte :=
  leBytes 8 time ++ leBytes 4 cause ++ padTo 16 k.scores ++ leBytes 4 0

/-- The start mark of output 0 after a wake decision (13 R499). -/
def State.markWake (s : State) : State :=
  let k := s.kettle
  (s.updOut 0 (fun y => { y with mark := some (s.now - 1000000 * k.f 16 2), offer := none, wake := true })).trimMark

/-- A wake decision (13 R496, R499, R503-R505): awake, it sets the start mark and interrupts; in the Kettle-only state it begins the
wake; during the entry it is held; while a wake is in progress it adds its bits. -/
def State.wakeDecision (s : State) (cause : Nat) : State :=
  let k := s.kettle
  if k.st = .waking then
    s.updKettle (fun k => { k with cause := k.causeBytes (field k.cause 0 8) (field k.cause 8 4 ||| cause) })
  else
    let s := s.updKettle (fun k => { k with cause := k.causeBytes s.bench cause, wakes := k.wakes + 1 })
    let s := (s.emit 63 0x380 k.target cause).markWake
    match s.power.state with
    | .kettleOnly => s.updKettle (fun k => { k with st := .waking })
    | .entering => { s with power := { s.power with heldWake := true } }
    | _ => s.interrupt k.vector

/-- Decisions of one moment (13 R493, R496, R497): each gives an EVENT record, those with WAKE set together a wake decision. -/
def State.decisions (s : State) (ds : List (Nat × Bool)) : State :=
  let s := ds.foldl (fun (s : State) (d : Nat × Bool) => s.outRecord 3 s.now (s.kettle.causeBytes s.bench d.1)) s
  let wake := (ds.filter (fun (d : Nat × Bool) => d.2)).foldl (fun n (d : Nat × Bool) => n ||| d.1) 0
  if wake = 0 then s else s.wakeDecision wake

/-! ## Samples and frames (13 R487-R490) -/

/-- Round to nearest, ties to even, of x / 2^n. -/
def rneShift (x : Int) (n : Nat) : Int :=
  let q := x / (2 ^ n : Int)
  let r := x % (2 ^ n : Int)
  if n = 0 then x
  else if 2 * r > (2 ^ n : Int) ∨ (2 * r = (2 ^ n : Int) ∧ q % 2 = 1) then q + 1 else q

/-- Saturate to int16. -/
def sat16 (x : Int) : Int := (satRange (-32768) 32767 x).1
/-- Saturate to int8. -/
def sat8 (x : Int) : Int := (satRange (-128) 127 x).1

/-- The sum of products of two lists. -/
def dot : List Int → List Int → Int
  | a :: as, b :: bs => a * b + dot as bs
  | _, _ => 0

/-- One filter on one sample (13 R488): the output and the filter's memory. A FIR keeps its inputs, newest first; a biquad keeps its
last two inputs and outputs. -/
def KFilter.run (f : KFilter) (m : List Int) (x : Int) : Int × List Int :=
  match f with
  | .fir h =>
      let xs := (x :: m).take h.length
      (sat16 (rneShift (dot h xs) 15), xs)
  | .biquad c =>
      let x1 := m.getD 0 0
      let x2 := m.getD 1 0
      let y1 := m.getD 2 0
      let y2 := m.getD 3 0
      let y := sat16 (rneShift (c.getD 0 0 * x + c.getD 1 0 * x1 + c.getD 2 0 * x2 - c.getD 3 0 * y1 - c.getD 4 0 * y2) 14)
      (y, [x, x1, y, y1])

/-- The chain on one sample of a channel: filters in table order, their memories by channel × 16 + place. -/
def runChain (ch : Nat) : List KFilter → Nat → Tab (List Int) → Int → Int × Tab (List Int)
  | [], _, t, x => (x, t)
  | f :: fs, i, t, x =>
      let (y, m) := f.run (t.rd (ch * 16 + i)) x
      runChain ch fs (i + 1) (t.wr (ch * 16 + i) m) y

/-- Filter a run of sample pairs. -/
def runSamples (fs : List KFilter) (chans : Nat) : List (U16 × U16) → Tab (List Int) → List (U16 × U16) × Tab (List Int)
  | [], t => ([], t)
  | (a, b) :: rest, t =>
      let (x, t) := if bitAt chans 0 then runChain 0 fs 0 t (sext 16 a.toNat) else (0, t)
      let (y, t) := if bitAt chans 1 then runChain 1 fs 0 t (sext 16 b.toNat) else (0, t)
      let (r, t) := runSamples fs chans rest t
      ((BitVec.ofInt 16 x, BitVec.ofInt 16 y) :: r, t)

/-- The samples a history of 400 KiB holds. -/
def Kettle.histCap (k : Kettle) : Nat := 400 * 1024 / (2 * Nat.max 1 k.chans)

/-- Drop the oldest samples past the capacity, whole samples from the oldest run on. -/
def trimHist (step : Nat) : Nat → List (Nat × List (U16 × U16)) → List (Nat × List (U16 × U16))
  | _, [] => []
  | extra, (t, xs) :: rest =>
      if extra = 0 then (t, xs) :: rest
      else if extra ≥ xs.length then trimHist step (extra - xs.length) rest
      else (t + step * extra, xs.drop extra) :: rest

/-- The last 512 samples of channel 0, zeros before them where fewer were captured. -/
def Kettle.window (k : Kettle) : List U16 :=
  let xs := (k.hist.flatMap (fun (r : Nat × List (U16 × U16)) => r.2.map (·.1)))
  let xs := xs.drop (xs.length - 512)
  List.replicate (512 - xs.length) 0#16 ++ xs

/-- MEL_FRAME (13 R487-R490, R498): HOP decimated samples of the inputs are filtered and join the history, and with MEL_BANDS nonzero a
frame joins data memory. -/
def execMelFrame (samples : List (U16 × U16)) (s : State) : Out :=
  .next (
    let k := s.kettle
    if !k.captures then s
    else
      let step := 1000000 / k.rate
      let hop := samples.take (k.f 12 2)
      let s := s.reach (k.histEnd + step * hop.length)
      let fs := match kFilters k.image with | some (fs, _) => fs | none => []
      let (out, filt) := runSamples fs (k.f 7 1) hop k.filt
      let hist := if k.chans = 0 then k.hist else k.hist ++ [(k.histEnd, out)]
      let n := hist.foldl (fun n (r : Nat × List (U16 × U16)) => n + r.2.length) 0
      let k1 : Kettle := { k with filt := filt, hist := trimHist step (n - k.histCap) hist, histEnd := k.histEnd + step * hop.length }
      let bands := k.f 11 1
      let s := { s with kettle := k1 }.trimMark
      if bands = 0 then s
      else
        let frame := (List.range bands).map (fun b => Config.mel k1.window k.rate bands b)
        let old := memRead k.data 64 (31 * 64)
        let s := s.updKettle (fun k => { k with
          data := memWrite k.data 0 (old ++ padTo 64 frame)
          frames := k.frames + 1
          due := if (k.frames + 1) % Nat.max 1 (k.f 14 1) = 0 then k.due + 1 else k.due })
        s.outRecord 1 k.histEnd frame)

/-! ## The vector program (13 R490-R493) -/

/-- VECTOR_RUN (13 R490): a due run starts, or is skipped while the one before has not ended. -/
def execVectorRun (s : State) : Out :=
  .next (
    let k := s.kettle
    if k.due = 0 then s
    else
      let s := s.updKettle (fun k => { k with due := k.due - 1 })
      if k.pc.isSome then (s.updKettle (fun k => { k with runsSkipped := k.runsSkipped + 1 })).emit 63 0x381 k.target 0
      else s.updKettle (fun k => { k with pc := some 0, runs := k.runs + 1 }))

/-- The instruction a run has reached; past the last one the run ends as at END. -/
def Kettle.current (k : Kettle) : Option KInstr :=
  match k.pc with
  | none => none
  | some p => if p < k.f 28 2 then some (kInstr (k.f (k.f 24 4 + 8 * p) 8)) else some {}

/-- Run the instruction reached when it has an opcode: the bytes it writes at its destination. -/
def State.kStep (s : State) (op : Nat) (f : Kettle → KInstr → List Byte) : State :=
  let k := s.kettle
  match k.current, k.pc with
  | some i, some p =>
      if i.op = op then s.updKettle (fun k => { k with data := memWrite k.data i.d (f k i), pc := some (p + 1) }) else s
  | _, _ => s

/-- Elements of data memory: int8 and int32. -/
def Kettle.i8 (k : Kettle) (a i : Nat) : Int := sext 8 (k.data.rd (a + i)).toNat
/-- An int32 element. -/
def Kettle.i32 (k : Kettle) (a i : Nat) : Int := sext 32 (leNat (memRead k.data (a + 4 * i) 4))
/-- A loaded weight byte. -/
def Kettle.weight (k : Kettle) (at' n : Nat) : Nat := k.f (k.f 32 4 + at') n

/-- The bytes of int32 values. -/
def bytes32 (l : List Int) : List Byte := l.flatMap (fun x => leBytes 4 (twos 32 x))
/-- The bytes of int8 values. -/
def bytes8 (l : List Int) : List Byte := l.map (fun x => BitVec.ofNat 8 (twos 8 x))

/-- KETTLE_END (13 R491): the run ends. -/
def execKettleEnd (s : State) : Out :=
  .next (match s.kettle.current with
    | some i => if i.op = 0 then s.updKettle (fun k => { k with pc := none }) else s
    | none => s)

/-- MATVEC (13 R491, R492). -/
def execMatvec (s : State) : Out :=
  .next (s.kStep 1 (fun k i => bytes32 ((List.range i.n).map (fun n =>
    (satInt32 ((List.range i.k).foldl (fun (t : Int) j => t + k.i8 i.a j * sext 8 (k.weight (i.w + n * i.k + j) 1)) 0)).1))))

/-- BIAS (13 R491). -/
def execBias (s : State) : Out :=
  .next (s.kStep 2 (fun k i => bytes32 ((List.range i.n).map (fun n =>
    (satInt32 (k.i32 i.a n + sext 32 (k.weight (i.w + 4 * n) 4))).1))))

/-- REQ (13 R491). -/
def execReq (s : State) : Out :=
  .next (s.kStep 3 (fun k i => bytes8 ((List.range i.n).map (fun n => sat8 (rneShift (k.i32 i.a n) i.arg)))))

/-- RELU (13 R491). -/
def execRelu (s : State) : Out :=
  .next (s.kStep 4 (fun k i => bytes8 ((List.range i.n).map (fun n => if k.i8 i.a n < 0 then 0 else k.i8 i.a n))))

/-- MAXP (13 R491). -/
def execMaxp (s : State) : Out :=
  .next (s.kStep 5 (fun k i => bytes8 ((List.range i.n).map (fun n =>
    if k.i8 i.a n < k.i8 i.a (n + i.n) then k.i8 i.a (n + i.n) else k.i8 i.a n))))

/-- COPY of the vector program (13 R491). -/
def execKettleCopy (s : State) : Out := .next (s.kStep 6 (fun k i => memRead k.data i.a i.n))

/-- One class after a run (13 R493): its new count, and whether it decides. -/
def KClass.run (c : KClass) (hit : Bool) (hold refract : Nat) : KClass × Bool :=
  let hits := if hit then Nat.min 64 (c.hits + 1) else 0
  if c.refract > 0 then ({ hits := hits, refract := c.refract - 1 }, false)
  else if hit && decide (hits ≥ hold) then ({ hits := hits, refract := refract }, true)
  else ({ hits := hits }, false)

/-- SCORE (13 R491, R493): the scores go to the threshold logic, and the classes that decide make their decisions. -/
def execScore (s : State) : Out :=
  .next (
    let k := s.kettle
    match k.current, k.pc with
    | some i, some p =>
        if i.op ≠ 7 then s
        else
          let n := k.f 15 1
          let thr (c lo : Nat) : Nat := k.f (k.f 40 4 + 4 * c + lo) 1
          let rs := (List.range n).map (fun c =>
            (c, (k.classes.rd c).run (decide (k.i8 i.a c ≥ sext 8 (thr c 0))) (thr c 1) (thr c 2)))
          let s := s.updKettle (fun k => { k with
            pc := some (p + 1)
            scores := memRead k.data i.a n
            classes := rs.foldl (fun (t : Tab KClass) (x : Nat × KClass × Bool) => t.wr x.1 x.2.1) k.classes })
          s.decisions ((rs.filter (fun (x : Nat × KClass × Bool) => x.2.2)).map (fun (x : Nat × KClass × Bool) => (2 ^ x.1, thr x.1 3 == 1)))
    | _, _ => s)

/-! ## Sensors and pins (13 R494, R495) -/

/-- A sensor's sample: recorded for output 2, and a decision where it meets CMP (13 R494, R497). -/
def State.sensorSample (s : State) (i : Nat) (v : U16) : State :=
  let k := s.kettle
  let s := s.outRecord 2 s.now (leBytes 8 s.bench ++ leBytes 1 i ++ leBytes 5 0 ++ leBytes 2 v.toNat)
  let t := sext 16 (k.sensor i 6 2)
  let meets := match k.sensor i 4 1 with
    | 1 => decide (sext 16 v.toNat ≥ t)
    | 2 => decide (sext 16 v.toNat ≤ t)
    | _ => false
  if meets then s.decisions [(2 ^ (20 + i), k.sensor i 5 1 == 1)] else s

/-- SENSOR_POLL (13 R494): a polling period expires and Kettle reads the sensor; one that does not acknowledge is skipped and
counted. -/
def execSensorPoll (i : Fin 8) (acked : Bool) (v : U16) (s : State) : Out :=
  .next (
    let k := s.kettle
    let period := k.sensor i 2 2
    if !k.captures ∨ k.sensor i 0 1 = 0 ∨ period = 0 then s
    else
      let s := s.reach (k.pollAt.rd i)
      let s := s.updKettle (fun k => { k with pollAt := k.pollAt.wr i (s.now + 1000000 * period) })
      if acked then s.sensorSample i v else s.updKettle (fun k => { k with skips := k.skips.upd i (· + 1) }))

/-- SENSOR_IBI (13 R494): an in-band interrupt makes Kettle read a sensor that is not polled. -/
def execSensorIbi (i : Fin 8) (v : U16) (s : State) : Out :=
  .next (
    let k := s.kettle
    if !k.captures ∨ k.sensor i 0 1 = 0 ∨ k.sensor i 2 2 ≠ 0 then s else s.sensorSample i v)

/-- KWAKE_EDGE (13 R495; 23 R831): a filtered change of a wake pin starts or ends its condition. -/
def execKwakeEdge (pin : Fin 4) (level : Bool) (s : State) : Out :=
  .next (
    let k := s.kettle
    let o := k.f 48 4 + 4 * pin.val
    let held := k.captures && pinCond (k.f o 1) level && (k.pins.rd pin).level != level
    let x : KPin := { level := level, deadline := if held then some (s.now + 1000000 * k.f (o + 1) 1) else none }
    s.updKettle (fun k => { k with pins := k.pins.wr pin x }))

/-- DEBOUNCE_EXPIRY (13 R495): the condition has held for DEBOUNCE_MS, and the pin decides. -/
def execDebounceExpiry (pin : Fin 4) (s : State) : Out :=
  .next (
    let k := s.kettle
    let o := k.f 48 4 + 4 * pin.val
    match (k.pins.rd pin).deadline with
    | none => s
    | some t =>
        if !k.captures then s
        else
          let s := (s.reach t).updKettle (fun k => { k with pins := k.pins.upd pin (fun p => { p with deadline := none }) })
          s.decisions [(2 ^ (16 + pin.val), k.f (o + 2) 1 == 1)])

end Sys2Proof.Machine
end

