-- ==== Sys2Proof/Machine/Sag.lean ====
section
/-! DEFINITION. What a self-test segment withdraws and gives back (20 R737-R745), and the sag stages (17 R657-R670). -/
namespace Sys2Proof.Machine
open Sys2Proof

/-! ## Segments (20 R737-R741) -/

/-- Change a unit's record. -/
def State.updUnit (s : State) (u : Nat) (f : SelfUnit → SelfUnit) : State :=
  { s with svc := { s.svc with units := s.svc.units.upd u f } }

/-- The granules of a slice's sub-array (20 Table 20.2). -/
def subGranules (a : Nat) : List Nat := (List.range 64).map (· + 64 * a)

/-- A segment gives its unit back: a slice's sub-array ends with zero and valid check bits, its granules EMPTY (20 R739, R740); a
LISTEN that waited is applied (13 R501). -/
def State.restoreUnit (s : State) (g : Segment) : State :=
  let u := g.unit
  if u < 16 then (s.updEng u (fun e => { e with withdrawn := false })).watchSettle
  else if u < 32 then
    s.updSlc (u - 16) (fun x => { (x.store (65536 * g.sub) (List.replicate 65536 0#8)) with
      withdrawn := false, gran := (subGranules g.sub).foldl (fun t i => Tab.wr t i {}) x.gran })
  else if u = 32 then { s with te := { s.te with withdrawn := false } }
  else
    let s := s.updKettle (fun k => { k with st := .stopped })
    if s.kettle.listenDue then s.kListen else s

/-- A segment's outcome is counted (20 R741, Table 20.6) and, on request, reported: 0 PASS, 1 TRANSIENT, 2 FAILED, 3 ABORTED,
4 SKIPPED. -/
def State.countSegment (s : State) (g : Segment) (o index : Nat) : State :=
  let s := s.updUnit g.unit (fun x => { x with
    passes := if o = 0 then x.passes + 1 else x.passes, transients := if o = 1 then x.transients + 1 else x.transients
    fails := if o = 2 then x.fails + 1 else x.fails, aborts := if o = 3 then x.aborts + 1 else x.aborts
    skips := if o = 4 then x.skips + 1 else x.skips, lastTime := BitVec.ofNat 64 s.bench, lastOutcome := o
    sub := if o < 3 ∧ 16 ≤ g.unit ∧ g.unit < 32 ∧ !g.demand then (g.sub + 1) % 48 else x.sub })
  let res : ResultRec := { ready := true, bytes := leBytes 1 0 ++ leBytes 1 o ++ leBytes 1 index }
  { s with svc := { s.svc with segs := s.svc.segs.filter (fun x => x.unit != g.unit),
                               result := if g.demand then res else s.svc.result } }

/-- A sag stage aborts the segments in progress (20 R745). -/
def State.abortSegs (s : State) : State :=
  s.svc.segs.foldl (fun s g => (s.restoreUnit g).countSegment g 3 0xFF) s

/-! ## Boost and the cap (17 R650-R653) -/

/-- Boost is permitted (17 R653). -/
def State.boostOk (s : State) : Bool := s.power.boostEnable && decide (s.power.tjMax ≤ 85) && s.power.sagStage == 0

/-- Engines follow a change of the cap or of their reductions (17 R651). -/
def State.settleAll (s : State) : State := (List.range 16).foldl State.settleEng s

/-- Boost has stopped being permitted (17 R653): why is 0 disabled, 1 temperature, 2 sag. -/
def State.endBoost (s : State) (was : Bool) (why : Nat) : State :=
  if was ∧ !s.boostOk then
    ({ s with power := { s.power with capMhz := Nat.min s.power.capMhz 1600 } }.settleAll).emit 66 0x2B9 0xFF why
  else s

/-! ## Stages (17 R657-R670) -/

/-- The sag responder is armed (18 ST39). -/
def State.sagArmed (s : State) : Bool := s.awake && (s.start.phase != .starting || decide (39 < s.start.step))

/-- The ports kept at full speed in stage 5 (17 R665): those named, then the lowest-numbered. -/
def State.sagKept (s : State) : List Nat :=
  let act := (List.range 8).filter (fun p => (s.port p).st == .active)
  let named := (act.filter (fun p => bitAt s.power.portKeep p)).take 2
  (named ++ act.filter (fun p => !named.contains p)).take 2

/-- Step a port's speed through RETRAIN, asking the peer for the same (14 R530; 17 R665). -/
def State.stepPort (s : State) (p speed : Nat) : State :=
  ((s.sendCtrl p 4 (leBytes 1 speed)).updPort p (fun x => { x with speed := speed })).enterRetrain p

/-- Stage 4 sheds engines above the floors, highest index first (17 R664). -/
def State.shedEngines (s : State) : State :=
  let floors := (List.range 8).flatMap s.floorOf
  ((List.range 16).reverse.filter (fun n => (s.engine n).powered && !floors.contains n)).foldl (fun s n =>
    ((s.updEng n (fun e => { e with shed := true })).settleEng n).stopEngine n) s

/-- The action of one stage, 1-6, as it comes into force (17 R661-R666). Stages 1 and 2 act through the level itself. -/
def State.stageAction (s : State) (n : Nat) : State :=
  if n = 3 then { s with te := { s.te with paused := true } }
  else if n = 4 then s.shedEngines.watchSettle
  else if n = 5 then
    let keep := s.sagKept
    let slow := (List.range 8).filter (fun p => (s.port p).st == .active && (s.port p).speed == 0 && !keep.contains p)
    slow.foldl (fun s p => s.stepPort p 1) { s with power := { s.power with slowed := slow } }
  else if n = 6 then
    ((List.range 16).foldl (fun s n => s.updEng n (fun e => { e with halted := e.powered })) s).watchSettle
  else s

/-- A stage comes into force and is counted (17 R658, R670); boost and segments end (R653, 20 R745). -/
def State.enterStage (s : State) (n droop : Nat) : State :=
  let was := s.boostOk
  let s := { s with power := { s.power with sagStage := n, exitAt := s.now, sagCount := s.power.sagCount.upd n (· + 1) } }
  let s := (s.endBoost was 2).abortSegs
  (s.emit 66 (0x2B0 + n) 0xFF droop).stageAction n

/-- Every stage above the one in force up to a level (17 R658). -/
def State.sagTo (s : State) (n droop : Nat) : State :=
  (List.range n).foldl (fun s k => if s.power.sagStage ≤ k then s.enterStage (k + 1) droop else s) s

/-- The level a droop of a length reaches: the highest stage whose threshold and whole dwell it meets (17 R657, Table 17.5). -/
def State.sagLevel (s : State) (droop ns : Nat) : Nat :=
  if droop ≥ 100 ∧ ns ≥ 100 then 7
  else ((List.range 6).filter (fun k =>
    let t := s.power.thresh.rd (k + 1)
    decide (t.thresh ≤ droop ∧ t.dwell ≤ ns))).foldl (fun a k => Nat.max a (k + 1)) 0

/-- Targets written under stages 4 and 6 take effect (17 R669). -/
def State.applyDeferred (s : State) : State :=
  { s with isl := s.isl.updListed (fun _ x => { x with deferred := none }) }.settleAll

/-- What a stage held back resumes as it is left (17 R660-R667). -/
def State.stageExit (s : State) (n : Nat) : State :=
  let s := { s with power := { s.power with sagStage := n - 1, exitAt := s.now } }
  if n = 3 then { s with te := { s.te with paused := false } }
  else if n = 4 then
    (((List.range 16).foldl (fun s k =>
      s.updEng k (fun e => if e.shed then { e with shed := false, stopped := false, stopReq := (e.task.bind (·.killed)).isSome } else e)) s).applyDeferred).watchSettle
  else if n = 5 then
    let ps := s.power.slowed.filter (fun p => (s.port p).st == .active)
    ps.foldl (fun s p => s.stepPort p (s.port p).speedLimit) { s with power := { s.power with slowed := [] } }
  else if n = 6 then ((List.range 16).foldl (fun s k => s.updEng k (fun e => { e with halted := false })) s).watchSettle
  else s

end Sys2Proof.Machine
end

