-- ==== Sys2Proof/Machine/Security.lean ====
section
/-! DEFINITION. The root of trust: challenges and answers, debug states, sealing, attestation, SPDM, link authentication and the test
access port (16 R589-R636; 20 R755, R756; 23 R832). -/
namespace Sys2Proof.Machine
open Sys2Proof

/-! ## Fuses (16 R591-R593) -/

/-- DEBUG_DISABLE as read (16 R593). -/
def Fuses.debugOff (f : Fuses) : Bool := f.debugDisable || f.badWords.contains 16
/-- The RMA fuse as read. -/
def Fuses.rmaBlown (f : Fuses) : Bool := f.rma || f.badWords.contains 16
/-- A slot reads REVOKED (16 R593, Table 16.7). -/
def Fuses.revoked (f : Fuses) (k : Nat) : Bool := (f.slots.rd k).revoked || f.badWords.contains k || (decide (4 ≤ k) && f.rmaBlown)
/-- A slot is enrolled: vendor slots are enrolled at manufacture (16 R591). -/
def Fuses.enrolled (f : Fuses) (k : Nat) : Bool := decide (k < 4) || (f.slots.rd k).enrolled
/-- A slot is usable (16 R591). -/
def Fuses.usable (f : Fuses) (k : Nat) : Bool := decide (k < 8) && f.enrolled k && !f.revoked k
/-- The digest of a slot. -/
def Fuses.digest (f : Fuses) (k : Nat) : List Byte := padTo 48 (if k < 4 then Config.vendorDigest k else (f.slots.rd k).digest)
/-- The floor of an image kind as read (16 R593). -/
def Fuses.floor (f : Fuses) (kind : Nat) : Nat := if f.badWords.contains (7 + kind) then 32 else f.svn.rd kind
/-- An owner slot is enrolled. -/
def Fuses.anyOwner (f : Fuses) : Bool := [4, 5, 6, 7].any (fun k => f.enrolled k)

/-- The fuse state record (16 Table 16.1). -/
def Fuses.bytes (f : Fuses) : List Byte :=
  let bits (l : List Nat) (p : Nat → Bool) : Nat := maskOf ((l.zipIdx.filter (fun (x : Nat × Nat) => p x.1)).map (·.2))
  leBytes 1 (bits [0, 1, 2, 3] f.enrolled + 16 * bits [0, 1, 2, 3] f.revoked)
    ++ leBytes 1 (bits [4, 5, 6, 7] f.enrolled + 16 * bits [4, 5, 6, 7] f.revoked)
    ++ leBytes 1 ((if f.debugOff then 1 else 0) + (if f.rmaBlown then 2 else 0) + (if f.production then 4 else 0)) ++ leBytes 1 0
    ++ (List.range 8).flatMap (fun k => leBytes 1 (f.floor (k + 1))) ++ leBytes 2 f.repairs.length ++ leBytes 2 0

/-- Change the root of trust. -/
def State.updSec (s : State) (f : Security → Security) : State := { s with sec := f s.sec }

/-- DEBUG_STATE changes (16 R628). -/
def State.setDebug (s : State) (v : Nat) : State :=
  if s.sec.debug = v then s else (s.updSec (fun x => { x with debug := v })).emit 65 0x504 0xFF v

/-! ## Challenges (16 R604-R610) -/

/-- The ARG of an operation keeps its ranges (16 Table 16.5; 20 R755). -/
def argOk (op : Nat) (arg : List Byte) : Bool :=
  arg.length == 64 && (match op with
    | 3 => decide (4 ≤ field arg 0 1 ∧ field arg 0 1 ≤ 7)
    | 4 => decide (field arg 0 1 ≤ 7)
    | 5 => decide (1 ≤ field arg 0 1 ∧ field arg 0 1 ≤ 8 ∧ field arg 1 1 ≤ 32)
    | 6 => (arg.drop 3).all (· == 0#8) && decide (field arg 1 1 ≤ 15)
        && ((field arg 0 1 == 1 && decide (field arg 2 1 ≤ 135)) || (field arg 0 1 == 2 && decide (field arg 2 1 ≤ 47)))
    | _ => arg.all (· == 0#8))

/-- A request that opens nothing (16 R605; 20 R755). -/
def Fuses.refuses (f : Fuses) (op : Nat) (arg : List Byte) : Bool :=
  match op with
  | 1 => f.debugOff
  | 2 => f.debugOff
  | 3 => f.enrolled (field arg 0 1)
  | 4 => decide (field arg 0 1 < 4) && f.usable (field arg 0 1) && (([0, 1, 2, 3].filter f.usable).length == 1)
  | 5 => decide (field arg 1 1 ≤ f.floor (field arg 0 1))
  | 6 => f.repairs.contains (arg.take 3) || decide (f.repairs.length ≥ 64)
  | _ => false

/-- The record a challenge takes (16 R604): a FREE one, else the CLOSED one opened first. -/
def State.freeRecord (s : State) : Option Nat :=
  match (List.range 8).find? (fun k => (s.sec.challenges.rd k).st == .free) with
  | some k => some k
  | none =>
      ((List.range 8).filter (fun k => (s.sec.challenges.rd k).st == .closed)).foldl (fun (b : Option Nat) k => match b with
        | none => some k
        | some j => if (s.sec.challenges.rd k).order < (s.sec.challenges.rd j).order then some k else some j) none

/-- CHALLENGE_REQUEST (16 R604, R605, R609). -/
def State.challenge (s : State) (op : Nat) (by' : Principal) (tag : U32) (reserved : Nat) (arg : List Byte) : State :=
  if by' ≠ .hostk ∧ by' ≠ .board then s.answer .denied
  else if reserved ≠ 0 ∨ argOk op arg = false then s.answer .unsupported
  else match s.freeRecord with
    | none => s.busy 100000
    | some k =>
        if s.sec.fuses.refuses op arg then s.answer .unsupported
        else if s.sec.invalid ≥ 16 then s.answer .denied
        else
          let c : Challenge := { st := .opened, op := op, tag := tag.toNat, issued := s.bench, arg := arg,
                                 nonce := padTo 32 (Config.nonce s.freeCtr), deadline := s.now + 1000000000, order := s.sec.chalOrder }
          ((s.updSec (fun x => { x with challenges := x.challenges.wr k c, chalOrder := x.chalOrder + 1 })).bump).answer .ok

/-- DEBUG_OWNER. -/
def execDebugOwner (by' : Principal) (tag : U32) (reserved : BitVec 24) (arg : List Byte) (s : State) : Out :=
  .next (s.served 19 fun s => s.challenge 1 by' tag reserved.toNat arg)
/-- DEBUG_VENDOR. -/
def execDebugVendor (by' : Principal) (tag : U32) (reserved : BitVec 24) (arg : List Byte) (s : State) : Out :=
  .next (s.served 19 fun s => s.challenge 2 by' tag reserved.toNat arg)
/-- OWNER_ENROLL. -/
def execOwnerEnroll (by' : Principal) (tag : U32) (reserved : BitVec 24) (arg : List Byte) (s : State) : Out :=
  .next (s.served 19 fun s => s.challenge 3 by' tag reserved.toNat arg)
/-- KEY_REVOKE. -/
def execKeyRevoke (by' : Principal) (tag : U32) (reserved : BitVec 24) (arg : List Byte) (s : State) : Out :=
  .next (s.served 19 fun s => s.challenge 4 by' tag reserved.toNat arg)
/-- SVN_ADVANCE. -/
def execSvnAdvance (by' : Principal) (tag : U32) (reserved : BitVec 24) (arg : List Byte) (s : State) : Out :=
  .next (s.served 19 fun s => s.challenge 5 by' tag reserved.toNat arg)
/-- FUSE_REPAIR (20 R755). -/
def execFuseRepair (by' : Principal) (tag : U32) (reserved : BitVec 24) (arg : List Byte) (s : State) : Out :=
  .next (s.served 19 fun s => s.challenge 6 by' tag reserved.toNat arg)
/-- RMA. -/
def execRma (by' : Principal) (tag : U32) (reserved : BitVec 24) (arg : List Byte) (s : State) : Out :=
  .next (s.served 19 fun s => s.challenge 7 by' tag reserved.toNat arg)

/-- The signer is of the class an operation requires (16 Table 16.5). -/
def Fuses.signerOk (f : Fuses) (c : Challenge) (k : Nat) : Bool :=
  f.usable k && (match c.op with
    | 2 => decide (k < 4)
    | 4 => (decide (k < 4) == decide (field c.arg 0 1 < 4)) && k != field c.arg 0 1
    | 5 => decide (k < 4)
    | _ => if f.anyOwner then decide (4 ≤ k) else decide (k < 4))

/-- A record past its deadline is CLOSED (16 R608). -/
def State.chalExpire (s : State) (k : Nat) : State :=
  let c := s.sec.challenges.rd k
  if (c.st = .opened ∨ c.st = .burned) ∧ s.now ≥ c.deadline then
    s.updSec (fun x => { x with challenges := x.challenges.wr k { c with st := .closed } })
  else s

/-- A valid answer's operation (16 R607 stage 3, R610): a debug state changes at once; a fuse operation is programmed, and its answer is
replied when FUSE_PROGRAMMING_DONE ends it. -/
def State.applyOp (s : State) (c : Challenge) : State :=
  match c.op with
  | 1 => (if s.sec.debug = 3 then s else s.setDebug 1).answer .ok
  | 2 =>
      if (List.range 8).any (fun p => (s.parcel p).active && (s.parcel p).sealed) then s.busy 0
      else (if s.sec.debug = 3 then s else s.setDebug 2).answer .ok
  | _ => s.updSec (fun x => { x with programming := some (c.op, c.arg) })

/-- An answer (16 R606, R607); the RTP takes it when it programs no fuse (R590). -/
def State.takeAnswer (s : State) (by' : Principal) (b : List Byte) : State :=
  let k := field b 0 1
  let signer := field b 1 1
  if by' ≠ .hostk ∧ by' ≠ .board then s.answer .denied
  else if b.length ≠ 232 ∨ k < 1 ∨ k > 8 ∨ signer > 7 ∨ field b 2 2 ≠ 0 ∨ field b 133 3 ≠ 0 then s.answer .unsupported
  else if s.sec.programming.isSome then s
  else
    let s := s.chalExpire (k - 1)
    let c := s.sec.challenges.rd (k - 1)
    let f := s.sec.fuses
    let put (s : State) (c : Challenge) : State := s.updSec (fun x => { x with challenges := x.challenges.wr (k - 1) c })
    if c.st = .closed ∨ c.st = .free ∨ slice b 4 32 ≠ c.nonce then (s.emit 65 0x502 0xFF k).answer .replay
    else
      let msg := Config.sha384 (c.nonce ++ leBytes 1 c.op ++ c.arg ++ padTo 16 Config.serial)
      let pub := slice b 36 97
      let valid := f.signerOk c signer && padTo 48 (Config.sha384 pub) == f.digest signer
        && Config.verify (f.digest signer) msg (slice b 136 96)
      if valid then (put s { c with st := .closed }).applyOp c
      else
        let c := if c.st = .opened then { c with st := .burned, deadline := s.now + 10000000 } else c
        (((put s c).updSec (fun x => { x with invalid := x.invalid + 1 })).emit 65 0x501 0xFF k).answer .denied

/-- ANSWER. -/
def execAnswer (by' : Principal) (data : List Byte) (s : State) : Out := .next (s.served 19 fun s => s.takeAnswer by' data)

/-- CHALLENGE_DEADLINE (16 R608). -/
def execChallengeDeadline (k : Fin 8) (s : State) : Out :=
  .next (
    let c := s.sec.challenges.rd k
    if c.st = .opened ∨ c.st = .burned then (s.reach c.deadline).chalExpire k else s)

/-- FUSE_PROGRAMMING_DONE (16 R607, R610, Table 16.5; 20 R756): the effect comes into force and the answer is replied. -/
def execFuseProgrammingDone (s : State) : Out :=
  .next (
    match s.sec.programming with
    | none => s
    | some (op, arg) =>
        let f := s.sec.fuses
        let k := field arg 0 1
        let f : Fuses := match op with
          | 3 => { f with slots := f.slots.upd k (fun x => { x with enrolled := true, digest := slice arg 16 48 }) }
          | 4 => { f with slots := f.slots.upd k (fun x => { x with revoked := true }) }
          | 5 => { f with svn := f.svn.wr k (Nat.max (f.svn.rd k) (field arg 1 1)) }
          | 6 => { f with repairs := f.repairs ++ [arg.take 3] }
          | 7 => { f with rma := true }
          | _ => f
        let s := s.updSec (fun x => { x with fuses := f, programming := none })
        (if op = 7 then s.setDebug 3 else s).answer .ok)

/-- DEBUG_LOCK (16 R628). -/
def execDebugLock (by' : Principal) (v : Byte) (s : State) : Out :=
  .next (s.served 19 fun s =>
    if by' ≠ .hostk ∧ by' ≠ .board then s.answer .denied
    else if v ≠ 0 then s.answer .unsupported
    else if s.sec.debug = 3 then s.answer .denied
    else (s.setDebug 0).answer .ok)

/-! ## Sealed parcels (16 R616, R617) -/

/-- A parcel's 72-byte plat record (16 Table 16.8). -/
def State.platRecord (s : State) (p : Nat) : List Byte :=
  let x := s.parcel p
  s.platBytes p ++ leBytes 2 x.fabricId ++ leBytes 2 x.leadDie ++ leBytes 2 x.dies ++ leBytes 2 0

/-- SEAL_OFFER (16 R616, R617). -/
def execSealOffer (by' : Principal) (p : Fin 8) (data : List Byte) (s : State) : Out :=
  .next (s.served 43 fun s =>
    let x := s.parcel p
    if by' ≠ .parcel p then s.answer .denied
    else if data.length ≠ 148 ∨ field data 129 3 ≠ 0 ∨ field data 132 8 % 64 ≠ 0 ∨ field data 140 1 < 4 ∨ field data 140 1 > 16
        ∨ (slice data 141 7).any (· ≠ 0#8) then s.answer .unsupported
    else if !x.active ∨ !x.sealed then s.answer .unsupported
    else if x.sealOffered then s.answer .denied
    else
      let s := s.updPar p (fun x => { x with sealOffered := true, sealRing := field data 132 8, sealLog2 := field data 140 1 })
      (s.updSec (fun y => { y with offers := y.offers.wr p data, sealResult := y.sealResult.wr p {} })).answer .ok)

/-- SEAL_KEY_READY (16 R616, R617): the key is installed and SEAL_RESULT is ready. -/
def execSealKeyReady (p : Fin 8) (s : State) : Out :=
  .next (
    let offer := s.sec.offers.rd p
    if !(s.parcel p).sealOffered ∨ offer.isEmpty then s
    else
      let eph := padTo 97 (Config.ephemeral s.freeCtr)
      let plat := s.platRecord p
      let sig := padTo 96 (Config.sign 1 (Config.sha384 (offer ++ eph ++ plat)))
      let key := Config.kdf (slice offer 32 97 ++ eph ++ [0x53#8, 0x45#8, 0x41#8, 0x4C#8] ++ leBytes 1 p)
      let rec' : ResultRec := { ready := true, bytes := leBytes 1 0 ++ leBytes 3 0 ++ eph ++ leBytes 3 0 ++ plat ++ sig }
      let s := s.updPar p (fun x => { x with sealKey := some key, sealCount := 0 })
      (s.updSec (fun y => { y with offers := y.offers.wr p [], sealResult := y.sealResult.wr p rec' })).bump)

/-! ## Attestation (16 R631-R633) -/

/-- An image's 56-byte entry (16 Table 16.8); a kind the device runs with no accepted slot has SLOT 0xFF and a zero digest (R599). -/
def State.imageBytes (s : State) (kind : Nat) : List Byte :=
  if kind > 5 ∨ (kind = 5 ∧ s.straps.packageP) then List.replicate 56 0#8
  else
    let r := s.sec.images.rd kind
    leBytes 1 kind ++ leBytes 1 r.major ++ leBytes 1 r.minor ++ leBytes 1 (if r.kind = 0 then 0xFF else r.slot) ++ leBytes 4 r.svn
      ++ padTo 48 r.digest

/-- A report without its signature (16 Table 16.8), as of this instant. -/
def State.reportBytes (s : State) (nonce : List Byte) : List Byte :=
  leBytes 4 0x31545441 ++ leBytes 2 1 ++ leBytes 2 1232 ++ leBytes 2 0x1648 ++ leBytes 2 0x00B0 ++ leBytes 2 s.dieId
    ++ leBytes 2 s.fab.fabricId ++ padTo 16 Config.serial ++ padTo 32 nonce ++ leBytes 8 s.bench ++ leBytes 4 s.ledger.resetCount
    ++ leBytes 1 s.sec.debug ++ leBytes 1 (if s.straps.packageP then 0 else 1) ++ leBytes 2 s.mem.hostWays ++ leBytes 8 s.plat.epoch.toNat
    ++ leBytes 8 s.agree.datum.epoch ++ s.sec.fuses.bytes ++ (List.range 8).flatMap (fun k => s.imageBytes (k + 1))
    ++ (List.range 8).flatMap (fun p => s.platRecord p)

/-- A report with its signature by the attestation key. -/
def signReport (b : List Byte) : List Byte := b ++ padTo 96 (Config.sign 1 (Config.sha384 b))

/-- What bars attestation (16 R632; 18 R685). -/
def State.attestBar (s : State) : Option Status :=
  if bitAt s.start.retiredFlags 5 then some .retired
  else if s.sec.debug = 3 then some .denied
  else if s.start.phase = .starting then some .busy
  else none

/-- ATTEST_REQUEST (16 R631-R633). -/
def execAttestRequest (by' : Principal) (nonce : List Byte) (s : State) : Out :=
  .next (s.servedOpen 47 fun s =>
    let may := match by' with | .hostk => true | .board => true | .surv => true | .parcel _ => true | _ => false
    if !may then s.answer .denied
    else if nonce.length ≠ 32 then s.answer .unsupported
    else match s.attestBar with
      | some .busy => s.busy 1000
      | some st => s.answer st
      | none => (s.updSec (fun x => { x with attest := {}, report := some (s.reportBytes nonce) })).answer .ok)

/-- ATTEST_REPORT_READY (16 R631, R633). -/
def execAttestReportReady (s : State) : Out :=
  .next (
    match s.sec.report with
    | none => s
    | some b => s.updSec (fun x => { x with report := none, attest := { ready := true, bytes := signReport b } }))

/-! ## Link authentication (16 R613, R614) -/

/-- The peer's HELLO and FINISH verify (16 R613). -/
def State.peerOk (s : State) (own peer finish : List Byte) : Bool :=
  let slot := field peer 115 1
  let key := slice peer 18 97
  s.sec.debug != 3 && decide (slot < 4) && s.sec.fuses.usable slot
    && Config.verify (s.sec.fuses.digest slot) (Config.sha384 (key ++ slice peer 2 16)) (slice peer 116 96)
    && Config.verify (padTo 48 (Config.sha384 key)) (authHash own peer) finish

/-- The key of one direction (16 R614): the transcript, both ephemeral keys, and "SLK" with the sending and receiving die IDs. -/
def linkKey (own peer : List Byte) (sender receiver : Nat) : Nat :=
  Config.kdf (authHash own peer ++ [0x53#8, 0x4C#8, 0x4B#8] ++ leBytes 2 sender ++ leBytes 2 receiver)

/-- LINK_AUTH_COMPLETE (16 R612-R614; 14 Table 14.4, R521): the port is ACTIVE, or has its next keys; a peer that fails leaves it DOWN. -/
def execLinkAuthComplete (p : Fin 8) (s : State) : Out :=
  .next (
    let x := s.port p
    let a := x.auth
    match a.helloOf, a.finishOf with
    | some peer, some fin =>
        if !a.running ∨ a.finish.isEmpty ∨ a.rcvd / 65536 % 4 ≠ 3 ∨ (x.st ≠ .linkAuth ∧ x.st ≠ .active) then s
        else if s.peerOk a.hello peer fin then
          let them := field peer 0 2
          let tx := linkKey a.hello peer s.dieId them
          let rx := linkKey a.hello peer them s.dieId
          if x.st = .active then s.updPort p (fun x => { x with nextKey := some tx, rxNext := some rx, auth := {} })
          else
            let s := s.updPort p (fun x => { x with st := .active, txKey := some tx, rxKey := some rx, txCount := 0, rxCount := 0,
                                                    txSeq := 0, rxSeq := 0, auth := {} })
            let s := match s.agree.adoption with
              | some d => if d.port = some p.val then s.readDatum d.die else s
              | none => s
            s.freeWaiting p
        else
          let s := (if x.st = .active then s.loseLink p else s.updPort p (fun x => { x with st := .down, auth := {} }))
          s.emit (72 + p) 0x506 0xFF p
    | _, _ => s)

/-! ## SPDM (16 R634, R635; 21 R785) -/

/-- An SPDM message of this version: its code and parameters, then its body. -/
def spdmMsg (code p1 p2 : Nat) (body : List Byte) : List Byte := leBytes 1 0x12 ++ leBytes 1 code ++ leBytes 1 p1 ++ leBytes 1 p2 ++ body
/-- An SPDM ERROR. -/
def spdmError (code : Nat) : List Byte := spdmMsg 0x7F code 0 []
/-- The SPDM errors used: InvalidRequest, Busy, UnexpectedRequest, UnsupportedRequest, VersionMismatch. -/
def spdmInvalid : Nat := 1
/-- Busy. -/
def spdmBusy : Nat := 3
/-- UnexpectedRequest. -/
def spdmUnexpected : Nat := 4
/-- UnsupportedRequest. -/
def spdmUnsupported : Nat := 7
/-- VersionMismatch. -/
def spdmVersion : Nat := 0x41

/-- The response is ready, and the exchange joins the transcript. -/
def State.spdmReply (s : State) (req rsp : List Byte) : State :=
  let d := s.dict.spdm
  ({ s with dict := { s.dict with spdm :=
    { d with response := { ready := true, bytes := rsp }, transcript := d.transcript ++ req ++ rsp } } }).answer .ok

/-- What every SPDM request meets first (21 R785; 16 R632, R635): the principal, the length, the start, and the version and phase. -/
def State.spdm (s : State) (by' : Principal) (msg : List Byte) (code version phase : Nat) (k : State → State) : State :=
  s.served 19 fun s =>
    if by' ≠ .hostk then s.answer .denied
    else if msg.length < 4 ∨ msg.length > 4096 then s.answer .unsupported
    else match s.attestBar with
      | some .busy => s.spdmReply msg (spdmError spdmBusy)
      | some st => s.answer st
      | none =>
          if field msg 1 1 ≠ code then s.spdmReply msg (spdmError spdmUnsupported)
          else if field msg 0 1 ≠ version then s.spdmReply msg (spdmError spdmVersion)
          else if s.dict.spdm.phase < phase then s.spdmReply msg (spdmError spdmUnexpected)
          else k s

/-- The connection has reached a phase. -/
def State.spdmPhase (s : State) (n : Nat) : State := { s with dict := { s.dict with spdm := { s.dict.spdm with phase := n } } }

/-- GET_VERSION: version 1.2 only; it begins a connection. -/
def execGetVersion (by' : Principal) (msg : List Byte) (s : State) : Out :=
  .next (s.spdm by' msg 0x84 0x10 0 (fun s =>
    let s := { s with dict := { s.dict with spdm := { s.dict.spdm with transcript := [] } } }
    (s.spdmPhase 1).spdmReply msg (leBytes 1 0x10 ++ leBytes 1 0x04 ++ leBytes 3 0 ++ leBytes 1 1 ++ leBytes 2 0x1200)))

/-- GET_CAPABILITIES: CERT_CAP, CHAL_CAP and MEAS_CAP with signature. -/
def execGetCapabilities (by' : Principal) (msg : List Byte) (s : State) : Out :=
  .next (s.spdm by' msg 0xE1 0x12 1 (fun s =>
    (s.spdmPhase 2).spdmReply msg (spdmMsg 0x61 0 0 (leBytes 4 0 ++ leBytes 4 0x16 ++ leBytes 4 4096 ++ leBytes 4 4096))))

/-- NEGOTIATE_ALGORITHMS: ECDSA P-384 and SHA-384. -/
def execNegotiateAlgorithms (by' : Principal) (msg : List Byte) (s : State) : Out :=
  .next (s.spdm by' msg 0xE3 0x12 2 (fun s =>
    (s.spdmPhase 3).spdmReply msg (spdmMsg 0x63 0 0
      (leBytes 2 36 ++ leBytes 1 1 ++ leBytes 1 0 ++ leBytes 4 4 ++ leBytes 4 0x80 ++ leBytes 4 2 ++ List.replicate 16 0#8))))

/-- GET_DIGESTS: the digest of slot 0's chain. -/
def execGetDigests (by' : Principal) (msg : List Byte) (s : State) : Out :=
  .next (s.spdm by' msg 0x81 0x12 3 (fun s => s.spdmReply msg (spdmMsg 0x01 0 1 (padTo 48 (Config.sha384 Config.certChain)))))

/-- GET_CERTIFICATE: slot 0 only. -/
def execGetCertificate (by' : Principal) (msg : List Byte) (s : State) : Out :=
  .next (s.spdm by' msg 0x82 0x12 3 (fun s =>
    let chain := Config.certChain
    let off := field msg 4 2
    if field msg 2 1 ≠ 0 ∨ off ≥ chain.length then s.spdmReply msg (spdmError spdmInvalid)
    else
      let part := (slice chain off (field msg 6 2)).take 4080
      s.spdmReply msg (spdmMsg 0x02 0 0 (leBytes 2 part.length ++ leBytes 2 (chain.length - off - part.length) ++ part))))

/-- A measurement block: index, DMTF form, raw bit stream (16 R635). -/
def measBlock (index : Nat) (v : List Byte) : List Byte :=
  leBytes 1 index ++ leBytes 1 1 ++ leBytes 2 (v.length + 3) ++ leBytes 1 0x80 ++ leBytes 2 v.length ++ v

/-- A measurement (16 R635). -/
def State.measurement (s : State) (index : Nat) (nonce : List Byte) : Option (List Byte) :=
  if 1 ≤ index ∧ index ≤ 8 then some (padTo 48 (s.sec.images.rd index).digest)
  else if index = 0x10 then some (signReport (s.reportBytes nonce))
  else if index = 0xFE then some (leBytes 1 s.sec.debug ++ slice s.sec.fuses.bytes 2 1)
  else none

/-- The measurement indices. -/
def measIndices : List Nat := [1, 2, 3, 4, 5, 6, 7, 8, 0x10, 0xFE]

/-- All measurement blocks. -/
def State.measAll (s : State) (nonce : List Byte) : List Byte :=
  measIndices.flatMap (fun i => measBlock i ((s.measurement i nonce).getD []))

/-- The transcript of the connection with a signature by the attestation key. -/
def State.spdmSigned (s : State) (req body : List Byte) : List Byte :=
  body ++ padTo 96 (Config.sign 1 (Config.sha384 (s.dict.spdm.transcript ++ req ++ body)))

/-- CHALLENGE: a signed response under the attestation key. -/
def execChallenge (by' : Principal) (msg : List Byte) (s : State) : Out :=
  .next (s.spdm by' msg 0x83 0x12 3 (fun s =>
    if field msg 2 1 ≠ 0 ∨ msg.length < 36 then s.spdmReply msg (spdmError spdmInvalid)
    else
      let nonce := padTo 32 (Config.nonce s.freeCtr)
      let sum := if field msg 3 1 = 0 then [] else padTo 48 (Config.sha384 (s.measAll (slice msg 4 32)))
      let body := spdmMsg 0x03 0 1 (padTo 48 (Config.sha384 Config.certChain) ++ nonce ++ sum ++ leBytes 2 0)
      s.bump.spdmReply msg (s.spdmSigned msg body)))

/-- GET_MEASUREMENTS (16 R635): the number of measurements, one of them, or all, signed where asked. -/
def execGetMeasurements (by' : Principal) (msg : List Byte) (s : State) : Out :=
  .next (s.spdm by' msg 0xE0 0x12 3 (fun s =>
    let signed := bitAt (field msg 2 1) 0
    let op := field msg 3 1
    let asked := slice msg 4 32
    if signed ∧ (msg.length < 37 ∨ field msg 36 1 % 16 ≠ 0) then s.spdmReply msg (spdmError spdmInvalid)
    else
      let blocks : Option (Nat × List Byte) :=
        if op = 0 then some (0, [])
        else if op = 0xFF then some (measIndices.length, s.measAll asked)
        else (s.measurement op asked).map (fun v => (1, measBlock op v))
      match blocks with
      | none => s.spdmReply msg (spdmError spdmInvalid)
      | some (n, bs) =>
          let nonce := padTo 32 (Config.nonce s.freeCtr)
          let body := spdmMsg 0x60 (if op = 0 then measIndices.length else 0) 0
            (leBytes 1 n ++ leBytes 3 bs.length ++ bs ++ nonce ++ leBytes 2 0)
          s.bump.spdmReply msg (if signed then s.spdmSigned msg body else body)))

/-! ## The test access port (16 Table 16.7, R629; 23 R832) -/

/-- The port answers from ST01. -/
def State.tapOn (s : State) (t : Tap) (k : State → State) : State :=
  if s.start.step = 0 ∧ s.start.phase = .starting then s else k (s.updSec (fun x => { x with tap := t }))

/-- No parcel is ACTIVE, so EXTEST and CLAMP are allowed (16 Table 16.7). -/
def State.pinsFree (s : State) : Bool := (List.range 8).all (fun p => !(s.parcel p).active)

/-- The port with BYPASS loaded. -/
def Tap.bypassed (t : Tap) : Tap := { t with instr := .bypass, driven := false, dr := [false] }

/-- BYPASS. -/
def execBypass (s : State) : Out := .next (s.tapOn s.sec.tap.bypassed id)

/-- IDCODE (23 R832): 0x1164_8A6F on B0. -/
def execIdcode (s : State) : Out :=
  .next (s.tapOn { s.sec.tap with instr := .idcode, driven := false, dr := (List.range 32).map (fun k => bitAt 0x11648A6F k) }
    (fun s => s.give (leBytes 4 0x11648A6F)))

/-- SAMPLE/PRELOAD: the pins are sampled and the boundary register preloaded. -/
def execSamplePreload (sample preload : List Bool) (s : State) : Out :=
  .next (s.tapOn { s.sec.tap with instr := .samplePreload, driven := false, dr := sample, preload := preload } id)

/-- EXTEST (16 R629): the pins are driven from the boundary register while no parcel is ACTIVE; else BYPASS is loaded. -/
def execExtest (sample : List Bool) (s : State) : Out :=
  .next (
    let t := s.sec.tap
    s.tapOn (if s.pinsFree then { t with instr := .extest, driven := true, dr := sample } else t.bypassed) id)

/-- CLAMP (16 R629): the pins hold their preloaded values while no parcel is ACTIVE; else BYPASS is loaded. -/
def execClamp (s : State) : Out :=
  .next (
    let t := s.sec.tap
    s.tapOn (if s.pinsFree then { t with instr := .clamp, driven := true, dr := [false] } else t.bypassed) id)

end Sys2Proof.Machine
end

