-- ==== Sys2Proof/Machine/Start.lean ====
section
/-! DEFINITION. Resets and the start: the start ledger, the boot window and the 48 steps (chapter 18; 16 R594-R600; 23 R810-R814). -/
namespace Sys2Proof

/-- The outcomes the environment gives a step for a unit. -/
def StartEnv.failsAt (e : StartEnv) (k u : Nat) : List Nat :=
  e.fails.filterMap (fun (f : Nat × Nat × Nat) => if f.1 = k ∧ f.2.1 = u then some f.2.2 else none)

/-- The first outcome the environment gives a step, for any unit. -/
def StartEnv.failOf (e : StartEnv) (k : Nat) : Option Nat := (e.fails.find? (fun (f : Nat × Nat × Nat) => f.1 == k)).map (fun f => f.2.2)

end Sys2Proof

namespace Sys2Proof.Machine
open Sys2Proof

/-! ## Outcomes and the record -/

/-- The outcomes from best to worst (18 R681). -/
def outcomeRank : List Nat := [0, 2, 1, 7, 3, 4, 6, 5]

/-- The worse of two outcomes; NOT_REACHED yields. -/
def worse (a b : Nat) : Nat :=
  if a = 0xFF then b else if b = 0xFF then a else if outcomeRank.idxOf a < outcomeRank.idxOf b then b else a

/-- The record that LATEST names (18 Table 18.5). -/
def Ledger.record (l : Ledger) : StartRecord := if l.latest = 1 then l.rec1 else l.rec0

/-- The record that LATEST does not name: that of the start before. -/
def Ledger.previous (l : Ledger) : StartRecord := if l.latest = 1 then l.rec0 else l.rec1

/-- Change the start's state. -/
def State.updStart (s : State) (f : Start → Start) : State := { s with start := f s.start }

/-- Change the ledger. -/
def State.updLedger (s : State) (f : Ledger → Ledger) : State := { s with ledger := f s.ledger }

/-- Change the record that LATEST names. -/
def State.updRec (s : State) (f : StartRecord → StartRecord) : State :=
  s.updLedger (fun l => if l.latest = 1 then { l with rec1 := f l.rec1 } else { l with rec0 := f l.rec0 })

/-- Change a controller's part of the record. -/
def State.updMcRec (s : State) (c : Nat) (f : McRec → McRec) : State :=
  s.updRec (fun r => { r with mcs := listSet r.mcs c (f (r.mcs.getD c {})) })

/-- Change a controller. -/
def State.updMc (s : State) (c : Nat) (f : Mc → Mc) : State := { s with mem := { s.mem with mc := s.mem.mc.upd c f } }

/-- Set a flag of START_RETIRED (18 Table 18.8). -/
def State.retireFlag (s : State) (b : Nat) : State := s.updStart (fun x => { x with retiredFlags := x.retiredFlags ||| (1 <<< b) })

/-! ## Ledger-class entries (18 R694; 21 R768) -/

/-- A ledger write that fails after its retry (18 R702). -/
def State.ledgerFailed (s : State) (offset : Nat) : State := s.emit 65 0x701 0xFF offset

/-- Keep an entry's value in the ledger; a failure leaves the value in force and says NOT_PERSISTED (18 R702, 21 R768). -/
def State.persist (s : State) (index sub : Nat) (b : List Byte) : State :=
  if s.start.env.ledgerFail then
    let s := s.ledgerFailed 0x600
    { s with reply := { s.reply with notPersisted := true } }
  else s.updLedger (fun l => { l with entries := l.entries.wr (index * 256 + sub) b })

/-- SELFTEST_CONFIG from its bytes (20 Table 20.6). -/
def selfCfgOf (b : List Byte) : SelfCfg :=
  { enable := field b 0 1 == 1, engineS := field b 1 2, sliceS := field b 3 2, teS := field b 5 2, kettleS := field b 7 2,
    maxConc := field b 9 1 }

/-- Put a ledger-class entry's value in force (18 ST16). -/
def State.loadEntry (s : State) (key : Nat) (b : List Byte) : State :=
  let i := key / 256
  let j := key % 256
  let v := leNat b
  if i = 0x1102 then { s with dict := { s.dict with relayDie := v } }
  else if i = 0x2004 then { s with power := { s.power with boostEnable := v == 1 } }
  else if i = 0x2101 then { s with power := { s.power with thresh := s.power.thresh.wr j { thresh := field b 0 2, dwell := field b 2 2 } } }
  else if i = 0x2102 then { s with power := { s.power with pinStage := v } }
  else if i = 0x2103 then { s with power := { s.power with portKeep := v } }
  else if i = 0x3102 then s.updMc (j - 1) (fun m => { m with rateLimit := v })
  else if i = 0x3103 then s.updMc (j - 1) (fun m => { m with eccMode := v })
  else if i = 0x4001 then s.updPort (j - 1) (fun x => { x with enable := field b 0 1 == 1, speedLimit := field b 1 1 })
  else if i = 0x4004 then { s with dieId := v }
  else if i = 0x4005 then { s with fab := { s.fab with fabricId := v } }
  else if i = 0x7005 then s.updStart (fun x => { x with bootWaitMs := v })
  else if i = 0x7007 then s.updStart (fun x => { x with fatalAutoMs := v })
  else if i = 0x7008 then s.updStart (fun x => { x with startLimit := v })
  else if i = 0x7106 then { s with svc := { s.svc with retireUncorr := v } }
  else if i = 0x7F00 then { s with svc := { s.svc with cfg := selfCfgOf b } }
  else s

/-! ## Soft repairs (20 R750, R751) -/

/-- Record a fault: one that a record already holds is counted there, and a full area stores no more (20 R750). -/
def State.softFound (s : State) (kind unit index : Nat) : State :=
  let hit (r : SoftRepair) : Bool := r.kind == kind && r.unit == unit && r.index == index
  s.updLedger (fun l =>
    if l.soft.any hit then { l with soft := l.soft.map (fun r => if hit r then { r with seen := Nat.min 255 (r.seen + 1) } else r) }
    else if l.soft.length ≥ 128 then l
    else
      let r : SoftRepair := { kind := kind, unit := unit, index := index, seen := 1 }
      { l with soft := l.soft ++ [r] })

/-- A lane joins the lane map; more than 8 failed lanes retire the engine (03 R105, R107). -/
def State.failLane (s : State) (e lane : Nat) : State :=
  s.updEng e (fun x =>
    if x.failedLanes.contains lane then x
    else
      let ls := (lane :: x.failedLanes).mergeSort (· ≤ ·)
      { x with failedLanes := ls, retired := x.retired || decide (ls.length > 8) })

/-- A slice and its paired engine are retired (18 ST28, 20 R751). -/
def State.retireSlice (s : State) (n : Nat) : State :=
  (s.updSlc n (fun x => { x with retired := true })).updEng n (fun x => { x with retired := true })

/-- A sub-array is mapped to a spare; more than two retire the slice (20 R751, R752). -/
def State.mapSub (s : State) (n a : Nat) : State :=
  let x := s.slc.rd n
  if x.mapped.contains a then s
  else if x.mapped.length ≥ 2 then (s.updSlc n (fun x => { x with mapped := x.mapped ++ [a] })).retireSlice n
  else s.updSlc n (fun x => { x with mapped := x.mapped ++ [a], sparesUsed := x.sparesUsed + 1 })

/-- Apply one repair: TYPE 1 a lane, TYPE 2 a sub-array (20 R751). -/
def State.applyRepair (s : State) (kind unit index : Nat) : State :=
  if kind = 1 then s.failLane unit index else s.mapSub unit index

/-! ## The start's plan (18 R695-R700) -/

/-- The STICKY that follows an outcome (18 R697). -/
def stickyNext (outcome earlier : Nat) : Nat :=
  if outcome = 3 then 1 else if outcome = 4 ∨ outcome = 6 then 16 else earlier - 1

/-- Whether a STICKY came of a HUNG or a TIMEOUT and not of a FAILED (18 Table 18.3). -/
def hardSticky (sticky outcome : Nat) : Bool := decide (sticky > 0 ∧ outcome ≠ 3)

/-- The ACTION of a step as a whole: 0 NORMAL, 1 SLOT, 2 ALT, 3 SKIP (18 Table 18.3). -/
def stepAction (k sticky outcome : Nat) : Nat :=
  let hard := hardSticky sticky outcome
  if sticky = 0 then 0
  else if k = 9 ∨ (11 ≤ k ∧ k ≤ 14) then 1
  else if k = 6 ∨ k = 7 ∨ k = 16 ∨ k = 17 ∨ k = 28 ∨ k = 30 then 2
  else if (20 ≤ k ∧ k ≤ 27) ∨ k = 42 then (if hard then 3 else 2)
  else if k = 32 then (if hard then 3 else 0)
  else if k = 33 ∨ k = 34 then 3
  else if k = 41 then (if hard then 3 else 0)
  else if k = 45 then (if outcome = 6 ∨ outcome = 2 then 3 else 0)
  else 0

/-- An entry of the ledger as a number, or its default. -/
def Ledger.entry (l : Ledger) (index dflt : Nat) : Nat :=
  let b := l.entries.rd (index * 256)
  if b.isEmpty then dflt else leNat b

/-- ST03: the record of the start before is evaluated and a new one opened (18 R695-R700). -/
def State.startPlan (s : State) : State :=
  let l := s.ledger
  let p := l.record
  let hung := p.st == 1 && p.outcomes.getD p.current 0xFF == 0xFF
  let out (k : Nat) : Nat :=
    if p.st = 0 then 0xFF else if hung ∧ k = p.current then 6 else p.outcomes.getD k 0xFF
  let outMc (c : Nat) : Nat :=
    let r := p.mcs.getD c {}
    if p.st = 0 then 0xFF else if hung ∧ p.current ≥ 20 ∧ r.lastStep = p.current ∧ r.outcome = 0xFF then 6 else r.outcome
  let outPort (q : Nat) : Nat := if p.st ≠ 0 ∧ (p.ports.getD q {}).state = 8 then 3 else 0
  let sticky (k : Nat) : Nat := if l.clearPending then 0 else stickyNext (out k) (p.sticky.getD k 0)
  let stickyMc (c : Nat) : Nat := if l.clearPending then 0 else stickyNext (outMc c) (p.mcs.getD c {}).sticky
  let stickyPort (q : Nat) : Nat :=
    if l.clearPending ∨ l.clearPorts.contains q then 0 else stickyNext (outPort q) (p.ports.getD q {}).sticky
  let actMc (c : Nat) : Nat := if stickyMc c = 0 then 0 else if hardSticky (stickyMc c) (outMc c) then 3 else 2
  let act (k : Nat) : Nat :=
    let a := stepAction k (sticky k) (out k)
    a
  let actPort (q : Nat) : Nat :=
    if stickyPort q = 0 then (if act 41 = 3 then 3 else 0) else if (p.ports.getD q {}).speed = 0 then 2 else 3
  let consec := (if l.clearPending then 0 else l.consec) + 1
  let limit := l.entry 0x7008 3
  let rec' : StartRecord :=
    { seq := (l.resetCount + 1) % 2 ^ 32, kind := s.start.kind, st := 1, current := 3
      outcomes := (s.start.pre.map (fun (x : Nat × Nat) => x.1) ++ List.replicate 45 0xFF).take 48
      ms := (s.start.pre.map (fun (x : Nat × Nat) => x.2) ++ List.replicate 45 0).take 48
      mcs := (List.range 4).map (fun c => { sticky := stickyMc c : McRec })
      ports := (List.range 8).map (fun q => { sticky := stickyPort q : PortRec })
      sticky := (List.range 48).map sticky
      engineFail := if l.clearPending then 0 else p.engineFail }
  let l' : Ledger := { l with
    latest := if l.latest = 1 then 0 else 1, consec := consec, resetCount := (l.resetCount + 1) % 2 ^ 32
    rec0 := if l.latest = 1 then rec' else l.rec0, rec1 := if l.latest = 1 then l.rec1 else rec'
    soft := if l.clearSoft then [] else l.soft, mcPending := if l.clearMcPending then 0 else l.mcPending
    clearPending := false, clearSoft := false, clearMcPending := false, clearPorts := [] }
  { s with ledger := l' }.updStart (fun x => { x with
    prev := (List.range 48).map out, actions := (List.range 48).map act,
    mcActions := (List.range 4).map actMc, portActions := (List.range 8).map actPort, held := decide (consec ≥ limit),
    bootWaitMs := l.entry 0x7005 1000 })

/-! ## The boot window (18 R687-R691) and image checks (16 R594-R598) -/

/-- The image kind a start step loads (18 Table 18.3), 0 for none. -/
def kindOf (k : Nat) : Nat := if k = 9 then 1 else if 11 ≤ k ∧ k ≤ 14 then k - 9 else 0

/-- Change the boot window. -/
def State.updBoot (s : State) (f : Boot → Boot) : State := s.updStart (fun x => { x with boot := f x.boot })

/-- The bytes of an image whose header has arrived: header, padded payload and signature block (16 R595). -/
def imageTotal (b : List Byte) : Nat := 128 + (field b 12 4 + 127) / 128 * 128 + 512

/-- Ask for the next bytes of the image: to its end once the header is known, at most 64 KiB (18 Table 18.4). -/
def State.askBoot (s : State) : State :=
  s.updBoot (fun b =>
    let left := if b.image.length < 128 then 65536 else imageTotal b.image - b.image.length
    { b with reqSeq := b.reqSeq + 1, offset := b.image.length, length := Nat.max 1 (Nat.min 65536 left), waiting := true })

/-- Begin to load a kind, from the slot its step prefers (18 R697 SLOT). -/
def State.beginImage (s : State) (kind step : Nat) : State :=
  let pref := s.ledger.prefSlot.getD (kind - 1) 0
  let first := if s.start.actions.getD step 0 = 1 then 1 - pref else pref
  (s.updBoot (fun b => { b with kind := kind, slot := first, tried := 0, image := [] })).askBoot

/-- A signature entry of an image verifies under a slot: 0, or the check that fails, 5 signer or 6 signature (16 R595, R596). -/
def Fuses.imageSigner (f : Fuses) (hdr entry : List Byte) (slot : Nat) : Nat :=
  let key := slice entry 0 97
  if slot > 3 ∨ !f.usable slot ∨ padTo 48 (Config.sha384 key) ≠ f.digest slot then 5
  else if !Config.verify key (Config.sha384 hdr) (slice entry 128 96) then 6
  else 0

/-- The checks of R596 in the order of event 0x500's codes (19 Table 19.4): 0 for an accepted image. -/
def Fuses.imageCheck (f : Fuses) (kind : Nat) (b : List Byte) : Nat :=
  let h := slice b 0 128
  let n := field h 12 4
  let pad := (n + 127) / 128 * 128
  let e0 := slice b (128 + pad) 256
  let e1 := slice b (128 + pad + 256) 256
  let zero (l : List Byte) : Bool := l.all (fun x => x == 0#8)
  let two := field h 65 1 ≠ 0xFF
  let rot := bitAt (field h 7 1) 0
  if b.length < 128 ∨ field h 0 4 ≠ 0x31574644 ∨ field h 4 1 ≠ kind then 1
  else if field h 7 1 > 1 ∨ !zero (slice h 66 62) ∨ !zero (slice b (128 + n) (pad - n)) ∨ !zero (slice e0 97 31) ∨ !zero (slice e0 224 32)
      ∨ (if two then !zero (slice e1 97 31) || !zero (slice e1 224 32) else !zero e1) then 2
  else if n < 128 ∨ n > 4194304 ∨ b.length ≠ 128 + pad + 512 ∨ padTo 48 (Config.sha384 (slice b 128 n)) ≠ slice h 16 48 then 3
  else if field h 8 4 > 32 ∨ field h 8 4 < f.floor kind then 4
  else
    let c0 := f.imageSigner h e0 (field h 64 1)
    let c1 := if two then f.imageSigner h e1 (field h 65 1) else 0
    if rot ∧ (!two ∨ field h 64 1 = field h 65 1) then 5
    else if c0 = 5 ∨ c1 = 5 then 5
    else if c0 = 6 ∨ c1 = 6 then 6
    else 0

/-- Accept an image: reports list it, its slot is recorded, and a ROTATE waits for ST47 (16 R596, R598; 18 R695). -/
def State.acceptImage (s : State) (kind : Nat) (b : List Byte) : State :=
  let h := slice b 0 128
  let r : ImageRec := { kind := kind, major := field h 5 1, minor := field h 6 1, slot := s.start.boot.slot, svn := field h 8 4,
                        digest := padTo 48 (Config.sha384 h) }
  let s := s.updSec (fun x => { x with
    images := x.images.wr kind r, rotate := if bitAt (field h 7 1) 0 then x.rotate ++ [field h 64 1] else x.rotate })
  s.updRec (fun x => { x with slots := listSet x.slots (kind - 1) r.slot })

/-! ## Memory controllers (18 ST20-ST27; 07 R243, R248; 16 R602) -/

/-- The rates of Table 7.1, highest first. -/
def mcRates : List Nat := [9600, 8533, 7500, 6400]

/-- A controller is retired during the start (07 R248). -/
def State.retireMc (s : State) (c : Nat) : State := s.updMc c (fun m => { m with st := .retired })

/-- A controller's part of one of ST20-ST27: its outcome (18 Table 18.3; 20 R753). -/
def State.mcStep (s : State) (k c : Nat) : State × Nat :=
  let m := s.mem.mc.rd c
  let fs := s.start.env.failsAt k c
  let skip := s.start.mcActions.getD c 0 = 3 ∨ bitAt s.ledger.mcPending c
  if (s.sec.images.rd 4).kind = 0 then (s.retireMc c, 2)
  else if k = 20 ∧ s.start.env.gib.getD c 0 = 0 then (s, 2)
  else if k = 20 ∧ skip then (s.retireMc c, 2)
  else if k > 20 ∧ (!m.devices ∨ m.st = .retired) then (s, 2)
  else
    let s := s.updMc c (fun m => { m with
      devices := true, rate := if k = 20 then (mcRates.filter (fun r => r ≤ m.rateLimit)).headD 6400 else m.rate })
    let m := s.mem.mc.rd c
    let lower := mcRates.filter (fun r => r < m.rate)
    if 21 ≤ k ∧ k ≤ 24 then
      if fs.contains 4 then (s.retireMc c, 4)
      else if fs.isEmpty then (s, 0)
      else if fs.length > lower.length then (s.retireMc c, 3)
      else (s.updMc c (fun m => { m with rate := lower.getD (fs.length - 1) 6400 }), 1)
    else match fs.head? with
      | some o => (s.retireMc c, o)
      | none =>
          if k = 25 then (s.updLedger (fun l => { l with seeds := l.seeds.wr c m.rate }), 0)
          else if k = 26 then
            let g := s.start.env.gib.getD c 0
            if g < 2 ∨ 16 < g then (s.retireMc c, 3)
            else (s.updMc c (fun m => { m with st := .running, gib := g, eccInForce := m.eccMode }), 0)
          else if k = 27 ∧ s.start.mcActions.getD c 0 = 2 then (s, 1)
          else (s, 0)

/-- One of ST20-ST27 on every controller; after ST26 the resume area has its place (16 R602). -/
def State.mcSteps (s : State) (k : Nat) : State × Nat :=
  let (s, o) := (List.range 4).foldl (fun (r : State × Nat) c =>
    let m := r.1.mem.mc.rd c
    let out := k > 20 ∧ (!m.devices ∨ m.st = .retired)
    let (s, o) := r.1.mcStep k c
    let idx := mcRates.length - 1 - mcRates.idxOf (s.mem.mc.rd c).rate
    (if out then s else s.updMcRec c (fun m => { m with lastStep := k, outcome := o, rateCode := idx }), worse r.2 o)) (s, 0xFF)
  if k ≠ 26 then (s, o)
  else
    let first := (List.range 4).find? (fun c => (s.mem.mc.rd c).st == .running)
    let area := first.map (fun c => c * mcWindow + (s.mem.mc.rd c).reach - resumeBytes)
    ({ s with power := { s.power with resumeArea := area } }, o)

/-! ## The steps -/

/-- A step that can only pass or stop the start. -/
def State.fatalStep (s : State) (k : Nat) (f : State → State) : State × Nat × Bool :=
  match s.start.env.failOf k with
  | none => (f s, 0, false)
  | some o => (s, if o = 4 then 4 else 5, true)

/-- A step that on failure takes something out of service. -/
def State.softStep (s : State) (k : Nat) (f bad : State → State) : State × Nat × Bool :=
  match s.start.env.failOf k with
  | none => (f s, 0, false)
  | some o => (bad s, o, false)

/-- Begin to train a port, at quarter speed only where its ACTION says so (14 R527; 18 ST41). -/
def State.beginPort (s : State) (p : Nat) : State :=
  let d := Config.portDelay s.freeCtr % 3000001
  let s := s.bump.startPort p (s.now + 4000000 * p + d)
  if s.start.portActions.getD p 0 = 2 then s.updPort p (fun x => { x with speed := 1 }) else s

/-- SRAM_BIST: slices, ways, descriptor caches, the tree engine's arrays, tags and directory (18 ST28; 20 R750). -/
def State.sramBist (s : State) : State × Nat × Bool :=
  let fs := s.start.env.fails.filter (fun (f : Nat × Nat × Nat) => f.1 == 28)
  let subs := s.start.env.subs.filter (fun (x : Nat × Nat) => !(s.slc.rd x.1).mapped.contains x.2)
  let alt := s.start.actions.getD 28 0 = 2
  if fs.any (fun f => f.2.1 ≥ 49) then (s, 5, true)
  else
    let s := subs.foldl (fun (s : State) (x : Nat × Nat) => (s.softFound 2 x.1 x.2).retireSlice x.1) s
    let s := fs.foldl (fun (s : State) (f : Nat × Nat × Nat) =>
      let u := f.2.1
      if u < 16 then s.retireSlice u
      else if u < 32 then { s with mem := { s.mem with retiredWays := s.mem.retiredWays ||| (1 <<< (u - 16)) } }
      else if u < 48 then s.updEng (u - 32) (fun x => { x with retired := true })
      else { s with te := { s.te with retired := true } }.retireFlag 0) s
    let o := fs.foldl (fun o f => worse o f.2.2) (if subs.isEmpty then (if alt then 1 else 0) else 3)
    (s, o, false)

/-- ENGINE_TEST: failing lanes join the soft repairs and the lane map (18 ST32; 20 R750). -/
def State.engineTest (s : State) : State × Nat × Bool :=
  if s.start.actions.getD 32 0 = 3 then (s, 2, false)
  else
    let found := s.start.env.lanes.filter (fun (x : Nat × Nat) => !(s.engine x.1).failedLanes.contains x.2)
    let s := found.foldl (fun (s : State) (x : Nat × Nat) => (s.softFound 1 x.1 x.2).failLane x.1 x.2) s
    (s, worse ((s.start.env.failOf 32).getD 0) (if found.isEmpty then 0 else 3), false)

/-- ISLAND_CLOCKS: an engine island that does not lock is retired and remembered; any other stops the start (18 ST18, R699). -/
def State.islandClocks (s : State) : State × Nat × Bool :=
  let fs := s.start.env.fails.filter (fun (f : Nat × Nat × Nat) => f.1 == 18)
  let out := s.ledger.record.engineFail
  let s := (maskBits 16 out).foldl (fun s n => s.updEng n (fun x => { x with retired := true })) s
  let fs := fs.filter (fun f => !(decide (f.2.1 < 16) && bitAt out f.2.1))
  if fs.any (fun f => f.2.1 ≥ 16) then (s, 5, true)
  else
    let s := fs.foldl (fun (s : State) (f : Nat × Nat × Nat) =>
      (s.updEng f.2.1 (fun x => { x with retired := true })).updRec (fun r => { r with engineFail := r.engineFail ||| (1 <<< f.2.1) })) s
    (s, fs.foldl (fun o f => worse o f.2.2) 0, false)

/-- REPAIR_APPLY: fuse repairs, then soft repairs; a soft record that a fuse record matches is removed (18 ST17; 20 R751, R756). -/
def State.repairApply (s : State) : State × Nat × Bool :=
  let fuse := s.sec.fuses.repairs.map (fun b => (field b 0 1, field b 1 1, field b 2 1))
  let s := s.updLedger (fun l => { l with soft := l.soft.filter (fun r => !fuse.contains (r.kind, r.unit, r.index)) })
  let s := fuse.foldl (fun (s : State) (r : Nat × Nat × Nat) => s.applyRepair r.1 r.2.1 r.2.2) s
  if s.start.actions.getD 17 0 = 2 then (s, 1, false)
  else
    let ok := (s.ledger.soft.zipIdx).filter (fun (r : SoftRepair × Nat) => !s.start.env.badSoft.contains r.2)
    let s' := ok.foldl (fun (s : State) (r : SoftRepair × Nat) => s.applyRepair r.1.kind r.1.unit r.1.index) s
    (s', if ok.length = s.ledger.soft.length then 0 else 1, false)

/-- FUSE_READ (16 R593). -/
def State.fuseRead (s : State) : State × Nat × Bool :=
  let bad := s.start.env.badFuses
  let s := s.updSec (fun x => { x with fuses := { x.fuses with badWords := bad } })
  let s := s.updSec (fun x => { x with debug := if x.fuses.rmaBlown then 3 else 0 })
  (bad.foldl (fun s w => s.emit 65 0x507 0xFF w) s, if bad.isEmpty then 0 else 1, false)

/-- The datum of a die that has started: epoch 0, its own images and itself as source; role ALONE (15 R557, R559; 18 ST44). -/
def State.agreementInit (s : State) : State :=
  let vs := (s.sec.images.filter (fun (x : Nat × ImageRec) => x.2.kind != 0)).map (fun (x : Nat × ImageRec) => (x.2.kind, x.2.major, x.2.minor))
  { s with agree := { s.agree with survDie := s.dieId, datum := { s.agree.datum with epoch := 0, versions := vs, benchDie := s.dieId } } }

/-- A start step that does not wait: the state it leaves, its outcome and whether the start stops (18 Table 18.3). -/
def State.startStep (s : State) (k : Nat) : State × Nat × Bool :=
  let e := s.start.env
  let act := s.start.actions.getD k 0
  if k = 0 then ({ s with xlat := { s.xlat with casAvailable := e.packageP } }, 0, false)
  else if k = 1 then s.fuseRead
  else if k = 2 then (if e.ledgerBad then ({ s with ledger := {} }, 1, false) else (s, 0, false))
  else if k = 3 then (s.startPlan, 0, false)
  else if k = 4 then
    s.fatalStep 4 (fun s => { s with power := { s.power with railEn := if e.packageP then 15 else 31 } })
  else if k = 6 then
    if !e.farEnd then (s, 2, false) else if !e.linkUp then (s, 3, false) else (s, if act = 2 then 1 else 0, false)
  else if k = 7 then
    if !e.farEnd ∨ !e.linkUp then (s, 2, false)
    else s.softStep 7 id (fun s => s.updStart (fun x => { x with env := { x.env with linkUp := false } }))
  else if k = 14 then (s, 2, false)
  else if k = 15 then
    let r := s.ledger.record
    (s.updLedger (fun l => { l with
      prefSlot := (List.range 8).map (fun i => let u := r.slots.getD i 0xFF
                                               if u = 0xFF then l.prefSlot.getD i 0 else u) }), 0, false)
  else if k = 16 then
    if e.entriesBad then (s.updLedger (fun l => { l with entries := [] }), 1, false)
    else if act = 2 then (s, 1, false)
    else (s.ledger.entries.foldl (fun (s : State) (x : Nat × List Byte) => s.loadEntry x.1 x.2) s, 0, false)
  else if k = 17 then s.repairApply
  else if k = 18 then s.islandClocks
  else if 20 ≤ k ∧ k ≤ 27 then
    let s := if k = 27 then s.updStart (fun x => { x with zeroAt := s.now }) else s
    let (s, o) := s.mcSteps k
    (s, o, false)
  else if k = 28 then s.sramBist
  else if k = 30 then s.fatalStep 30 id |> fun r => (r.1, if r.2.1 = 0 ∧ act = 2 then 1 else r.2.1, r.2.2)
  else if k = 32 then s.engineTest
  else if k = 33 then
    let off (s : State) : State := { s with te := { s.te with retired := true } }.retireFlag 0
    if act = 3 ∨ s.te.retired then (off s, 2, false) else s.softStep 33 id off
  else if k = 34 then
    if s.start.kind = 2 then (s, 2, false)
    else if act = 3 then (s.retireFlag 2, 2, false) else s.softStep 34 id (fun s => s.retireFlag 2)
  else if k = 35 ∨ k = 36 then s.softStep k id (fun s => s.retireFlag 6)
  else if k = 37 then s.softStep 37 id (fun s => s.retireFlag 1)
  else if k = 38 then
    let n := s.events.length
    let s := { s with events := [], gaps := [] }
    s.softStep 38 (fun s =>
      let s := { s with fb := { s.fb with on := true, winStart := s.bench, winMs := s.fb.windowMs } }
      if n = 0 then s else s.emit 67 0x001 0xFF n) (fun s => s.retireFlag 3)
  else if k = 39 then s.fatalStep 39 (fun s => if s.power.sagPin then s.sagTo s.power.pinStage 0 else s)
  else if k = 40 then
    if e.packageP then (s, 2, false) else s.softStep 40 id (fun s => s.updStart (fun x => { x with portActions := List.replicate 8 3 }))
  else if k = 41 then
    if e.packageP ∨ (s.sec.images.rd 5).kind = 0 ∨ (s.ledger.entries.rd (0x4004 * 256)).isEmpty ∨ act = 3 then (s, 2, false)
    else
      let ps := (List.range 8).filter (fun p => (s.port p).enable && s.start.portActions.getD p 0 != 3)
      (ps.foldl State.beginPort s, 0, false)
  else if k = 42 then
    let late := (List.range 4).filter (fun c => !(e.failsAt 42 c).isEmpty && (s.mem.mc.rd c).st == .running)
    let s := s.reach (s.start.zeroAt + 1000 * s.zeroUs)
    let s := late.foldl (fun s c => (s.retireMc c).updMcRec c (fun m => { m with lastStep := 42, outcome := 4 })) s
    (s, if late.isEmpty then 0 else 4, false)
  else if k = 43 then
    s.fatalStep 43 (fun s => (List.range 8).foldl (fun s p => s.updPar p (fun x => { x with leadDie := s.dieId })) s)
  else if k = 44 then (s.agreementInit, 0, false)
  else if k = 45 then
    if act = 3 then (s.retireFlag 4, 2, false) else s.softStep 45 id (fun s => s.retireFlag 4)
  else if k = 46 then s.softStep 46 id (fun s => s.retireFlag 5)
  else if k = 47 then (if e.ledgerFail then (s.ledgerFailed 0x200, 1, false) else (s, 0, false))
  else s.fatalStep k id

/-- The failure of an image step whose slots are both rejected, or that runs out of time (18 Table 18.3). -/
def State.imageFailed (s : State) (k : Nat) : State :=
  if k = 12 then s.retireFlag 6 else s

/-- ST47 is reached: queues may open, the record is COMPLETE and a rotation is blown (16 R598; 18 R686, R695, R700). -/
def State.opened (s : State) : State :=
  let ms := (s.now - s.start.began) / 1000000
  let s := s.updStart (fun x => { x with phase := .opened, openMs := ms, openAt := s.now })
  let s := if s.start.env.ledgerFail then s else (s.updLedger (fun l => { l with consec := 0 })).updRec (fun r => { r with st := 2, openMs := ms })
  let s := s.sec.rotate.foldl (fun s k =>
    (s.updSec (fun x => { x with fuses := { x.fuses with slots := x.fuses.slots.upd k (fun y => { y with revoked := true }) } })).emit 65 0x503 0xFF k) s
  let units := (List.range 34).foldl (fun (t : Tab SelfUnit) u =>
    let c := s.svc.cfg
    let sec := if u < 16 then c.engineS else if u < 32 then c.sliceS else if u = 32 then c.teS else c.kettleS
    t.upd u (fun x => { x with periodEnd := s.now + 1000000000 * sec })) s.svc.units
  { s.updSec (fun x => { x with rotate := [] }) with svc := { s.svc with units := units } }

/-- A step begins (18 R695): CURRENT names it, and an image step asks for its first bytes. -/
def State.enterStep (s : State) (k : Nat) : State :=
  let s := s.updStart (fun x => { x with step := k, stepAt := s.now, hung := match x.env.hang with
    | some h => h.1 == k
    | none => false })
  let s := if k ≤ 3 then s else s.updRec (fun r => { r with current := k })
  let s := match s.start.env.hang with
    | some h => if h.1 = k ∧ ((20 ≤ k ∧ k ≤ 27)) then s.updMcRec h.2 (fun m => { m with lastStep := k, outcome := 0xFF }) else s
    | none => s
  if k = 8 then s.beginImage 1 9
  else if k = 9 ∨ kindOf k = 0 ∨ (k = 14 ∧ s.start.env.packageP) then s
  else s.beginImage (kindOf k) k

/-- A step ends with an outcome after the time it took (18 R681, R683, R695): the start stops, holds, opens or goes on. -/
def State.endStep (s : State) (k o : Nat) (stops : Bool) : State :=
  let limit := Nat.max (4 * s.stepBoundUs k) 10000
  let took := (s.start.env.ms.find? (fun (x : Nat × Nat) => x.1 == k)).elim 0 (fun x => Nat.min (1000 * x.2) limit)
  let s := s.reach (s.start.stepAt + 1000 * took)
  let ms := Nat.min 0xFFFF ((s.now - s.start.stepAt) / 1000000)
  let s := if k < 3 then s.updStart (fun x => { x with pre := x.pre ++ [(o, ms)] })
    else s.updRec (fun r => { r with outcomes := listSet r.outcomes k o, ms := listSet r.ms k ms })
  let s := if k = 14 then s.updBoot (fun b => { b with waiting := false }) else s
  if stops then
    s.updStart (fun x => { x with phase := if 8 ≤ k ∧ k ≤ 10 then .recovery else .halted, boot := { x.boot with waiting := false } })
  else if k = 19 ∧ s.start.held then s.updStart (fun x => { x with phase := .halted })
  else if k = 47 then s.opened
  else s.enterStep (k + 1)

/-- A step waits for the answer to a boot request. -/
def State.bootStep (s : State) (k : Nat) : Bool := k == 8 || (kindOf k != 0 && !(k == 14 && s.start.env.packageP))

/-- Run steps until the start opens, stops, hangs or waits for boot data. -/
def startGo : Nat → State → State
  | 0, s => s
  | n + 1, s =>
      let k := s.start.step
      if s.start.phase ≠ .starting ∨ s.start.hung ∨ s.bootStep k then s
      else
        let (s, o, stops) := s.startStep k
        startGo n (s.endStep k o stops)

/-- Go on from the step in progress. -/
def State.go (s : State) : State := startGo 64 s

/-! ## Boot answers -/

/-- A slot is rejected (16 R597): the other slot of the kind is tried, or the step fails. -/
def State.rejectSlot (s : State) (check : Nat) : State :=
  let b := s.start.boot
  let k := s.start.step
  let s := s.emit 65 0x500 0xFF (b.kind + 256 * b.slot + 65536 * check)
  if b.tried = 0 then (s.updBoot (fun b => { b with tried := 1, slot := 1 - b.slot, image := [] })).askBoot
  else
    let stops := k = 9 ∨ k = 11
    ((s.imageFailed k).endStep k (if stops then 5 else 3) stops).go

/-- The image has arrived whole: it is checked (16 R596, 18 R690). -/
def State.imageDone (s : State) : State :=
  let b := s.start.boot
  match s.sec.fuses.imageCheck b.kind b.image with
  | 0 => ((s.acceptImage b.kind b.image).endStep s.start.step (if b.tried = 0 then 0 else 1) false).go
  | c => s.rejectSlot c

/-- An answer to a boot request (18 R689, R690): one that does not match is ignored and counted. STATUS: 0 DATA, 1 SLOT_ABSENT, 2
END. -/
def State.bootAnswer (s : State) (seq : U32) (status len : Nat) (buf : List Byte) : State :=
  let b := s.start.boot
  if s.start.phase ≠ .starting ∨ s.start.step < 7 ∨ 15 < s.start.step then s
  else if !b.waiting ∨ seq ≠ b.reqSeq ∨ status > 2 ∨ len > b.length ∨ s.start.hung then s.updBoot (fun b => { b with ignored := b.ignored + 1 })
  else
    let s := if s.start.step = 8 then s.endStep 8 0 false else s
    if s.start.hung then s
    else if status = 1 then s.rejectSlot 1
    else
      let s := s.updBoot (fun b => { b with image := b.image ++ padTo len buf, waiting := false })
      let im := s.start.boot.image
      if status = 2 ∨ (128 ≤ im.length ∧ imageTotal im ≤ im.length) then s.imageDone else s.askBoot

/-- BOOT_RESPONSE (18 R688, R689): the host's write of RESP_SEQ, with what it placed in RESP_STATUS, RESP_LENGTH and BUF before. -/
def execBootResponse (seq : U32) (status : Byte) (length : U32) (buf : List Byte) (s : State) : Out :=
  .next (if s.start.env.bootHost ∧ s.start.env.farEnd ∧ s.start.env.linkUp then s.bootAnswer seq status.toNat length.toNat buf else s)

/-- The BOOT_DATA value (18 R691): RESP_SEQ, RESP_STATUS, three reserved bytes, RESP_LENGTH and the bytes. -/
def State.bootData (s : State) (data : List Byte) : State :=
  s.bootAnswer (BitVec.ofNat 32 (field data 0 4)) (field data 4 1) (field data 8 4) (data.drop 12)

/-- BOOT_DATA (18 R691): served by the RTP from ST05 to ST15, for the board manager; later it is ignored. -/
def State.takeBootData (s : State) (by' : Principal) (data : List Byte) : State :=
  let k (s : State) : State :=
    if by' ≠ .board then s.answer .denied
    else if data.length < 12 ∨ field data 5 3 ≠ 0 ∨ field data 8 4 + 12 ≠ data.length then s.answer .unsupported
    else (if s.start.env.bootHost then s else s.bootData data).answer .ok
  if s.start.powerGood ∧ (s.start.phase = .recovery ∨ (s.start.phase = .starting ∧ 5 < s.start.step ∧ s.start.step ≤ 15)) then k s
  else s.served 19 k

/-- BOOT_DATA. -/
def execBootData (by' : Principal) (data : List Byte) (s : State) : Out := .next (s.takeBootData by' data)

/-! ## Resets (18 R675-R680) -/

/-- What a whole-die reset leaves (18 Table 18.1): fuses and ledger, and the world outside; benchmark time begins at 0 (R676). TEPOCH
stands for the next start to raise (14 R544). -/
def State.wiped (s : State) : State :=
  { State.reset with
    now := s.now, sent := s.sent, freeCtr := s.freeCtr, serial := s.serial, pending := s.pending, reply := s.reply,
    ledger := s.ledger,
    fab := { State.reset.fab with tepoch := s.fab.tepoch },
    mem := { State.reset.mem with host := s.mem.host },
    sec := { State.reset.sec with fuses := s.sec.fuses },
    agree := { State.reset.agree with bench := { ahead := -(4 * (s.now : Int)), since := s.now } },
    power := { State.reset.power with railEn := s.power.railEn, sagPin := s.power.sagPin, alert := s.power.alert } }

/-- Begin a start of a kind (18 R676): 0 POWER_ON, 1 DIE_RESET, 2 SAG_START, which keeps Kettle (17 R668). After a reset TEPOCH is one
higher (14 R544); at power-on it begins at 0. -/
def State.beginStart (s : State) (kind : Nat) (env : StartEnv) : State :=
  let w := s.wiped
  let w := if kind = 2 then { w with kettle := { s.kettle with frozen := false } } else w
  let w := { w with fab := { w.fab with tepoch := if kind = 0 then 0 else w.fab.tepoch + 1 } }
  (w.updStart (fun x => { x with kind := kind, env := env, powerGood := true, began := s.now, stepAt := s.now })).go

/-- A start in progress is ended by a reset or by loss of power-good: INTERRUPTED (18 R677, R701). -/
def State.interruptStart (s : State) : State :=
  if s.start.phase ≠ .starting ∨ s.start.step < 3 then s
  else
    let k := s.start.step
    let s := s.updRec (fun r => { r with outcomes := listSet r.outcomes k 7 })
    (List.range 4).foldl (fun s c => s.updMcRec c (fun m => if m.lastStep = k ∧ m.outcome = 0xFF then { m with outcome := 7 } else m)) s

/-- RESET_NOTICE on every ACTIVE port (14 R544). -/
def State.noticeReset (s : State) : State :=
  (List.range 8).foldl (fun s p => if (s.port p).st = .active then s.sendCtrl p 3 [] else s) s

/-- A DIE_RESET (18 R677). -/
def State.dieReset (s : State) (env : StartEnv) : State := s.noticeReset.interruptStart.beginStart 1 env

/-- POWER_ON (18 R675): power-good rises. -/
def execPowerOn (env : StartEnv) (s : State) : Out := .next (if s.start.powerGood then s else s.beginStart 0 env)

/-- PWRGD_FALL (18 R701; 23 R814): everything but the fuses and the ledger is lost. -/
def execPwrgdFall (s : State) : Out :=
  .next (if !s.start.powerGood then s
    else
      let s := s.interruptStart.wiped
      { s with power := { s.power with railEn := 0 } })

/-- A write of RESET_REQUEST (18 R677, R708): served by a halted die too (R685). -/
def State.resetRequest (s : State) (by' : Principal) (v : Nat) (env : StartEnv) : State :=
  let k (s : State) : State :=
    if by' ≠ .hostk ∧ by' ≠ .rtp ∧ by' ≠ .board then s.answer .denied
    else if v ≠ 1 then s.answer .unsupported
    else (s.answer .ok).dieReset env
  if s.start.powerGood ∧ s.start.phase = .halted then k s else s.served 19 k

/-- RESET_REQUEST. -/
def execResetRequest (by' : Principal) (v : Byte) (env : StartEnv) (s : State) : Out := .next (s.resetRequest by' v.toNat env)

/-- HOST_RESET_INPUT (18 Table 18.1): PERST# or the host reset bumps. -/
def execHostResetInput (env : StartEnv) (s : State) : Out := .next (if s.start.powerGood then s.dieReset env else s)

/-- FATAL_AUTO_RESET (18 R680). -/
def execFatalAutoReset (env : StartEnv) (s : State) : Out :=
  .next (match s.start.autoResetAt with
    | some t => if s.fatal then (s.reach t).dieReset env else s
    | none => s)

/-- START_WATCHDOG (18 R684): not during ST08 nor while a board delivers an image; it writes no outcome. -/
def execStartWatchdog (env : StartEnv) (s : State) : Out :=
  .next (
    if !s.start.powerGood ∨ s.power.sagStage = 7 ∨ s.start.phase ≠ .starting ∨ s.start.step = 8 ∨ (s.bootStep s.start.step ∧ !s.start.env.bootHost) then s
    else (s.reach (s.start.began + 2000000000)).noticeReset.beginStart 1 env)

/-- START_STEP_TIMEOUT (18 R683): a step that hangs, or an image step still waiting, ends TIMEOUT and takes its FAILED action. -/
def execStartStepTimeout (s : State) : Out :=
  .next (
    let k := s.start.step
    if !s.start.powerGood ∨ s.power.sagStage = 7 ∨ s.start.phase ≠ .starting ∨ k = 8 ∨ !(s.start.hung || s.bootStep k) then s
    else
      let s := s.reach (s.start.stepAt + 1000 * Nat.max (4 * s.stepBoundUs k) 10000)
      if s.bootStep k then ((s.imageFailed k).endStep k 4 (k = 9 ∨ k = 11)).go
      else
        let u := (s.start.env.hang.map Prod.snd).getD 0
        (s.updStart (fun x => { x with hung := false, env := { x.env with hang := none, fails := (k, u, 4) :: x.env.fails } })).go)

/-- BOOT_WAIT_EXPIRY (18 ST08, R683): no answer to the first boot request within BOOT_WAIT_MS. -/
def execBootWaitExpiry (s : State) : Out :=
  .next (
    if !s.start.powerGood ∨ s.start.phase ≠ .starting ∨ s.start.step ≠ 8 then s
    else (s.reach (s.start.stepAt + 1000000 * s.start.bootWaitMs)).endStep 8 4 true)

/-- A write of LEDGER_CLEAR (18 R698): at the next start. A halted die serves it (R685). -/
def State.ledgerClear (s : State) (by' : Principal) (v : Nat) : State :=
  let k (s : State) : State :=
    if by' ≠ .hostk ∧ by' ≠ .board then s.answer .denied
    else if v ≠ 1 then s.answer .unsupported
    else (s.updLedger (fun l => { l with clearPending := true })).answer .ok
  if s.start.powerGood ∧ s.start.phase = .halted then k s else s.served 19 k

/-- LEDGER_CLEAR. -/
def execLedgerClear (by' : Principal) (v : Byte) (s : State) : Out := .next (s.ledgerClear by' v.toNat)

/-- The code of a port's state (14 Table 14.4). -/
def PortState.code : PortState → Nat
  | .disabled => 0 | .detect => 1 | .equalize => 2 | .laneMap => 3 | .linkInit => 4 | .linkAuth => 5 | .active => 6
  | .retrain => 7 | .down => 8

/-- PORT_FINAL_RECORD (18 R695): after ST47, when the port is ACTIVE or DOWN, or at 5 s. -/
def execPortFinalRecord (p : Fin 8) (s : State) : Out :=
  .next (
    let x := s.port p
    if s.start.phase ≠ .opened ∨ x.finalRecorded then s
    else
      let s := if x.st = .active ∨ x.st = .down then s else s.reach (s.start.openAt + 5000000000)
      (s.updPort p (fun x => { x with finalRecorded := true })).updRec (fun r => { r with
        ports := listSet r.ports p { (r.ports.getD p {}) with state := x.st.code, speed := x.speed } }))

end Sys2Proof.Machine
end

