-- ==== Sys2Proof/Machine/FieldBook.lean ====
section
/-! DEFINITION. The field book: events into spans, windows, records, the ring and its spill (chapter 19). -/
namespace Sys2Proof.Machine
open Sys2Proof

/-- Change the field book. -/
def State.updFb (s : State) (f : FieldBook → FieldBook) : State := { s with fb := f s.fb }

/-! ## Spans (19 R709-R716) -/

/-- The bin of a shifted value (19 R715). -/
def binOf (v : Nat) : Nat := if v = 0 then 0 else Nat.min 15 (Nat.log2 v + 1)

/-- Add an event to a span of the window that starts at `w` (19 R710, R714-R716). -/
def Span.add (x : Span) (w shift : Nat) (sup : Bool) (value time : Nat) : Span :=
  let x := if x.opened then x else { ({} : Span) with opened := true, start := w }
  let late := decide (time < w)
  let t := if late then w else time
  let x := { x with count := Nat.min (x.count + 1) 0xFFFFFFFF, late := x.late || late }
  if sup then { x with suppressed := true }
  else
    let b := binOf (value >>> shift)
    let n := x.bins.getD b 0
    let x := { x with bins := listSet x.bins b (Nat.min 4095 (n + 1)), clipped := x.clipped || decide (n ≥ 4095) }
    if !x.binned then { x with binned := true, min := value, max := value, minTime := t, maxTime := t }
    else
      let lo := value < x.min ∨ (value = x.min ∧ t < x.minTime)
      let hi := value > x.max ∨ (value = x.max ∧ t < x.maxTime)
      { x with min := if lo then value else x.min, minTime := if lo then t else x.minTime,
               max := if hi then value else x.max, maxTime := if hi then t else x.maxTime }

/-- The end of the window in force. -/
def FieldBook.winEnd (f : FieldBook) : Nat := f.winStart + 1000000 * f.winMs

/-- Put an event into its code's span, or keep it for a later window (19 R711-R714). -/
def FieldBook.place (f : FieldBook) (e : Nat × Nat × Bool × Nat × Nat) : FieldBook :=
  let (code, _, sup, value, time) := e
  if time ≥ f.winEnd then { f with early := f.early ++ [e] }
  else
    let f := if code = 1 then { f with spans := f.spans.updListed (fun _ x => if x.opened then { x with gap := true } else x) } else f
    { f with spans := f.spans.upd code (fun x => x.add f.winStart (f.cfg.rd code).shift sup value time),
             late := if time < f.winStart then f.late + 1 else f.late }

/-- The field book takes an event (19 R709-R712). -/
def State.takeEvent (s : State) (e : Event) : State :=
  if !(s.fb.cfg.rd e.code).enable then s
  else
    let sup := decide (e.parcel < 8) && ((s.parcel e.parcel).sealed || (s.parcel e.parcel).tally)
    s.updFb (fun f => { f.place (e.code, e.parcel, sup, e.value, e.time) with
      events := f.events + 1, gapEvents := if e.code = 1 then f.gapEvents + BitVec.ofNat 64 e.value else f.gapEvents })

/-! ## Records and the ring (19 R717-R725) -/

/-- The 64 bytes of a record (19 Table 19.2). -/
def Span.record (x : Span) (code seq rep : Nat) : List Byte :=
  let flag (b : Bool) (k : Nat) : Nat := if b then 2 ^ k else 0
  let at' (t : Nat) : Nat := if x.binned then (t - x.start) / 1000 else 0
  let bins := (x.bins.zipIdx).foldl (fun (a : Nat) (b : Nat × Nat) => a + b.1 * 2 ^ (12 * b.2)) 0
  let body := leBytes 4 seq ++ leBytes 2 (code + flag x.gap 12 + flag x.suppressed 13 + flag x.clipped 14 + flag x.late 15)
    ++ leBytes 2 rep ++ leBytes 6 (x.start / 1000) ++ leBytes 2 x.windows ++ leBytes 4 x.count ++ leBytes 4 x.min ++ leBytes 4 x.max
    ++ leBytes 4 (at' x.minTime) ++ leBytes 4 (at' x.maxTime) ++ leBytes 24 bins
  body ++ leBytes 4 (crc32c body)

/-- Records lost before they were spilled (19 R727). -/
def State.spillLost (s : State) : State :=
  if s.fb.spill.enable ∧ s.fb.spilled < s.fb.head then
    let n := s.fb.head - s.fb.spilled
    (s.updFb (fun f => { f with spilled := f.head, lost := f.lost + n })).emit 67 0x004 0xFF n
  else s

/-- Write a new record at TAIL; the oldest is overwritten when the ring is full (19 R718, R722). -/
def State.newRecord (s : State) (code : Nat) (x : Span) : State :=
  let f := s.fb
  let slot := f.tail % 4096
  (s.updFb (fun f => { f with
    ring := f.ring.wr slot (x.record code f.tail 0), bad := f.bad.filter (· ≠ slot), last := f.last.wr code (f.tail + 1)
    head := if f.tail - f.head ≥ 4096 then f.head + 1 else f.head, tail := f.tail + 1 })).spillLost

/-- Where a record's spilled copy lies. -/
def State.spillPiece (s : State) (seq : Nat) : Piece :=
  let sp := s.fb.spill
  { back := if sp.kind = 2 then .host else .loc, addr := sp.base + 64 * (seq % 2 ^ sp.log2), len := 64, nocache := false, dva := 0 }

/-- A spill write that fails ends the spill (19 R727). -/
def State.spillFault (s : State) (c : Cause) : State :=
  (s.updFb (fun f => { f with spill := { f.spill with enable := false } })).emit 67 0x005 0xFF c.code

/-- Spill records in order while no sag stage is in force (19 R725, R727, R729). -/
def spillGo : Nat → State → State
  | 0, s => s
  | n + 1, s =>
      let f := s.fb
      if !f.spill.enable ∨ f.spilled ≥ f.tail ∨ s.power.sagStage ≥ 1 then s
      else
        let slot := f.spilled % 4096
        if f.bad.contains slot then
          spillGo n ((s.emit 67 0x003 0xFF f.spilled).updFb (fun f => { f with spilled := f.spilled + 1 }))
        else match s.writePiece .host (s.spillPiece f.spilled) (padTo 64 (f.ring.rd slot)) with
          | .ok _ s => spillGo n (s.updFb (fun f => { f with spilled := f.spilled + 1 }))
          | .wait s => s
          | .fail _ c => s.spillFault c
          | .remote _ _ => s.spillFault .exec

/-- A REPEAT update rewrites the spilled copy that is still at its slot (19 R727). -/
def State.respill (s : State) (seq : Nat) : State :=
  let f := s.fb
  if !f.spill.enable ∨ seq ≥ f.spilled ∨ seq + 2 ^ f.spill.log2 < f.spilled then s
  else match s.writePiece .host (s.spillPiece seq) (padTo 64 (f.ring.rd (seq % 4096))) with
    | .ok _ s => s
    | .wait s => s
    | .fail _ c => s.spillFault c
    | .remote _ _ => s.spillFault .exec

/-- The last record of a code as it stands in the ring, with its sequence number (19 R720). -/
def FieldBook.lastOf (f : FieldBook) (code : Nat) : Option (Nat × List Byte) :=
  let k := f.last.rd code
  if k = 0 ∨ k - 1 < f.head then none else some (k - 1, f.ring.rd ((k - 1) % 4096))

/-- A span repeats a record (19 R720 step 1). -/
def FieldBook.repeats (f : FieldBook) (code : Nat) (x : Span) (r : List Byte) : Bool :=
  let mine := x.record code 0 0
  let rep := field r 6 2
  decide (rep < 65535) && decide (field r 8 6 + (rep + 1) * field r 14 2 * (1000 * f.winMs) = x.start / 1000)
    && slice mine 4 2 == slice r 4 2 && slice mine 14 46 == slice r 14 46

/-- A code's span at a window's close: repeated, recorded or carried (19 R720); `last` where every span ends and takes no token
(R721, R731). -/
def State.closeSpan (s : State) (last : Bool) (code : Nat) : State :=
  let x := s.fb.spans.rd code
  if !x.opened then s
  else
    let drop (s : State) : State := s.updFb (fun f => { f with spans := f.spans.wr code {} })
    let fresh (s : State) (token : Bool) : State :=
      drop ((s.newRecord code x).updFb (fun f => { f with used := if token then f.used.upd code (· + 1) else f.used }))
    let next (s : State) : State :=
      let c := s.fb.cfg.rd code
      if last then fresh s false
      else if c.rate = 0 then fresh s false
      else if s.fb.used.rd code < c.rate then fresh s true
      else if x.windows ≥ 65535 then fresh s false
      else s.updFb (fun f => { f with spans := f.spans.wr code { x with windows := x.windows + 1 }, deferred := f.deferred + 1 })
    if x.count = 0 then drop s
    else match s.fb.lastOf code with
      | none => next s
      | some (seq, r) =>
          if s.fb.bad.contains (seq % 4096) then next (s.emit 67 0x003 0xFF seq)
          else if s.fb.repeats code x r then
            let body := slice r 0 6 ++ leBytes 2 (field r 6 2 + 1) ++ slice r 8 52
            (drop (s.updFb (fun f => { f with ring := f.ring.wr (seq % 4096) (body ++ leBytes 4 (crc32c body)), gen := f.gen + 1 }))).respill seq
          else next s

/-- Every open span in ascending code order. -/
def State.closeSpans (s : State) (last : Bool) : State := (s.fb.spans.map Prod.fst).foldl (fun s c => s.closeSpan last c) s

/-- A new window begins, and events kept for it are placed (19 R713, R714). -/
def FieldBook.nextWindow (f : FieldBook) (start : Nat) : FieldBook :=
  let es := f.early
  es.foldl FieldBook.place { f with winStart := start, winMs := f.windowMs, endSpans := false, early := [] }

/-- Every open span is written, and a new window starts when the die wakes (19 R731). -/
def State.fbFlush (s : State) : State := s.closeSpans true

/-! ## Commands -/

/-- The field book records (18 ST38; 19 R730). -/
def State.fbRuns (s : State) : Bool := s.fb.on && !bitAt s.start.retiredFlags 3 && s.awake

/-- EVENT_ENTRY (19 R709): the oldest entry of the EVENT channels. -/
def execEventEntry (s : State) : Out :=
  .next (
    match s.events with
    | [] => s
    | e :: rest =>
        if !s.awake then s
        else
          let s := { s with events := rest }
          if s.fbRuns then spillGo 4096 (s.takeEvent e) else s)

/-- WINDOW_CLOSE (19 R713, R714, R718-R721): 200 µs after the window's end. -/
def execWindowClose (s : State) : Out :=
  .next (
    if !s.fbRuns then s
    else
      let e := s.fb.winEnd
      let s := s.reach (s.now + (e + 200000 - s.bench))
      let s := s.closeSpans s.fb.endSpans
      spillGo 4096 (s.updFb (fun f => f.nextWindow e)))

/-- TOKEN_REFILL (19 R719). -/
def execTokenRefill (code : Fin 4096) (s : State) : Out :=
  .next (
    let r := (s.fb.cfg.rd code).rate
    if !s.fbRuns ∨ r = 0 then s
    else
      let s := s.reach (nextMultiple s.now (60000000000 / r))
      s.updFb (fun f => { f with used := f.used.upd code (· - 1) }))

/-- What a write of a field-book entry meets (19 R730, R734). -/
def State.fbWrite (s : State) (may ok : Bool) (k : State → State) : State :=
  s.served 38 fun s =>
    if !may then s.answer .denied
    else if !ok then s.answer .unsupported
    else if bitAt s.start.retiredFlags 3 then s.answer .retired
    else (k s).answer .ok

/-- FB_CONFIG_WRITE (19 R713, R721). -/
def execFbConfigWrite (by' : Principal) (windowMs : U16) (s : State) : Out :=
  .next (s.fbWrite (by' == .hostk || by' == .rtp || by' == .board) (decide (100 ≤ windowMs.toNat ∧ windowMs.toNat ≤ 60000))
    (fun s => s.updFb (fun f => { f with windowMs := windowMs.toNat, endSpans := true })))

/-- FB_SPILL_WRITE (19 R726): a LOCAL ring in a parcel's controller is refused; ENABLE 1 starts at HEAD. -/
def execFbSpillWrite (by' : Principal) (enable kind log2 : Byte) (reserved : BitVec 40) (base : U64) (s : State) : Out :=
  .next (
    let ok := decide (enable.toNat ≤ 1 ∧ (kind.toNat = 0 ∨ kind.toNat = 2) ∧ 12 ≤ log2.toNat ∧ log2.toNat ≤ 24 ∧ reserved = 0
      ∧ base.toNat % 64 = 0)
    let len := 64 * 2 ^ log2.toNat
    let owned := (List.range 4).any (fun c => (s.mcOwner c).isSome && decide (base.toNat < (c + 1) * mcWindow ∧ c * mcWindow < base.toNat + len))
    s.fbWrite (by' == .hostk || by' == .rtp) (ok && !(kind.toNat == 0 && owned)) (fun s =>
      let s := s.updFb (fun f => { f with
        spill := { enable := enable.toNat == 1, kind := kind.toNat, log2 := log2.toNat, base := base.toNat }
        spilled := if enable.toNat = 1 then f.head else f.spilled })
      spillGo 4096 s))

end Sys2Proof.Machine
end

