-- ==== Sys2Proof/Machine/Service.lean ====
section
/-! DEFINITION. Self-test, patrol, repair and removal (chapter 20; 07 R265). -/
namespace Sys2Proof.Machine
open Sys2Proof

/-! ## Self-test segments (20 R737-R749) -/

/-- The engine number a unit's engine or slice pairs with. -/
def unitEngine (u : Nat) : Nat := u % 16

/-- The parcel that holds a unit's engine or slice. -/
def State.unitParcel (s : State) (u : Nat) : Option Nat :=
  if u ≥ 32 then none
  else (List.range 8).find? (fun p => bitAt (if u < 16 then (s.parcel p).engines else (s.parcel p).slices) (unitEngine u))

/-- A unit is retired. -/
def State.unitRetired (s : State) (u : Nat) : Bool :=
  if u < 16 then (s.engine u).retired
  else if u < 32 then (s.slc.rd (u - 16)).retired
  else if u = 32 then s.te.retired || bitAt s.start.retiredFlags 0
  else s.kettleRetired

/-- A unit is on and in a state to be withdrawn (20 Table 20.2, R742): an engine at an instruction boundary, the tree engine with a
context bound, Kettle STOPPED. -/
def State.unitReady (s : State) (u : Nat) : Bool :=
  if u < 16 then (s.engine u).powered && (s.engine u).atBoundary && !(s.engine u).halted
  else if u < 32 then (s.slc.rd (u - 16)).powered
  else if u = 32 then (List.range 8).any (fun p => (s.te.ctx.rd p).image.isSome)
  else s.kettle.st == .stopped

/-- A segment may start (20 R743). -/
def State.segmentOk (s : State) (u : Nat) : Bool :=
  let busy (p : Nat) : Bool :=
    s.svc.segs.any (fun g => s.unitParcel g.unit == some p) || (s.parcel p).switch.isSome
      || (List.range 16).any (fun k => (s.job p k).ending || (s.job p k).st == .switching)
  let clear := match s.unitParcel u with | some p => !busy p | none => true
  decide (s.svc.segs.length < s.svc.cfg.maxConc) && clear && s.power.sagStage == 0 && s.power.state == .idle && !s.unitRetired u
    && s.unitReady u && !s.svc.segs.any (fun g => g.unit == u)

/-- A segment starts: the unit is withdrawn; a sub-array that is not wholly EMPTY ends it at once as SKIPPED (20 R738, R739). -/
def State.startSegment (s : State) (g : Segment) : State :=
  let u := g.unit
  let s := { s with svc := { s.svc with segs := s.svc.segs ++ [g] } }
  if u < 16 then (s.updEng u (fun e => { e with withdrawn := true })).watchSettle
  else if u < 32 then
    let x := s.slc.rd (u - 16)
    if (subGranules g.sub).all (fun i => (x.gran.rd i).st == .empty && (x.gran.rd i).readers == 0) then
      s.updSlc (u - 16) (fun x => { x with
        withdrawn := true, gran := (subGranules g.sub).foldl (fun t i => Tab.wr t i { st := .filling }) x.gran })
    else s.countSegment g 4 0xFF
  else if u = 32 then { s with te := { s.te with withdrawn := true } }
  else s.updKettle (fun k => { k with st := .withdrawn, listenDue := false })

/-- The period of a unit in ns (20 R742). -/
def State.unitPeriod (s : State) (u : Nat) : Nat :=
  let c := s.svc.cfg
  1000000000 * (if u < 16 then c.engineS else if u < 32 then c.sliceS else if u = 32 then c.teS else c.kettleS)

/-- SELFTEST_DUE (20 R742, R743, R763): a requested segment first, then the periodic one of the period, once; one that was due and
did not start before its period's end is counted. -/
def execSelftestDue (u : Fin 34) (s : State) : Out :=
  .next (
    if !s.isOpen ∨ !s.awake then s
    else match s.svc.requested with
      | some g =>
          if g.unit = u.val then
            if s.segmentOk u then { s with svc := { s.svc with requested := none } }.startSegment g else s
          else s
      | none =>
          if !s.svc.cfg.enable ∨ bitAt s.start.retiredFlags 4 then s
          else
            let x := s.svc.units.rd u
            let s := if x.started then s.reach x.periodEnd else s
            let s := if s.now < x.periodEnd then s
              else s.updUnit u (fun x => { x with skips := if x.started then x.skips else x.skips + 1, started := false,
                                                  periodEnd := s.now + s.unitPeriod u })
            if (s.svc.units.rd u).started ∨ !s.segmentOk u then s
            else (s.updUnit u (fun x => { x with started := true })).startSegment { unit := u, sub := (s.svc.units.rd u).sub })

/-- An engine fails its segment: it is retired, each failing lane recorded; its stopped task ends UNCORR, and tasks that wait for it
end RETIRED (20 R747, R748). -/
def State.failEngine (s : State) (n : Nat) (lanes : List Nat) : State :=
  let s := lanes.foldl (fun s l => s.softFound 1 n l) s
  let s := if (s.engine n).task.isSome then s.finishTask n .faulted .uncorr else s
  let s := (s.engine n).inbox.foldl (fun (s : State) (t : Task) => s.endItem t .retired .none) s
  s.updEng n (fun e => { e with retired := true, inbox := [] })

/-- A task holds a granule of a slice. -/
def State.holdsSlice (s : State) (n sl : Nat) : Bool :=
  let e := s.engine n
  e.reserved.any (fun h => h.slice == sl) || (match e.task.bind (·.issued) with
    | some i => i.holds.any (fun h => h.slice == sl) || i.claims.any (fun c => c.slice == sl)
    | none => false)

/-- A slice fails with no spare left: it and its engine are retired, and the tasks that hold its granules end UNCORR (20 R747,
R748). -/
def State.failSlice (s : State) (sl : Nat) : State :=
  let hit := (List.range 16).filter (fun n => n == sl || s.holdsSlice n sl)
  let s := hit.foldl (fun s n => if (s.engine n).task.isSome then s.finishTask n .faulted .uncorr else s) s
  (s.failEngine sl []).retireSlice sl

/-- The tree engine fails: its contexts are cleared, and the runs they hold end UNCORR (20 R747, R748). -/
def State.failTe (s : State) : State :=
  let s := (List.range 8).foldl (fun (s : State) p => match (s.te.ctx.rd p).run with
    | some r => s.setItem r.queue r.cmd 0 (.done .faulted .uncorr)
    | none => s) s
  ({ s with te := { s.te with ctx := [], am := [], retired := true } }).retireFlag 0

/-- SELFTEST_SEGMENT_END (20 R741, R747, R752): whether the first and the confirming pass passed, and the physical lanes that
failed. -/
def execSelftestSegmentEnd (u : Fin 34) (first confirm : Bool) (lanes : List (Fin 136)) (s : State) : Out :=
  .next (
    match s.svc.segs.find? (fun g => g.unit == u.val) with
    | none => s
    | some g =>
        let o := if first then 0 else if confirm then 1 else 2
        let ls := lanes.map Fin.val
        let s := s.restoreUnit g
        if o ≠ 2 then s.countSegment g o 0xFF
        else if u.val < 16 then (s.countSegment g 2 (ls.headD 0xFF)).failEngine u ls
        else if u.val < 32 then
          let sl := u.val - 16
          let s := (s.countSegment g 2 g.sub).softFound 2 sl g.sub
          if (s.slc.rd sl).mapped.length ≥ 2 then s.failSlice sl else s.mapSub sl g.sub
        else if u.val = 32 then (s.countSegment g 2 0xFF).failTe
        else (s.countSegment g 2 0xFF).retireFlag 2)

/-- SELFTEST_REQUEST (20 R763). -/
def execSelftestRequest (by' : Principal) (kind unit sub : Byte) (s : State) : Out :=
  .next (s.servedOpen 47 fun s =>
    let k := kind.toNat
    let u := if k < 2 then 16 * k + unit.toNat else 30 + k
    if by' ≠ .hostk ∧ by' ≠ .rtp ∧ by' ≠ .board then s.answer .denied
    else if k > 3 ∨ unit.toNat > 15 ∨ sub.toNat > 47 then s.answer .unsupported
    else if k = 3 ∧ s.kettle.st ≠ .stopped ∧ s.kettle.st ≠ .withdrawn then s.busy 1000
    else if s.svc.segs.any (fun g => g.unit == u) then s.answer .withdrawn
    else if s.unitRetired u then s.answer .retired
    else
      let g : Segment := { unit := u, sub := sub.toNat, demand := true }
      let s := { s with svc := { s.svc with result := {} } }.answer .ok
      if s.segmentOk u then s.startSegment g else { s with svc := { s.svc with requested := some g } })

/-! ## Patrol (07 R261-R265; 20 R753) -/

/-- An uncorrectable word that the SRAM patrol finds in an array (07 Table 7.5): 1 scratch, 2 Device Cache data, 3 tags, 4 directory, 5
descriptor caches, 6 node cache; the slice and its word, or the way and its set. A FILLING granule is skipped. -/
def State.sramUncorr (s : State) (arr a b : Nat) : State :=
  if arr = 1 then
    if ((s.slc.rd a).gran.rd (b / 128)).st = .filling then s
    else (s.updSlc a (fun x => if x.bad.contains b then x else { x with bad := x.bad ++ [b] })).countEcc a 1 0 0 1 0
  else if arr = 2 then
    let k := dcKey a b
    let l := s.mem.dc.rd k
    if !l.valid then s
    else if l.dirty then
      let line := l.tag * 8192 + b
      ({ s with mem := { s.mem with badLoc := if s.mem.badLoc.contains line then s.mem.badLoc else s.mem.badLoc ++ [line] } }).countEcc
        (48 + a / 4) 2 0 0 1 0
    else ({ s with mem := { s.mem with dc := s.mem.dc.wr k {} } }).countEcc (48 + a / 4) 2 0 0 0 1
  else if arr = 3 then (s.countEcc (48 + a / 4 % 4) 3 0 0 1 0).dieFatal
  else if arr = 4 then (s.countEcc 52 4 0 0 1 0).dieFatal
  else if arr = 5 then s.countEcc (a % 16) 5 0 0 0 1
  else if arr = 6 then s.countEcc 60 6 0 0 0 1
  else s

/-- The island of an array (02 Table 2.1). -/
def arrayIsland (arr a : Nat) : Nat :=
  if arr = 1 ∨ arr = 5 then a % 16 else if arr = 2 ∨ arr = 3 then 48 + a / 4 % 4 else if arr = 4 then 52 else 60

/-- SRAM_PATROL (07 R265): a pass at its period; what it finds, each as an array and its unit. -/
def execSramPatrol (data check : List (Fin 7 × Nat)) (bad : List (Fin 7 × Nat × Nat)) (s : State) : Out :=
  .next (
    if !s.awake ∨ s.start.step < 29 then s
    else
      let s := s.reach (nextMultiple s.now (1000000 * Nat.max 1 s.mem.sramPatrolMs))
      let s := data.foldl (fun (s : State) (x : Fin 7 × Nat) => s.countEcc (arrayIsland x.1 x.2) x.1 1 0 0 0) s
      let s := check.foldl (fun (s : State) (x : Fin 7 × Nat) => s.countEcc (arrayIsland x.1 x.2) x.1 0 1 0 0) s
      bad.foldl (fun (s : State) (x : Fin 7 × Nat × Nat) => s.sramUncorr x.1 x.2.1 x.2.2) s)

/-- MC_PATROL (07 R264, R265; 20 R753): a pass over a controller's inline-ECC lines; what it corrected, and the physical lines it
found uncorrectable, which are poisoned. -/
def execMcPatrol (c : Fin 4) (data check : Nat) (bad : List Nat) (s : State) : Out :=
  .next (
    let m := s.mem.mc.rd c
    if !s.awake ∨ m.st ≠ .running ∨ m.eccInForce = 0 then s
    else
      let s := s.reach (nextMultiple s.now (3600000000000 * Nat.max 1 s.mem.mcPatrolHours))
      let mine := (bad.filter (fun l => l * 128 / mcWindow == c.val && decide (l * 128 % mcWindow + 128 ≤ m.reach))).eraseDups
      let s := s.countEcc (53 + c) (7 + c) data check mine.length 0
      { s with mem := { s.mem with badLoc := s.mem.badLoc ++ mine.filter (fun l => !s.mem.badLoc.contains l) } })

/-- READ_TIMING_DRIFT_LIMIT (20 R753): the controller is RETIRE_PENDING and keeps serving. -/
def execReadTimingDriftLimit (c : Fin 4) (s : State) : Out :=
  .next (
    if s.awake ∧ (s.mem.mc.rd c).st = .running then s.updLedger (fun l => { l with mcPending := l.mcPending ||| (1 <<< c.val) }) else s)

/-! ## Repair and removal (20 R753-R762) -/

/-- A write of REPAIR_CONTROL (20 Table 20.6): applied at the next start. -/
def State.repairControl (s : State) (by' : Principal) (v : Nat) : State :=
  s.served 19 fun s =>
    if by' ≠ .hostk ∧ by' ≠ .rtp ∧ by' ≠ .board then s.answer .denied
    else if v > 1 then s.answer .unsupported
    else (s.updLedger (fun l => if v = 0 then { l with clearSoft := true } else { l with clearMcPending := true })).answer .ok

/-- CLEAR_SOFT. -/
def execClearSoft (by' : Principal) (s : State) : Out := .next (s.repairControl by' 0)

/-- CLEAR_MC_PENDING. -/
def execClearMcPending (by' : Principal) (s : State) : Out := .next (s.repairControl by' 1)

/-- A write of SERVICE_REQUEST (20 R758): 1 PREPARE_REMOVAL, 0 CANCEL. -/
def State.serviceRequest (s : State) (by' : Principal) (v : Nat) : State :=
  s.served 19 fun s =>
    if by' ≠ .hostk ∧ by' ≠ .board ∧ by' ≠ .surv then s.answer .denied
    else if v > 1 then s.answer .unsupported
    else if s.straps.packageP then s.answer .unsupported
    else if v = 1 then
      if s.jobs.any (fun (x : Nat × Job) => x.2.st != .ended) then s.busy 1000
      else if s.svc.state ≠ 0 then s.answer .ok
      else { s with svc := { s.svc with state := 1, drainFrom := s.now } }.answer .ok
    else if s.svc.state = 2 then s.busy 1000
    else { s with svc := { s.svc with state := 0 } }.answer .ok

/-- PREPARE_REMOVAL. -/
def execPrepareRemoval (by' : Principal) (s : State) : Out := .next (s.serviceRequest by' 1)

/-- CANCEL. -/
def execCancel (by' : Principal) (s : State) : Out := .next (s.serviceRequest by' 0)

/-- ROUTER_QUIET (20 Table 20.5 steps 2-4): while DRAINING, the ports are told and disabled, and every domain but those of PD01-PD03 and
the live attach goes off. -/
def execRouterQuiet (s : State) : Out :=
  .next (
    if s.svc.state ≠ 1 then s
    else
      let s := s.reach (s.svc.drainFrom + 10000000)
      let s := s.noticeReset
      let s := (List.range 8).foldl (fun (s : State) p =>
        let s := if (s.port p).st = .active ∨ (s.port p).st = .retrain then s.guardPort p else s
        s.updPort p (fun x => { x with st := .disabled, admitted := false, auth := {} })) s
      let s := (List.range 16).foldl (fun (s : State) n =>
        (s.updEng n (fun e => { e with powered := false, block := none, half0 := {}, half1 := {}, density := 0 })).updSlc n (fun x =>
          { x with powered := false, bytes := [], gran := [], bad := [] })) s
      { s with te := { s.te with ctx := [], am := [] }, mem := { s.mem with dc := [] }, svc := { s.svc with state := 2 } })

end Sys2Proof.Machine
end

