-- ==== Sys2Proof/Machine/Shoot.lean ====
section
/-! DEFINITION. Shootdowns, migration and warming, advice, and the forced abandonment of a semaphore (08 R306-R325, R799; 09
R356). -/
namespace Sys2Proof.Machine
open Sys2Proof

/-! ## Shootdown (08 R306-R311) -/

/-- Mark a parcel's commands that have not started, and its caddy sequences, for translation again (08 Table 8.7, step 3; 12 R458). -/
def State.markRetrans (s : State) (p lo hi : Nat) : State :=
  let s := { s with queues := s.queues.updListed (fun q x =>
    if s.queueParcel q = some p then
      { x with consumed := x.consumed.map (fun (c : Cmd) => if !c.started && recOverlaps c.record lo hi then { c with retrans := true } else c) }
    else x) }
  { s with caddy := { s.caddy with seqs := s.caddy.seqs.updListed (fun _ e =>
    if e.parcel = p ∧ recOverlaps [(0, e.stateExts)] lo hi then { e with retrans := true } else e) } }

/-- A command that runs in a parcel and overlaps a range. -/
def State.runsOver (s : State) (p lo hi q : Nat) : Option Cmd :=
  if s.queueParcel q ≠ some p then none
  else (s.queue q).consumed.find? (fun c => c.started && !c.isOver && recOverlaps c.record lo hi)

/-- The queues that have a state. -/
def State.queueList (s : State) : List Nat := s.queues.map Prod.fst

/-- Force the running commands of a range to stop (08 R311): each ends with cause SHOT_DOWN and a fault record. -/
def State.forceStop (s : State) (p lo hi : Nat) : State :=
  s.queueList.foldl (fun (s : State) q => match s.runsOver p lo hi q with
    | some c =>
        if c.stopped.isSome then s
        else
          let i := ((c.record.find? (fun (r : Nat × List Extent) => recOverlaps [r] lo hi)).map Prod.fst).getD 0xFF
          let (s, seq) := s.raiseFault q p .shotDown 0xFF 0 0
          (s.updCmd q c.serial (fun c => { c with detail := i, faultSeq := seq })).stopCmd q c.serial .shotDown
    | none => s) s

/-- SHOOTDOWN (08 R306, R308): steps 1-3 at acceptance, and with FORCE the stop of running commands. -/
def execShootdown (by' : Principal) (parcel force : Byte) (reserved : U16) (tag : U32) (start len : U64) (s : State) : Out :=
  .next (s.served 36 fun s =>
    if by' ≠ .hostk ∧ by' ≠ .rtp then s.answer .denied
    else if parcel.toNat > 7 ∨ force.toNat > 1 ∨ reserved ≠ 0 then s.answer .unsupported
    else if s.xlat.shoots.length ≥ 8 then s.busy 10
    else
      let p := parcel.toNat
      let lo := if len = 0 then 0 else start.toNat
      let hi := if len = 0 then 2 ^ 48 else start.toNat + len.toNat
      let sh : Shoot := { parcel := p, tag := some tag, start := lo, len := hi - lo }
      let s := { s with xlat := { s.xlat with shoots := s.xlat.shoots ++ [sh] } }
      let s := (s.cacheDrop p lo hi).markRetrans p lo hi
      (if force = 1 then s.forceStop p lo hi else s).answer .ok)

/-- A queue's rings that a shootdown overlapped are translated again (10 R369). Answers whether that is over. -/
def State.shotRings (s : State) (p lo hi q : Nat) : State × Bool :=
  let x := s.queue q
  match s.jobOf q with
  | none => (s, true)
  | some (p', slot) =>
      if p' ≠ p ∨ x.st = .closed ∨ x.st = .faulted ∨ !(recOverlaps [(0, x.descRing), (1, x.cplRing)] lo hi) then (s, true)
      else
        let gs : List Region := [{ dva := x.descBase, len := 64 * 2 ^ x.descLog2, r := true },
                                 { dva := x.cplBase, len := 32 * 2 ^ x.cplLog2, w := true }]
        match s.pretranslate p (s.job p slot).cfg (decide ((s.job p slot).cfg = s.xlat.cfg.rd p)) gs with
        | .wait s => (s, false)
        | .fault _ _ s => (s.faultQueue q, true)
        | .ok rec s => (s.updQ q (fun x => { x with descRing := recOf rec 0, cplRing := recOf rec 1 }), true)

/-- SHOOTDOWN_COMPLETE (08 R307, R308): the oldest shootdown, once no running command overlaps its range; rings and streams are
translated again, and SHOOTDOWN_DONE takes the tag. One that XLAT_CONFIG started answers its write. -/
def execShootdownComplete (s : State) : Out :=
  .next (
    match s.xlat.shoots with
    | [] => s
    | sh :: rest =>
        let lo := sh.start
        let hi := if sh.len = 0 then 2 ^ 48 else sh.start + sh.len
        if s.queueList.any (fun q => (s.runsOver sh.parcel lo hi q).isSome) then s
        else
          let r := s.queueList.foldl (fun (a : State × Bool) q =>
            let (s, ok) := a.1.shotRings sh.parcel lo hi q
            (s, a.2 && ok)) (s, true)
          let r := (List.range 16).foldl (fun (a : State × Bool) n =>
            let (s, ok) := a.1.shotStream sh.parcel lo hi n
            (s, a.2 && ok)) r
          if !r.2 then r.1
          else
            let s := r.1
            match sh.tag with
            | some t => { s with xlat := { s.xlat with shoots := rest, shootDone := t } }
            | none => { s with xlat := { s.xlat with shoots := rest } }.answer .ok)

/-! ## PREFETCH (08 R316-R322) -/

/-- A descriptor's range: DVA and length of PREFETCH and ADVISE. -/
def dRange (b : List Byte) : Nat × Nat := (field b 32 8, field b 40 8)

/-- The head command of a queue, not over, whose opcode and first argument byte are those of a row. -/
def State.headArg (s : State) (q op arg : Nat) : Option Cmd :=
  match (s.queue q).consumed with
  | c :: _ => if dOp c.bytes = op ∧ field c.bytes 24 1 = arg ∧ !c.isOver then some c else none
  | [] => none

/-- The raw entries of a range table that cover a DVA run exactly, from an index on; none where they do not. -/
def State.wholeEntries (s : State) (cfg : XlatConfig) : Nat → Nat → Nat → Nat → Acc (List (Nat × List Byte))
  | 0, _, _, _ => .fail .unsupported .none
  | fuel + 1, i, dva, len =>
      if len = 0 then .ok [] s
      else if i ≥ cfg.count then .fail .unsupported .none
      else match s.readTable cfg.tableKind (cfg.base + 32 * i) 32 with
        | .ok b s =>
            let r := decodeRange i b
            if r.bad || !r.valid || r.e.start != dva || decide (r.e.len > len) then .fail .unsupported .none
            else match s.wholeEntries cfg fuel (i + 1) (dva + r.e.len) (len - r.e.len) with
              | .ok rest s => .ok ((i, b) :: rest) s
              | .wait s => .wait s
              | .remote d a => .remote d a
              | .fail st c => .fail st c
        | .wait s => .wait s
        | .remote d a => .remote d a
        | .fail _ _ => .fail .unsupported .none

/-- Write bytes 0-7 of a table entry (08 R319). -/
def State.writeTable (s : State) (kind addr : Nat) (b : List Byte) : Acc Unit :=
  s.writePiece .host { back := if kind = 2 then .host else .loc, addr := addr, len := b.length, nocache := false, dva := 0 } b

/-- What moving an entry gives. -/
inductive Mig where
  | done (s : State)
  | wait (s : State)
  | stop (st : Status) (c : Cause) (s : State)

/-- Write the switched ACTIVE bit where the entry still reads as at step 1, in memory and in the cache (08 R318 steps 4-5, R319). -/
def State.switchEntry (s : State) (p : Nat) (cfg : XlatConfig) (i w0 : Nat) (e : RawEntry) : Mig :=
  let at' := cfg.base + 32 * i
  match s.readTable cfg.tableKind at' 32 with
  | .ok b s =>
      if field b 0 8 ≠ w0 then .stop .faulted .tableChanged s
      else match s.writeTable cfg.tableKind at' (leBytes 8 (w0 ^^^ 64)) with
        | .ok _ s =>
            let e' := (decodeRange i (leBytes 8 (w0 ^^^ 64) ++ b.drop 8)).e
            let s := { s with xlat := { s.xlat with cache := s.xlat.cache.upd p (fun l =>
              l.map (fun (x : XlatEntry) => if x.start = e.e.start then e' else x)) } }
            .done (s.markRetrans p e.e.start (e.e.start + e.e.len))
        | .wait s => .wait s
        | _ => .stop .faulted .exec s
  | .wait s => .wait s
  | _ => .stop .faulted .exec s

/-- Move one entry to a target kind (08 R318 steps 2-5). -/
def State.migrateEntry (s : State) (q p : Nat) (c : Cmd) (cfg : XlatConfig) (i : Nat) (b : List Byte) (target : Nat) : Mig :=
  let r := decodeRange i b
  let lo := r.e.start
  let hi := lo + r.e.len
  let w0 := match c.mig with | some (l, _, w) => if l = lo then w else field b 0 8 | none => field b 0 8
  let passed : Bool := match c.mig with | some (l, _, _) => decide (lo < l) | none => false
  if passed then .done s else
  let s := s.updCmd q c.serial (fun c => { c with mig := some (lo, hi, w0) })
  if s.queueList.any (fun k => k != q && (s.runsOver p lo hi k).isSome) then .wait s
  else if r.e.kind = target then .done (s.markRetrans p lo hi)
  else
    let other := if bitAt w0 6 then field b 16 8 else field b 24 8
    let outs : Bool := (s.parcel p).sealed && s.unsealedExt p { back := backingOf target other, addr := other, len := r.e.len }
    let src : Piece := { back := backingOf r.e.kind r.e.base, addr := r.e.base, len := r.e.len, nocache := r.e.nocache, dva := lo }
    let dst : Piece := { back := backingOf target other, addr := other, len := r.e.len, nocache := r.e.nocache, dva := lo }
    let o : GOwner := .step q c.serial 0
    let land (s : State) (bs : List Byte) : Mig :=
      match s.writeAll (.parcel p) 2 (s.parcel p).fabricId [dst] bs with
      | .ok s => (s.dropGather o).switchEntry p cfg i w0 r
      | .wait s => .wait s
      | .start _ s => .stop .faulted .exec s
      | .fail st ca s => .stop st ca s
    if outs then .stop .denied .none (s.emit 57 0x505 p p)
    else match s.gatherOf o with
      | some g =>
          if !g.ready then .wait s
          else match g.failed with
            | some (st, ca) => .stop st ca (s.dropGather o)
            | none => land s (memRead g.buf 0 r.e.len)
      | none =>
          match s.readAll (.parcel p) 1 (s.parcel p).fabricId [src] with
          | .ok bs s => land s bs
          | .wait s => .wait s
          | .start buf reqs s => .wait (s.startGather { owner := o, todo := reqs, buf := buf })
          | .fail st ca s => .stop st ca s

/-- Move the entries of a range in order (08 R318). -/
def migrateGo (q p : Nat) (cfg : XlatConfig) (target : Nat) : List (Nat × List Byte) → State → Mig
  | [], s => .done s
  | (i, b) :: rest, s =>
      match (s.queue q).consumed with
      | [] => .done s
      | c :: _ =>
          match s.migrateEntry q p c cfg i b target with
          | .done s => migrateGo q p cfg target rest s
          | r => r

/-- A MIGRATE goes on (08 R317-R319): what it has moved already stays where the target kind has it. -/
def State.migrate (s : State) (q p slot : Nat) (c : Cmd) : State :=
  let cfg := (s.job p slot).cfg
  let (dva, len) := dRange c.bytes
  let target := field c.bytes 25 1
  if cfg.mode ≠ 1 then s.endCmd q c.serial .unsupported .none
  else match s.walk cfg dva with
    | .wait s => s
    | .missing s => s.endCmd q c.serial .unsupported .none
    | .error s => s.endCmd q c.serial .unsupported .none
    | .found e s =>
        match s.wholeEntries cfg (cfg.count + 1) e.index dva len with
        | .wait s => s
        | .remote _ _ => s.endCmd q c.serial .unsupported .none
        | .fail _ _ => s.endCmd q c.serial .unsupported .none
        | .ok es s =>
            let kinds (b : List Byte) : List Nat := [bitsOf (field b 0 8) 9 8, bitsOf (field b 0 8) 11 10]
            if c.mig.isNone && (es.any (fun x => !bitAt (field x.2 0 8) 7 || !(kinds x.2).contains target)
                || (cfg.tableKind == 2 && !s.xlat.casAvailable)) then s.endCmd q c.serial .unsupported .none
            else match migrateGo q p cfg target es s with
              | .wait s => s
              | .done s => (s.updCmd q c.serial (fun c => { c with mig := none })).endCmd q c.serial .ok .none
              | .stop st ca s =>
                  let s := s.updCmd q c.serial (fun c => { c with mig := none })
                  if ca = .tableChanged then
                    let (s, seq) := s.raiseFault q p ca 0 dva 3
                    (s.updCmd q c.serial (fun c => { c with faultSeq := seq })).endCmd q c.serial st ca
                  else s.endCmd q c.serial st ca

/-- Run a command of one item that may need several attempts: it starts where it may, and goes on while it is not over. -/
def State.runHead (s : State) (q op arg : Nat) (k : State → Nat → Nat → Cmd → State) : State :=
  match s.headArg q op arg with
  | none => s
  | some c =>
      if c.started then
        match s.jobOf q with
        | some (p, slot) => if c.stopped.isSome then s else k s p slot c
        | none => s
      else s.startHead q op k

/-- PREFETCH with form MIGRATE (08 R317-R319). -/
def execPrefetchMigrate (q : Fin 1024) (s : State) : Out := .next (s.runHead q 4 0 (fun s p slot c => s.migrate q p slot c))

/-- PREFETCH with form WARM (08 R322): LOCAL lines that may be cached are read; HOST extents and NOCACHE are skipped. -/
def execPrefetchWarm (q : Fin 1024) (s : State) : Out :=
  .next (s.runHead q 4 1 (fun s p _ c =>
    let (dva, len) := dRange c.bytes
    match runPieces (recOf c.record 0) dva len with
    | none => s.endCmd q c.serial .faulted .exec
    | some ps =>
        match s.readPieces (.parcel p) (ps.filter (fun x => x.back == .loc && !x.nocache)) with
        | .ok _ s => s.endCmd q c.serial .ok .none
        | .wait s => s
        | .remote _ _ => s.endCmd q c.serial .ok .none
        | .fail st ca => s.endCmd q c.serial st ca))

/-! ## ADVISE (08 R323-R325) -/

/-- Take a range out of a parcel's advice. -/
def cutAdvice (lo hi : Nat) (l : List AdviceRange) : List AdviceRange :=
  l.flatMap (fun r =>
    let e := r.start + r.len
    if e ≤ lo ∨ hi ≤ r.start then [r]
    else (if r.start < lo then [{ r with len := lo - r.start }] else []) ++ (if hi < e then [{ r with start := hi, len := e - hi }] else []))

/-- Set a parcel's advice; past 16 ranges the oldest goes and is counted (08 R324). -/
def State.setAdvice (s : State) (p : Nat) (l : List AdviceRange) : State :=
  let s := { s with xlat := { s.xlat with advice := s.xlat.advice.wr p (l.drop (l.length - 16)) } }
  if l.length > 16 then s.emit 58 0x323 p p else s

/-- ADVISE of one kind. -/
def State.advise (s : State) (q kind : Nat) (f : State → Nat → Nat → Nat → Cmd → State) : State :=
  s.runHead q 5 kind (fun s p _ c =>
    let (dva, len) := dRange c.bytes
    (f s p dva (dva + len) c).endCmd q c.serial .ok .none)

/-- ADVISE NORMAL (08 R323): advice on the range is cleared. -/
def execAdviseNormal (q : Fin 1024) (s : State) : Out :=
  .next (s.advise q 0 (fun s p lo hi _ => s.setAdvice p (cutAdvice lo hi (s.xlat.advice.rd p))))

/-- ADVISE STREAM (08 R323). -/
def execAdviseStream (q : Fin 1024) (s : State) : Out :=
  .next (s.advise q 1 (fun s p lo hi _ => s.setAdvice p (s.xlat.advice.rd p ++ [{ kind := .stream, start := lo, len := hi - lo }])))

/-- ADVISE KEEP (08 R323). -/
def execAdviseKeep (q : Fin 1024) (s : State) : Out :=
  .next (s.advise q 2 (fun s p lo hi _ => s.setAdvice p (s.xlat.advice.rd p ++ [{ kind := .keep, start := lo, len := hi - lo }])))

/-- ADVISE DROP (08 R323): every Device Cache line of the range is written back and invalidated. -/
def execAdviseDrop (q : Fin 1024) (s : State) : Out :=
  .next (s.advise q 3 (fun s _ lo hi c =>
    match runPieces (recOf c.record 0) lo (hi - lo) with
    | none => s
    | some ps => (ps.filter (fun x => x.back == .loc)).foldl (fun (s : State) x =>
        (linesOf x.addr x.len).foldl (fun (s : State) l => s.dcDrop (l * 128)) s) s))

/-! ## Others -/

/-- SEM_FORCE_ABANDON (09 R356): a HELD semaphore becomes ABANDONED, is counted, and its first waiter is granted. -/
def execSemForceAbandon (by' : Principal) (n : Byte) (s : State) : Out :=
  .next (s.served 35 fun s =>
    let k := n.toNat
    let m := s.sems.rd k
    if by' ≠ .hostk ∧ by' ≠ .rtp then s.answer .denied
    else if m.st = .held then
      (({ s with sems := s.sems.wr k { m with st := .abandoned, abandons := m.abandons + 1 } }).emit 57 0x330 0xFF k).semSettle.answer .ok
    else s.answer .ok)

/-- ATOMICOP_REQUESTER_ENABLE_CHANGE (22 R799): XLAT_CAS_AVAILABLE is always TRUE on the EN-1648-P, and on the EN-1648-B follows the
bit. -/
def execAtomicopRequesterEnableChange (enable : Bool) (s : State) : Out :=
  .next { s with xlat := { s.xlat with casAvailable := s.straps.packageP || enable } }

end Sys2Proof.Machine
end

