-- ==== Sys2Proof/Machine/Power.lean ====
section
/-! DEFINITION. Islands, power domains, the governor, the sag responder and the Kettle-only state (chapters 02 and 17; 13 R503-R506; 23
R814-R818). -/
namespace Sys2Proof.Machine
open Sys2Proof

/-- Change the power manager's state. -/
def State.updPower (s : State) (f : Power → Power) : State := { s with power := f s.power }

/-! ## Domains (17 R637-R641) -/

/-- The Device Cache ways that some owner holds (17 R640, 07 R242). -/
def State.heldWays (s : State) : Nat := (List.range 8).foldl (fun a p => a ||| (s.parcel p).dcWays) s.mem.hostWays

/-- The state of a domain as PD_STATE reports it (17 R640, Table 17.1): 0 OFF, 1 ON, 2 RETENTION. -/
def State.domainState (s : State) (d : Nat) : Nat :=
  let on : Bool :=
    if !s.start.powerGood then false
    else if d = 0 ∨ d = 58 then true
    else if !s.awake then false
    else if d = 4 then s.straps.hostLink
    else if d = 5 then !s.straps.hostLink
    else if 8 ≤ d ∧ d ≤ 11 then (s.mem.mc.rd (d - 8)).devices
    else if d = 12 then !s.straps.packageP && (List.range 8).any (fun p => (s.port p).enable)
    else if 13 ≤ d ∧ d ≤ 20 then !s.straps.packageP && (s.port (d - 13)).enable
    else if 22 ≤ d ∧ d ≤ 24 then s.te.ctx.any (fun (c : Nat × TeCtx) => c.2.image.isSome || c.2.run.isSome)
    else if d = 25 then s.sec.debug != 0
    else if 26 ≤ d ∧ d ≤ 41 then (s.engine (d - 26)).powered
    else if 42 ≤ d ∧ d ≤ 57 then (s.slc.rd (d - 42)).powered
    else if d = 59 then s.start.phase == .starting || s.sec.programming.isSome
    else if d = 60 then s.heldWays % 256 != 0
    else if d = 61 then s.heldWays / 256 != 0
    else if d = 63 then s.fab.colls.any (fun (c : Nat × Coll) => c.2.parcel != 0xFF)
    else true
  if on then 1 else if d = 1 ∧ s.start.powerGood then 2 else 0

/-- A domain has come on (17 Table 17.7, WAKES). -/
def State.domainWoke (s : State) (d : Nat) : State :=
  s.updPower (fun p => { p with domains := p.domains.upd d (fun x => { x with st := .on, wakes := x.wakes + 1 }) })

/-- Power an engine from OFF (17 R638, 05 R172): its state is lost, and it starts at its targets. -/
def State.powerEngine (s : State) (n : Nat) : State :=
  let f := s.engTarget n
  let v := s.engVTarget n
  (s.updEng n (fun e => { e with powered := true, block := none, half0 := {}, half1 := {}, density := 0, reserved := [], freq := f,
                                 volt := v, halted := s.power.sagStage == 6 })).domainWoke (26 + n)

/-- Switch an engine off: it loses its state (17 R638, R640). -/
def State.engineOff (s : State) (n : Nat) : State :=
  s.updEng n (fun e => { e with powered := false, block := none, half0 := {}, half1 := {}, density := 0, stopped := false, stopReq := false,
                                halted := false })

/-- Power a slice: every byte zero, every granule EMPTY (17 R638). -/
def State.powerSlice (s : State) (n : Nat) : State :=
  (s.updSlc n (fun x => { x.scrub with powered := true })).domainWoke (42 + n)

/-- Switch a slice off. -/
def State.sliceOff (s : State) (n : Nat) : State := s.updSlc n (fun x => { x.scrub with powered := false })

/-- The wake latency of a domain in ns (17 Table 17.1); an engine's grows by the rise of R172 from 0.50 V. -/
def State.wakeNs (s : State) (d : Nat) : Nat :=
  if d = 2 then 50000
  else if d = 4 ∨ d = 5 then 3500000
  else if 8 ≤ d ∧ d ≤ 11 then 2500000
  else if d = 7 ∨ (21 ≤ d ∧ d ≤ 23) ∨ d = 25 ∨ (60 ≤ d) then 10000
  else if 26 ≤ d ∧ d ≤ 41 then 3000 + 5000 + (s.engVTarget (d - 26) - 500000) / 25
  else if 42 ≤ d ∧ d ≤ 57 then 5000
  else if d = 58 then 200000
  else if d = 59 then 100000
  else 20000

/-- DOMAIN_WAKE_COMPLETE (17 R638, R641, R664): a domain woken for a request comes up after its wake latency. -/
def execDomainWakeComplete (d : Fin 64) (s : State) : Out :=
  .next (
    if !s.awake then s
    else if 26 ≤ d.val ∧ d.val ≤ 41 then
      let n := d.val - 26
      let e := s.engine n
      if e.powered ∨ e.retired ∨ s.aboveFloor n ∨ s.power.state = .entering then s else (s.reach (s.now + s.wakeNs d)).powerEngine n
    else if 42 ≤ d.val ∧ d.val ≤ 57 then
      let x := s.slc.rd (d.val - 42)
      if x.powered ∨ x.retired ∨ s.power.state = .entering then s else (s.reach (s.now + s.wakeNs d)).powerSlice (d.val - 42)
    else if (s.power.domains.rd d).st = .on ∨ s.domainState d ≠ 1 then s
    else (s.reach (s.now + s.wakeNs d)).domainWoke d)

/-- ENGINE_OFF_TIMEOUT (17 R640): an engine idle for ENGINE_OFF_US goes off, and with it a paired slice whose granules are all EMPTY. -/
def execEngineOffTimeout (n : Fin 16) (s : State) : Out :=
  .next (
    let e := s.engine n
    if !s.awake then s
    else
      let idle := e.state == .idle && e.inbox.isEmpty && e.reserved.isEmpty && e.half0.drain.isNone && e.half1.drain.isNone && !e.halted
      let s := if e.powered ∧ idle then s.engineOff n else s
      let x := s.slc.rd n
      let empty := x.gran.all (fun (g : Nat × Gran) => g.2.st == .empty)
      if !(s.engine n).powered ∧ x.powered ∧ !x.withdrawn ∧ empty then s.sliceOff n else s)

/-! ## Islands (02 R37-R41, R48) -/

/-- ISLAND_FREQ_TARGET_WRITE (02 R40, R41; 17 R669): clamped to the island's range; the target of IL59 is that of all three TE islands. -/
def State.freqTarget (s : State) (by' : Principal) (i v : Nat) : State :=
  s.served 19 fun s =>
    if by' ≠ .hostk ∧ by' ≠ .rtp then s.answer .denied
    else if islDisciplined i ∨ i = 60 ∨ i = 61 then s.answer .denied
    else
      let (lo, hi) := islRange i
      let f := Nat.min (Nat.max v lo) hi
      let s := (if i = 59 then [59, 60, 61] else [i]).foldl (fun (s : State) k =>
        let old := s.islTarget k
        { s with isl := s.isl.upd k (fun x => { x with target := f, deferred := if s.power.sagStage ≥ 4 then some old else none }) }) s
      (if i < 16 then s.settleEng i else s).answer .ok

/-- ISLAND_FREQ_TARGET_WRITE. -/
def execIslandFreqTargetWrite (by' : Principal) (i : Fin 80) (v : U16) (s : State) : Out := .next (s.freqTarget by' i v.toNat)

/-- ISLAND_SAG_REPORT (02 R37, R38; 17 R657): the report counts as a droop of 50‰ held for 1,000 ns. -/
def execIslandSagReport (i : Fin 80) (s : State) : Out :=
  .next (
    if !s.awake then s
    else
      let s := ({ s with isl := s.isl.upd i (fun x => { x with sags := x.sags + 1 }) }).emit i 0x201 0xFF i
      if s.sagArmed then s.sagTo (s.sagLevel 50 1000) 50 else s)

/-- A reset of an engine's island: its held block, accumulators and task are gone, its unfinished claims are undone and its semaphores
are abandoned (03 R69, R835; 09 R348, R349; 18 R675). -/
def State.resetEngine (s : State) (n : Nat) : State :=
  let e := s.engine n
  let cs (h : Half) : List Claim := match h.drain with | some d => d.claims | none => []
  let s := ((s.dropHolds n).unclaim (cs e.half0)).unclaim (cs e.half1)
  let s := match e.task with
    | some t => (s.chargeEngine n t).updPar t.parcel (fun p => { p with flagWaits := p.flagWaits.filter (fun w => w.1 != n) })
    | none => s
  let s := s.updEng n (fun e => { e with block := none, half0 := {}, half1 := {}, task := none, stopReq := false, density := 0, gap := 128 })
  (s.strike (fun o => o == .engine n)).semSettle

/-- A reset of the TDU's island: its transfers stop, their unfinished claims undone (03 R835); the steps that waited for them are ended by
their commands' watchdogs alone (10 R388). -/
def State.resetTdu (s : State) : State :=
  let all := s.queues.flatMap (fun (q : Nat × Queue) => q.2.consumed.flatMap (fun c => c.claims.flatMap (fun (x : Nat × List Claim) => x.2)))
  let s := { s.unclaim all with queues := s.queues.updListed (fun _ (q : Queue) => { q with consumed := q.consumed.map (fun (c : Cmd) => { c with claims := [] }) }) }
  (s.fab.gathers.map (fun (g : Gather) => g.owner)).foldl (fun (s : State) (o : GOwner) => match o with
    | .step q n k =>
        let kind (c : Cmd) : Nat := ((dSteps c.bytes).getD (k - dNTasks c.bytes) {}).kind
        match (s.queue q).consumed.find? (fun (c : Cmd) => c.serial == n) with
        | none => s
        | some c =>
            if k ≥ c.items.length ∨ (5 ≤ kind c ∧ kind c ≤ 7) then s
            else (s.setItem q n k (.running 0xFF)).dropGather o
    | _ => s) s

/-- ISLAND_RESET (02 R48; 03 R835; 18 R675): the entries bound for the island are discarded and counted; what its writers and transfers
had not finished is undone. -/
def execIslandReset (i : Fin 80) (n : Nat) (s : State) : Out :=
  .next (
    if !s.awake then s
    else
      let held := s.chans.foldl (fun (a : Nat) (c : Nat × Chan) => if c.1 % 80 = i.val then a + c.2.fifo.length else a) 0
      let s := { s with chans := s.chans.updListed (fun k c =>
        if k % 80 = i.val then { c with recvd := c.recvd + BitVec.ofNat 32 c.fifo.length, fifo := [] } else c) }
      let s := if held + n = 0 then s else s.emit i 0x002 0xFF (held + n)
      if i.val < 16 then s.resetEngine i
      else if i.val = 58 then s.resetTdu
      else s)

/-! ## The governor (17 R650-R654) -/

/-- The cap after a tick (17 R650, R653, R654). -/
def State.nextCap (s : State) (avg : Nat) : Nat :=
  let p := s.power
  let top := if s.boostOk then 1800 else 1600
  let c :=
    if p.tjMax ≥ 100 then p.capMhz - 100
    else if 4 * avg > 5 * p.budget then p.capMhz - 100
    else if avg > p.budget then p.capMhz - 25
    else if 100 * avg < 98 * p.budget then p.capMhz + 25
    else p.capMhz
  Nat.min (Nat.max c 200) top

/-- The meters and the domains' times as a tick finds them (17 R671, R673): the energy each domain drew in the last 1 ms in nJ. -/
def State.meterDomains (s : State) (nj : List Nat) (ns : Nat) : State :=
  (List.range 64).foldl (fun (s : State) d =>
    let st := s.domainState d
    let at100 := s.bench / 100000000 != (s.bench - ns) / 100000000
    s.updPower (fun p => { p with domains := p.domains.upd d (fun x =>
      let e := x.energy + BitVec.ofNat 64 (nj.getD d 0)
      { x with st := if st = 1 then .on else if st = 2 then .retention else .off,
               wakes := if st = 1 ∧ x.st = .off ∧ x.onNs ≠ 0 then x.wakes + 1 else x.wakes
               onNs := if st = 1 then x.onNs + BitVec.ofNat 64 ns else x.onNs
               energy := e, energy100 := if at100 then e else x.energy100 }) })) s

/-- GOVERNOR_TICK (17 R650, R652, R654): at each multiple of 1 ms, from ST39. -/
def execGovernorTick (nj : List Nat) (s : State) : Out :=
  .next (
    if !s.sagArmed then s
    else
      let t := s.now
      let s := s.reach (nextMultiple t 1000000)
      let avg := nj.foldl (· + ·) 0 / 1000
      let cap := s.power.capMhz
      let s := s.meterDomains nj (s.now - t)
      let s := if cap = 200 ∧ avg > s.power.budget then s.emit 66 0x2B8 0xFF avg else s
      let s := if s.power.tjMax ≥ 100 then s.emit 66 0x2BA 0xFF s.power.tjMax.toNat else s
      (s.updPower (fun p => { p with capMhz := s.nextCap avg, avgMw := avg })).settleAll)

/-- BOOST_ENABLE_WRITE (17 R653). -/
def State.boostWrite (s : State) (by' : Principal) (v : Nat) : State :=
  s.served 39 fun s =>
    if by' ≠ .hostk ∧ by' ≠ .rtp ∧ by' ≠ .board then s.answer .denied
    else if v > 1 then s.answer .unsupported
    else
      let was := s.boostOk
      let s := (s.updPower (fun p => { p with boostEnable := v == 1 })).endBoost was 0
      (s.answer .ok).persist 0x2004 0 (leBytes 1 v)

/-- BOOST_ENABLE_WRITE. -/
def execBoostEnableWrite (by' : Principal) (v : Byte) (s : State) : Out := .next (s.boostWrite by' v.toNat)

/-! ## Sag (17 R657-R670; 23 R814-R818) -/

/-- Stage 7 (17 R668): everything but the RTP and Kettle goes dark; Kettle keeps its state and stops capturing. -/
def State.darken (s : State) (v : Nat) : State :=
  if s.power.sagStage = 7 then s
  else
    let s := (s.sagTo 6 v).emit 66 0x2B7 0xFF v
    let s := s.interruptStart
    let w := s.wiped
    { w with
      kettle := { s.kettle with frozen := true }
      power := { w.power with sagStage := 7 }
      start := { w.start with powerGood := true, env := s.start.env } }

/-- A sag level is reached (17 R657, R658). -/
def State.sagAt (s : State) (level droop : Nat) : State := if level = 7 then s.darken droop else s.sagTo level droop

/-- SAG_STAGE_ENTER (17 R657-R666): a droop held for a time. -/
def execSagStageEnter (droop ns : Nat) (s : State) : Out :=
  .next (if s.sagArmed then s.sagAt (s.sagLevel droop ns) droop else s)

/-- SAG_STAGE_EXIT (17 R660): the highest droop of the last 100 µs lets the stage in force be left. -/
def execSagStageExit (peak : Nat) (s : State) : Out :=
  .next (
    let n := s.power.sagStage
    let peak := if s.power.alert then Nat.max peak 50 else peak
    if !s.sagArmed ∨ n = 0 ∨ n = 7 ∨ (s.power.thresh.rd n).thresh ≤ peak + 10 ∨ (s.power.sagPin ∧ n ≤ s.power.pinStage) then s
    else (s.reach (s.power.exitAt + 100000)).stageExit n)

/-- SAG_START (17 R668): the rails have been stable for 1 ms after stage 7. -/
def execSagStart (env : StartEnv) (s : State) : Out :=
  .next (if s.power.sagStage = 7 then (s.reach (s.now + 1000000)).beginStart 2 env else s)

/-- SAG_N (23 R818; 17 R657): an assertion of 50 ns or more is recognised, one below 20 ns never, between them is open. -/
def execSagN (low : Bool) (ns droop : Nat) (s : State) : Out :=
  .next (
    if !low then s.updPower (fun p => { p with sagPin := false })
    else if ns < 20 then s
    else
      let seen := decide (ns ≥ 50) || Config.pinSeen s.freeCtr
      let s := if ns ≥ 50 then s else s.bump
      if !seen then s
      else
        let s := s.updPower (fun p => { p with sagPin := true })
        if s.sagArmed then s.sagTo s.power.pinStage droop else s)

/-- VREQ_ALERT (23 R816): a droop of 50‰ on VDD_ENG for as long as the pin is low, and at least 1,000 ns. -/
def execVreqAlert (low : Bool) (s : State) : Out :=
  .next (
    let s := s.updPower (fun p => { p with alert := low })
    if low ∧ s.sagArmed then s.sagAt (s.sagLevel 50 1000) 50 else s)

/-- RAIL_PG_FALL (23 R814): of a group whose RAIL_EN is high. -/
def execRailPgFall (group : Fin 5) (s : State) : Out :=
  .next (if s.awake ∧ bitAt s.power.railEn group then s.darken 1000 else s)

/-- JUNCTION_TEMPERATURE_CHANGE (17 R653, R654): the hottest sensor's reading. -/
def execJunctionTemperatureChange (t : Int) (s : State) : Out :=
  .next (
    let was := s.boostOk
    let s := s.updPower (fun p => { p with tjMax := t })
    let s := s.endBoost was 1
    if t ≥ 115 ∧ s.sagArmed then s.darken 0 else s)

/-! ## The VDD_ENG setpoint (17 R643; 23 R815) -/

/-- The VDD_ENG setpoint in µV: the highest target of a powered engine plus 25 mV, within 0.525-0.850 V. -/
def State.setpoint (s : State) : Nat :=
  let v := (List.range 16).foldl (fun a n => if (s.engine n).powered then Nat.max a (s.engVTarget n) else a) 0
  Nat.min (Nat.max (v + 25000) 525000) 850000

/-- A setpoint frame (23 R815). -/
def vreqFrame (uv : Nat) : Nat :=
  let up := if uv % 2500 ≠ 0 ∧ Config.vreqUp uv then 1 else 0
  let v := 10 * 4096 + ((uv - 500000) / 2500 + up) * 16
  v + popCount 16 v % 2

/-- VREQ_FRAME_REPEAT (23 R815): every 100 µs. -/
def execVreqFrameRepeat (s : State) : Out :=
  .next (
    if !s.awake ∨ (s.start.phase = .starting ∧ s.start.step ≤ 4) then s
    else
      let s := s.reach (nextMultiple s.now 100000)
      let f := vreqFrame s.setpoint
      (s.updPower (fun p => { p with vreq := f })).send (.vreq f))

/-! ## The Kettle-only state (17 R647-R649; 13 R503-R506) -/

/-- Step 2 of Table 17.4: each holding job is switched out; false while one still is. -/
def State.switchAllOut (s : State) : State × Bool :=
  (List.range 8).foldl (fun (x : State × Bool) p =>
    match (x.1.parcel p).holder with
    | none => x
    | some k =>
        let s := x.1.switchOut p k 16
        (s, x.2 && (s.parcel p).holder.isNone)) (s, true)

/-- Step 4: every line that a host agent holds is recalled; false while one is still held. -/
def State.recallAll (s : State) : State × Bool :=
  let held (d : DirLine) : Bool := d.txn.isSome || !d.st.hosts.isEmpty
  let ls := (s.mem.dir.filter (fun (e : Nat × DirLine) => held e.2)).map Prod.fst
  (ls.foldl (fun s l => s.homeSnoop true l) s, ls.isEmpty)

/-- Steps 4-7 of Table 17.4: what is lost with the rails, the resume image, and the Kettle-only state. -/
def State.dropRails (s : State) : State :=
  let s := (List.range 8).foldl State.clearTe (s.waysClear 0xFFFF).fbFlush
  let s := (List.range 16).foldl (fun s n => (s.engineOff n).sliceOff n) s
  let s := { s with
    mem := { s.mem with dir := [] }
    xlat := { s.xlat with cache := [] }
    link := { s.link with bursts := [], reads := [] }
    dict := { s.dict with windows := s.dict.windows.updListed (fun _ w => { w with busy := false }), relay := none } }
  s.updPower (fun p => { p with state := .kettleOnly, resumeImage := true, railEn := 0 })

/-- Go on with the entry to the Kettle-only state (17 Table 17.4): it waits for entries the SIU has claimed, for each save, and for the
host's answers to its snoops. -/
def State.enterKettleOnly (s : State) : State :=
  if !s.svc.segs.isEmpty ∨ s.streams.any (fun (x : Nat × Stream) => x.2.entry.isSome) then s
  else
    let (s, out) := s.switchAllOut
    if !out then s
    else
      let (s, clear) := s.recallAll
      if !clear then s
      else
        let s := s.dropRails
        if s.power.heldWake then
          (s.updPower (fun p => { p with heldWake := false })).updKettle (fun k => { k with st := .waking })
        else s

/-- POWER_REQUEST (17 R647, R648). While the entry is under way the row goes on with it. -/
def State.powerRequest (s : State) (by' : Principal) (v : Nat) : State :=
  if s.power.state = .entering ∧ s.awake then s.enterKettleOnly
  else s.servedOpen 47 fun s =>
    let waiting := s.queues.any (fun (q : Nat × Queue) => !q.2.consumed.isEmpty)
    let switching := s.jobs.any (fun (j : Nat × Job) => j.2.st == .switching)
    let feeding := s.streams.any (fun (x : Nat × Stream) => x.2.st == .opened && x.2.cfg.source == 0 && x.2.srcHead != x.2.srcTail)
    let asked := s.sec.challenges.any (fun (c : Nat × Challenge) => c.2.st == .opened)
    if by' ≠ .hostk ∧ by' ≠ .board then s.answer .denied
    else if v ≠ 1 then s.answer .unsupported
    else if (List.range 8).any (fun p => (s.port p).st == .active) ∨ s.power.resumeArea.isNone then s.answer .unsupported
    else if waiting ∨ switching ∨ feeding ∨ asked then s.busy 1000
    else ((s.answer .ok).updPower (fun p => { p with state := .entering })).enterKettleOnly

/-- POWER_REQUEST. -/
def execPowerRequest (by' : Principal) (v : Byte) (s : State) : Out := .next (s.powerRequest by' v.toNat)

/-- The queues whose rings are translated again at a wake, those of a parcel first (13 Table 13.11, step 8). -/
def State.reopenRings (s : State) (first : Nat) : State × Bool :=
  let go (s : State) (p : Nat) : State × Bool :=
    s.queueList.foldl (fun (x : State × Bool) q =>
      if x.2 then
        let (s, done) := x.1.shotRings p 0 (2 ^ 64) q
        (s, done)
      else x) (s, true)
  (first :: (List.range 8).filter (fun p => p != first)).foldl (fun (x : State × Bool) p => if x.2 then go x.1 p else x) (s, true)

/-- A wake from the Kettle-only state (13 Table 13.11, 17 R649): rails, the resume image, the engines named, every ring. A resume image
whose tag fails starts the die instead (16 R601); the row is taken again where a ring's table must be waited for. -/
def State.wakeDie (s : State) (tagOk : Bool) (env : StartEnv) (target : Nat) (engines : List Nat) (k : State → State) : State :=
  if !tagOk then (s.beginStart 0 env).emit 65 0x508 0xFF 0
  else
    let s0 := s
    let s := s.updPower (fun p => { p with state := .idle, resumeImage := false, railEn := 15 })
    let s := [2, 3, 6, 7, 12, 21, 62].foldl State.domainWoke s
    let s := engines.foldl (fun (s : State) n =>
      if (s.engine n).retired ∨ s.aboveFloor n then s
      else if (s.slc.rd n).retired then s.powerEngine n else (s.powerEngine n).powerSlice n) s
    let s := s.updFb (fun f => f.nextWindow s.bench)
    let (s, done) := s.reopenRings target
    if done then (List.range 8).foldl State.refreshJobs (k s) else s0

/-- KETTLE_WAKE_SEQUENCE (13 R503, R506; 16 R601): within 12 ms of the decision. -/
def execKettleWakeSequence (tagOk linkUp : Bool) (env : StartEnv) (s : State) : Out :=
  .next (
    if s.power.state ≠ .kettleOnly ∨ s.kettle.st ≠ .waking then s
    else
      let t := s.kettle.target
      let es := (maskBits 16 (s.parcel t).engines).take s.kettle.wakeEngines
      s.wakeDie tagOk env t (if t < 8 then es else []) (fun s =>
        let s := s.reach (s.now + 11000000)
        let s := if s.kettle.stopDue then s.kStop else s.updKettle (fun k => { k with st := .listening })
        let s := if s.straps.hostLink ∨ linkUp then s else s.updPower (fun p => { p with wakeOut := true })
        s.interrupt s.kettle.vector))

/-- HOST_WAKE (17 R649): the live attach's wake input; during the entry it is held, and the row is taken again
once the entry completes. -/
def execHostWake (tagOk : Bool) (env : StartEnv) (s : State) : Out :=
  .next (match s.power.state with
    | .entering => s.updPower (fun p => { p with heldHostWake := true })
    | .kettleOnly =>
        (s.updPower (fun p => { p with heldHostWake := false })).wakeDie tagOk env 0 [] (fun s => s.reach (s.now + 12000000))
    | _ => s)

end Sys2Proof.Machine
end

