-- ==== Sys2Proof/Machine/DictRead.lean ====
section
/-! DEFINITION. What a read of each entry of the object dictionary returns (22 Tables 22.2-22.14). -/
namespace Sys2Proof

/-- The states of an engine as ENGINE_STATE codes them (03 Table 3.6). -/
def EngineState.code : EngineState → Nat
  | .off => 0 | .idle => 1 | .simmer => 2 | .gated => 3 | .running => 4 | .stopped => 5 | .withdrawn => 6 | .retired => 7

end Sys2Proof

namespace Sys2Proof.Machine
open Sys2Proof

/-- A Boolean as a byte. -/
def boolByte (b : Bool) : List Byte := leBytes 1 (if b then 1 else 0)

/-- Whether an entry is a parcel's own (21 R767, 22 R789). -/
def State.ownsEntry (s : State) (p index sub : Nat) : Bool :=
  if 0x3300 ≤ index ∧ index ≤ 0x330F then ((s.jobOf ((index % 8) * 128 + sub - 1)).map Prod.fst) == some p
  else if 0x3390 ≤ index ∧ index ≤ 0x3397 then index - 0x3390 == p
  else if 0x3400 ≤ index ∧ index ≤ 0x3407 then index - 0x3400 == p
  else if 0x3410 ≤ index ∧ index ≤ 0x3417 then index - 0x3410 == p
  else if index = 0x3700 ∨ index = 0x3701 then (s.streams.rd (sub - 1)).cfg.parcel == p
  else if index = 0x4020 ∨ index = 0x4021 then (s.coll (sub - 1)).parcel == p
  else if 0x3802 ≤ index ∧ index ≤ 0x3806 then s.kettle.target == p
  else sub == p + 1

/-- The right a principal has on an entry (21 R767, Table 21.5): 0 none, 1 RO, 2 WO, 3 RW, 4 CONST. -/
def State.rightOf (s : State) (by' : Principal) (r : DictRow) (index sub : Nat) : Nat :=
  let c := r.code by'
  if c < 5 then c
  else match by' with
    | .parcel p => if s.ownsEntry p index sub then c - 4 else 0
    | _ => 0

/-- A right allows reading. -/
def readable (right : Nat) : Bool := right == 1 || right == 3 || right == 4
/-- A right allows writing. -/
def writable (right : Nat) : Bool := right == 2 || right == 3

/-- The mean frequency an island measured in its last 1 µs (02 R37, 22 R797): open within 1% of its target. -/
def State.meanMhz (s : State) (i : Nat) : Nat :=
  let t := if islDisciplined i then islNominal i else if i < 16 then (s.engine i).freq else s.islTarget i
  let d := t / 100
  if islDisciplined i then t else t - d + Config.freeMean i s.now % (2 * d + 1)

/-- ISLAND_FREQ_TARGET (02 R40): a disciplined island reports the rate in force in whole MHz. -/
def State.freqOf (s : State) (i : Nat) : Nat :=
  if 53 ≤ i ∧ i ≤ 56 then (s.mem.mc.rd (i - 53)).rate / 8
  else if 72 ≤ i then (if (s.port (i - 72)).speed = 0 then 781 else 195)
  else (s.isl.rd i).target

/-- POWER_STATE (17 Table 17.3). -/
def State.powerCode (s : State) : Nat :=
  match s.power.state with
  | .kettleOnly => 0
  | .entering => 4
  | _ =>
      let on := (List.range 16).filter (fun n => (s.engine n).powered)
      if on.isEmpty then 1 else if on.any (fun n => decide (s.engTarget n > 1600)) then 3 else 2

/-- PD_STATE (17 R673): an engine or slice granted to a sealed or tally parcel shows its energy as of the last 100 ms. -/
def State.pdState (s : State) (d : Nat) : List Byte :=
  let x := s.power.domains.rd d
  let shy := (List.range 8).any (fun p =>
    let y := s.parcel p
    (y.sealed || y.tally) && ((26 ≤ d && d ≤ 41 && bitAt y.engines (d - 26)) || (42 ≤ d && d ≤ 57 && bitAt y.slices (d - 42))))
  leBytes 1 (s.domainState d) ++ leBytes 4 x.wakes.toNat ++ leBytes 8 x.onNs.toNat ++ leBytes 8 (if shy then x.energy100 else x.energy).toNat

/-- DIE_ENERGY (17 R671): the sum of the domain counts. -/
def State.dieEnergy (s : State) : Nat :=
  (s.power.domains.foldl (fun (a : U64) (d : Nat × Domain) => a + d.2.energy) 0).toNat

/-- MC_CAPACITY in MiB (07 R248, R264; 16 R602). -/
def State.mcCapacity (s : State) (c : Nat) : Nat :=
  let m := s.mem.mc.rd c
  if m.st ≠ .running then 0
  else
    let area := match s.power.resumeArea with | some b => decide (b / mcWindow = c) | none => false
    (m.reach - (if area then resumeBytes else 0)) / 1048576

/-- ECC_COUNTS of an array (07 R266). -/
def EccCount.bytes (e : EccCount) : List Byte :=
  leBytes 4 e.dataCorr.toNat ++ leBytes 4 e.checkCorr.toNat ++ leBytes 4 e.uncorr.toNat ++ leBytes 4 e.refetch.toNat

/-- RESUME_AREA (16 R602). -/
def State.resumeAreaBytes (s : State) : List Byte :=
  match s.power.resumeArea with
  | some b => leBytes 1 (b / mcWindow) ++ leBytes 3 0 ++ leBytes 8 b
  | none => leBytes 1 0xFF ++ leBytes 3 0 ++ leBytes 8 0

/-- An XLAT_CONFIG record (08 Table 8.2). -/
def XlatConfig.bytes (c : XlatConfig) : List Byte :=
  leBytes 1 c.mode ++ leBytes 1 c.tableKind ++ leBytes 2 c.count ++ leBytes 4 0 ++ leBytes 8 c.base ++ leBytes 8 c.apBase
    ++ leBytes 8 c.apLen ++ leBytes 8 c.apOff.toNat

/-- A QUEUE_CONFIG record (10 Table 10.1). -/
def Queue.cfgBytes (x : Queue) : List Byte :=
  leBytes 8 x.descBase ++ leBytes 8 x.cplBase ++ leBytes 1 x.descLog2 ++ leBytes 1 x.cplLog2 ++ leBytes 2 x.vector ++ leBytes 4 x.watchdogUs
    ++ leBytes 8 0

/-- The code of a queue's state (10 Table 10.2). -/
def QState.code : QState → Nat
  | .closed => 0 | .opened => 1 | .parked => 2 | .faulted => 3

/-- A QUEUE_STATE record (10 Table 10.1). -/
def Queue.stateBytes (x : Queue) : List Byte :=
  leBytes 1 x.st.code ++ leBytes 3 0 ++ leBytes 4 x.descHead.toNat ++ leBytes 4 x.tail.toNat ++ leBytes 4 x.cplHead.toNat
    ++ leBytes 4 x.cplTail.toNat ++ leBytes 4 x.stale.toNat

/-- A SEM_STATE record (09 R355): the last holder is kept for diagnosis. -/
def State.semBytes (s : State) (k : Nat) : List Byte :=
  let m := s.sems.rd k
  let st : Nat := match m.st with | .free => 0 | .held => 1 | .abandoned => 2
  let (kind, owner, die) : Nat × Nat × Nat := match m.owner with
    | none => (0, 0, 0)
    | some (.engine n) => (1, n, s.dieId)
    | some (.queue q) => (2, q, s.dieId)
    | some (.die d q) => (3, q, d)
  leBytes 1 st ++ leBytes 1 kind ++ leBytes 2 owner ++ leBytes 2 die ++ leBytes 2 m.waiters.length ++ leBytes 4 m.abandons.toNat

/-- A JOB_STATE record (11 Table 11.6). -/
def Job.stateBytes (j : Job) : List Byte :=
  leBytes 4 j.id.toNat ++ leBytes 1 j.st.code ++ leBytes 4 j.switches.toNat ++ leBytes 2 j.lastSaved.toNat

/-- A parcel's plat entries (11 Table 11.1). -/
def Parcel.entry (x : Parcel) (sub : Nat) : List Byte :=
  if sub = 1 then boolByte x.active ++ boolByte x.sealed ++ boolByte x.tally ++ leBytes 1 x.floor
  else if sub = 2 then leBytes 2 x.engines
  else if sub = 3 then leBytes 2 x.slices
  else if sub = 4 then leBytes 2 x.dcWays
  else if sub = 5 then leBytes 1 x.controllers
  else if sub = 6 then leBytes 2 x.qFirst ++ leBytes 2 x.qCount
  else if sub = 7 then leBytes 1 x.linkShare
  else if sub = 8 then leBytes 32 x.sems
  else leBytes 2 x.fabricId ++ leBytes 2 x.leadDie ++ leBytes 2 x.dies

/-- TE_STATE (06 R227). -/
def State.teCode (s : State) : Nat :=
  if s.teRetired then 7
  else if s.te.withdrawn then 6
  else if s.domainState 22 = 0 then 0
  else if s.te.paused then 5
  else if s.te.ctx.any (fun (c : Nat × TeCtx) => c.2.run.isSome) then 4
  else 1

/-- TE_BOUND (06 R227), its fields in the order the rule gives. -/
def State.teBound (s : State) (p : Nat) : List Byte :=
  match (s.te.ctx.rd p).image with
  | none => padTo 20 (leBytes 1 0xFF)
  | some i =>
      let f := forestOf i.hdr
      leBytes 1 f.mode ++ leBytes 2 f.groups ++ leBytes 4 f.rules ++ leBytes 4 f.trees ++ leBytes 1 f.depth ++ leBytes 8 i.dva

/-- A STREAM_CONFIG record (13 Table 13.1). -/
def StreamCfg.bytes (c : StreamCfg) : List Byte :=
  leBytes 1 c.parcel ++ leBytes 1 c.source ++ leBytes 1 c.ringKind ++ leBytes 1 c.log2 ++ leBytes 4 c.jobId ++ leBytes 4 c.entryBytes
    ++ leBytes 4 0 ++ leBytes 8 c.ring ++ leBytes 8 c.srcRing ++ leBytes 1 c.srcLog2 ++ leBytes 1 c.weight ++ leBytes 14 0

/-- A STREAM_STATE record (13 R466), its fields in the order the rule gives. -/
def State.streamBytes (s : State) (n : Nat) : List Byte :=
  let x := s.streams.rd n
  leBytes 1 (s.streamCode x) ++ leBytes 8 x.seq.toNat ++ leBytes 4 x.dropped.toNat ++ leBytes 4 x.srcHead.toNat

/-- KETTLE_STATE (13 Table 13.9). -/
def KettleSt.code : KettleSt → Nat
  | .stopped => 1 | .listening => 2 | .waking => 3 | .withdrawn => 6

/-- KETTLE_WAKE_CAUSE (13 R496; 16 R620): SCORES are zeros to others while the target is sealed. -/
def State.wakeCause (s : State) (by' : Principal) : List Byte :=
  let b := padTo 32 s.kettle.cause
  let t := s.kettle.target
  if decide (t < 8) && (s.parcel t).sealed && by' != .rtp && by' != .parcel t then
    b.take 12 ++ List.replicate 16 0#8 ++ b.drop 28
  else b

/-- A PORT_STATE record (14 R526). -/
def State.portBytes (s : State) (p : Nat) : List Byte :=
  let x := s.port p
  leBytes 1 x.st.code ++ leBytes 1 x.speed ++ leBytes 1 x.txLanes ++ leBytes 1 x.rxLanes
    ++ leBytes 1 (maskOf ((List.range 8).filter (fun v => s.carries p v))) ++ boolByte x.keyPhase ++ leBytes 2 x.peer.die
    ++ leBytes 1 x.peer.port ++ leBytes 2 x.peer.fabric

/-- A PORT_STATS record (14 Table 14.11). -/
def PortStats.bytes (x : PortStats) : List Byte :=
  leBytes 8 x.flitsTx.toNat ++ leBytes 8 x.flitsRx.toNat ++ leBytes 8 x.crcRetries.toNat ++ leBytes 4 x.tagFails.toNat
    ++ leBytes 8 x.fecCorrected.toNat ++ leBytes 8 x.fecUncorr.toNat ++ leBytes 4 x.retrains.toNat

/-- A COLL_CONFIG record (14 Table 14.8). -/
def Coll.bytes (c : Coll) : List Byte :=
  leBytes 1 c.kind ++ leBytes 1 c.op ++ leBytes 1 c.type ++ leBytes 1 c.parcel ++ leBytes 2 c.root ++ leBytes 2 0 ++ leBytes 8 c.result
    ++ leBytes 8 c.length ++ leBytes 8 0

/-- A COLL_STATE record (14 R554). -/
def Coll.stateBytes (c : Coll) : List Byte :=
  leBytes 1 (if c.faulted then 2 else if c.segs.isEmpty then 0 else 1) ++ leBytes 4 c.seg

/-- AGREE_STATE (15 Table 15.7). -/
def State.agreeBytes (s : State) : List Byte :=
  let a := s.agree
  let st : Nat := match a.standing with | .admitted => 0 | .quarantined => 1 | .fenced => 2
  leBytes 1 (if s.alone then 0 else if s.isSurveyor then 2 else 1) ++ leBytes 1 st ++ leBytes 2 (if s.alone then s.dieId else a.survDie)
    ++ leBytes 1 (if s.alone then 0 else a.survHops) ++ leBytes 1 a.deferred ++ leBytes 4 s.ledger.resetCount

/-- BENCH_STATE (15 R578-R581); without a parent PARENT is 0xFFFF and PARENT_PORT 0xFF. -/
def State.benchBytes (s : State) : List Byte :=
  let b := s.agree.bench
  let (die, port) : Nat × Nat := match b.parent with | some p => (b.parentDie, p) | none => (0xFFFF, 0xFF)
  leBytes 2 s.benchSource ++ leBytes 2 die ++ leBytes 1 port ++ leBytes 1 (if s.isBenchSource then 0 else b.depth) ++ boolByte s.leveled
    ++ leBytes 1 0 ++ leBytes 4 (twos 32 (b.theta / 4)) ++ leBytes 4 (twos 32 (b.delay / 4))

/-- CLOSURE_STATE (15 R587). -/
def State.closureBytes (s : State) : List Byte :=
  let c := s.agree.closure
  leBytes 8 c.diePasses.toNat ++ leBytes 8 c.fabricPasses.toNat ++ leBytes 4 c.late.toNat ++ padTo 31 c.lastError

/-- A KEY_SLOT record (16 R591). -/
def Fuses.slotBytes (f : Fuses) (k : Nat) : List Byte :=
  leBytes 1 (if k < 4 then 0 else 1) ++ boolByte (f.enrolled k) ++ boolByte (f.revoked k) ++ leBytes 1 0 ++ f.digest k

/-- A CHALLENGE record (16 R604). -/
def Challenge.bytes (c : Challenge) : List Byte :=
  let st : Nat := match c.st with | .free => 0 | .opened => 1 | .burned => 2 | .closed => 3
  leBytes 1 st ++ leBytes 1 c.op ++ leBytes 2 0 ++ leBytes 4 c.tag ++ leBytes 8 c.issued ++ padTo 64 c.arg ++ padTo 32 c.nonce

/-- A page of the ring (19 R723, R725). -/
def FieldBook.page (f : FieldBook) (p : Nat) : List Byte :=
  (List.range 64).flatMap (fun i =>
    let slot := 64 * p + i
    let b := padTo 64 (f.ring.rd slot)
    if f.bad.contains slot then b.take 60 ++ (b.drop 60).map (fun x => ~~~x) else b)

/-- The configuration of a code (19 Table 19.4, R711, R715, R719). -/
def CodeCfg.bytes (c : CodeCfg) : List Byte := boolByte c.enable ++ leBytes 1 c.shift ++ leBytes 1 c.rate

/-- ACCT_PARCEL (11 R430). -/
def State.acctParcel (s : State) (p : Nat) : List Byte :=
  let x := s.parcel p
  leBytes 4 x.created.toNat ++ leBytes 4 x.ended.toNat ++ leBytes 4 x.faulted.toNat
    ++ leBytes 2 ((List.range 16).filter (fun k => (s.job p k).st != .ended)).length

/-- The code of a start phase (18 Table 18.8). -/
def Phase.code : Phase → Nat
  | .starting => 0 | .opened => 1 | .halted => 2 | .recovery => 3 | .fatalHold => 4

/-- START_STATE (18 Table 18.8): after a die-fatal event the phase is FATAL_HOLD. -/
def State.startBytes (s : State) : List Byte :=
  let x := s.start
  leBytes 1 (if s.fatal then 4 else x.phase.code) ++ leBytes 1 x.step ++ leBytes 1 x.kind ++ leBytes 1 0 ++ leBytes 4 s.ledger.resetCount
    ++ leBytes 4 x.openMs

/-- STEP_OUTCOME of a step (18 R681, R697, Table 18.8). -/
def State.stepBytes (s : State) (k : Nat) : List Byte :=
  let r := s.ledger.record
  let x := s.start
  let early := x.phase == .starting && decide (x.step ≤ 3)
  let o := if early then ((x.pre.map Prod.fst)[k]?).getD 0xFF else r.outcomes.getD k 0xFF
  let ms := if early then ((x.pre.map Prod.snd)[k]?).getD 0 else r.ms.getD k 0
  leBytes 1 o ++ leBytes 1 (x.prev.getD k 0xFF) ++ leBytes 1 (x.actions.getD k 0) ++ leBytes 1 (if early then 0 else r.sticky.getD k 0)
    ++ leBytes 2 ms

/-- The bytes of a start record (18 Table 18.6). -/
def StartRecord.bytes (r : StartRecord) : List Byte :=
  let body := leBytes 4 r.seq ++ leBytes 1 r.kind ++ leBytes 1 r.st ++ leBytes 1 r.current ++ leBytes 1 0 ++ leBytes 4 r.openMs ++ leBytes 4 0
    ++ padTo 48 (r.outcomes.flatMap (leBytes 1)) ++ padTo 96 (r.ms.flatMap (leBytes 2))
    ++ padTo 32 (r.mcs.flatMap (fun m => leBytes 1 m.lastStep ++ leBytes 1 m.outcome ++ leBytes 1 m.rateCode ++ leBytes 1 m.sticky ++ leBytes 4 0))
    ++ padTo 32 (r.ports.flatMap (fun p => leBytes 1 p.state ++ leBytes 1 p.speed ++ leBytes 1 p.sticky ++ leBytes 1 0))
    ++ padTo 8 (r.slots.flatMap (leBytes 1)) ++ padTo 48 (r.sticky.flatMap (leBytes 1)) ++ leBytes 2 r.engineFail
  let b := padTo 508 body
  b ++ leBytes 4 (crc32c b)

/-- The engines and slices that are retired, as masks. -/
def State.retiredMasks (s : State) : Nat × Nat :=
  (maskOf ((List.range 16).filter (fun n => (s.engine n).retired)), maskOf ((List.range 16).filter (fun n => (s.slc.rd n).retired)))

/-- START_RETIRED (18 Table 18.8). -/
def State.retiredBytes (s : State) : List Byte :=
  let (e, l) := s.retiredMasks
  leBytes 2 e ++ leBytes 2 l ++ leBytes 2 s.mem.retiredWays
    ++ leBytes 1 (maskOf ((List.range 4).filter (fun c => (s.mem.mc.rd c).st == .retired))) ++ leBytes 1 s.start.retiredFlags

/-- Whether a port has no lane margin left (20 R754). -/
def Port.noMargin (x : Port) : Bool := bitAt x.txLanes 4 || bitAt x.rxLanes 4 || (x.quarterTried && x.speed == 1)

/-- REPAIR_STATE (20 Table 20.6, R754). -/
def State.repairBytes (s : State) : List Byte :=
  let (e, l) := s.retiredMasks
  leBytes 2 e ++ leBytes 2 l ++ leBytes 1 s.ledger.mcPending ++ leBytes 1 ((if s.teRetired then 1 else 0) + (if s.kettleRetired then 2 else 0))
    ++ leBytes 1 (maskOf ((List.range 8).filter (fun p => (s.port p).noMargin))) ++ leBytes 1 s.ledger.soft.length

/-- PORT_HEALTH (20 R754): the lanes as masks. -/
def Port.healthBytes (x : Port) : List Byte :=
  let trained := x.goodTx != 0
  leBytes 1 (if trained then 31 - x.goodTx % 32 else 0) ++ leBytes 1 (if trained then 31 - x.goodRx % 32 else 0)
    ++ leBytes 1 ((if bitAt x.txLanes 4 then 1 else 0) + (if bitAt x.rxLanes 4 then 2 else 0)) ++ boolByte (x.quarterTried && x.speed == 1)
    ++ leBytes 4 x.spared.toNat

/-- SLICE_REPAIR (20 R752). -/
def Slice.repairBytes (x : Slice) : List Byte :=
  leBytes 1 x.sparesUsed ++ leBytes 1 ((x.mapped[0]?).getD 0xFF) ++ leBytes 1 ((x.mapped[1]?).getD 0xFF)

/-- SELFTEST_CONFIG (20 Table 20.6). -/
def SelfCfg.bytes (c : SelfCfg) : List Byte :=
  boolByte c.enable ++ leBytes 2 c.engineS ++ leBytes 2 c.sliceS ++ leBytes 2 c.teS ++ leBytes 2 c.kettleS ++ leBytes 1 c.maxConc

/-- SELFTEST_UNIT (20 Table 20.6). -/
def SelfUnit.bytes (x : SelfUnit) : List Byte :=
  leBytes 4 x.passes.toNat ++ leBytes 4 x.transients.toNat ++ leBytes 4 x.fails.toNat ++ leBytes 4 x.aborts.toNat ++ leBytes 4 x.skips.toNat
    ++ leBytes 8 x.lastTime.toNat ++ leBytes 1 x.lastOutcome

/-- STRAPS (22 R795). -/
def State.strapBytes (s : State) : List Byte :=
  let e := s.straps
  boolByte (!e.hostLink) ++ boolByte (!e.bootHost) ++ leBytes 1 (if e.packageP then 0 else if e.pcieX8 then 8 else 16) ++ leBytes 1 0

/-- DICT_STATE (21 Table 21.7). -/
def Dict.bytes (d : Dict) : List Byte :=
  leBytes 1 d.sessions.length ++ leBytes 1 d.peak ++ leBytes 2 0 ++ leBytes 8 d.frames.toNat ++ leBytes 4 d.busy.toNat
    ++ leBytes 4 d.timeouts.toNat ++ leBytes 4 d.relayTrunc.toNat

/-- BOOT_REQ (18 R691): the fields of Table 18.4 bytes 0x0000-0x000F. -/
def Boot.reqBytes (b : Boot) : List Byte :=
  leBytes 4 b.reqSeq.toNat ++ leBytes 1 b.kind ++ leBytes 1 b.slot ++ leBytes 2 0 ++ leBytes 4 b.offset ++ leBytes 4 b.length

/-- "Damrumbe Microsystems". -/
def makerName : List Byte :=
  [0x44#8, 0x61#8, 0x6D#8, 0x72#8, 0x75#8, 0x6D#8, 0x62#8, 0x65#8, 0x20#8, 0x4D#8, 0x69#8, 0x63#8, 0x72#8, 0x6F#8, 0x73#8, 0x79#8, 0x73#8,
   0x74#8, 0x65#8, 0x6D#8, 0x73#8]

/-- "EN-1648". -/
def productName : List Byte := [0x45#8, 0x4E#8, 0x2D#8, 0x31#8, 0x36#8, 0x34#8, 0x38#8]

/-- Entries 0x1000-0x1104 (22 Table 22.2). -/
def State.read1 (s : State) (index sub : Nat) : List Byte :=
  if index = 0x1000 then
    if sub = 1 then leBytes 2 0x1648
    else if sub = 2 then boolByte (!s.straps.packageP)
    else if sub = 3 then leBytes 2 0x00B0
    else if sub = 4 then padTo 16 Config.serial
    else if sub = 5 then makerName
    else if sub = 6 then productName
    else if sub = 7 then leBytes 2 1
    else s.strapBytes
  else if index = 0x1100 then s.dict.bytes
  else if index = 0x1101 then leBytes 2 s.dict.idleMs
  else if index = 0x1102 then leBytes 2 s.dict.relayDie
  else if index = 0x1103 then
    let w := s.dict.windows.rd sub
    leBytes 2 w.bindQ ++ leBytes 2 w.vector
  else leBytes 2 s.dict.mboxVector

/-- Entries 0x2000-0x2203 (22 Table 22.3). -/
def State.read2 (s : State) (index sub : Nat) : List Byte :=
  if index = 0x2000 then s.pdState (sub - 1)
  else if index = 0x2001 then leBytes 1 s.powerCode
  else if index = 0x2003 then leBytes 4 s.power.budget
  else if index = 0x2004 then boolByte s.power.boostEnable
  else if index = 0x2005 then leBytes 4 s.power.engineOffUs
  else if index = 0x2006 then leBytes 2 s.power.capMhz ++ leBytes 4 s.power.avgMw ++ leBytes 2 (twos 16 s.power.tjMax)
  else if index = 0x2007 then leBytes 8 s.dieEnergy
  else if index = 0x2010 then
    let i := sub - 1
    leBytes 2 (s.meanMhz i) ++ leBytes 2 0 ++ leBytes 4 (s.isl.rd i).sags.toNat
      ++ leBytes 8 (if islDisciplined i then 0 else Config.stretched i s.now)
  else if index = 0x2011 then leBytes 2 (s.freqOf (sub - 1))
  else if index = 0x2100 then leBytes 1 s.power.sagStage
  else if index = 0x2101 then
    let t := s.power.thresh.rd sub
    leBytes 2 t.thresh ++ leBytes 2 t.dwell
  else if index = 0x2102 then leBytes 1 s.power.pinStage
  else if index = 0x2103 then leBytes 1 s.power.portKeep
  else if index = 0x2104 then leBytes 4 (s.power.sagCount.rd sub).toNat
  else if index = 0x2200 then (s.approx.profiles.rd (sub - 1)).bytes
  else if index = 0x2201 then leBytes 1 (s.approx.cap.rd (sub - 1))
  else if index = 0x2202 then leBytes 1 s.approx.stepdownWindows
  else
    let e := s.engine (sub - 1)
    leBytes 1 e.level ++ leBytes 1 e.offset ++ leBytes 2 (s.engVTarget (sub - 1) / 100) ++ leBytes 1 e.ceil

/-- Entries 0x3000-0x3207 (22 Table 22.4). -/
def State.read3 (s : State) (index sub : Nat) : List Byte :=
  let e := s.engine (sub - 1)
  let m := s.mem.mc.rd (sub - 1)
  if index = 0x3000 then leBytes 1 e.state.code
  else if index = 0x3001 then leBytes 1 e.failedLanes.length ++ e.failedLanes.flatMap (leBytes 1)
  else if index = 0x3002 then boolByte e.simmerEnable
  else if index = 0x3010 then leBytes 8 e.replays.toNat
  else if index = 0x3011 then leBytes 4 e.stepUps.toNat
  else if index = 0x3100 then leBytes 1 (match m.st with | .off => 0 | .running => 4 | .retired => 7)
  else if index = 0x3101 then leBytes 4 (s.mcCapacity (sub - 1))
  else if index = 0x3102 then leBytes 2 m.rateLimit
  else if index = 0x3103 then leBytes 1 m.eccMode
  else if index = 0x3104 then (List.range 9).flatMap (fun k => leBytes 1 (m.shares.getD k 0))
  else if index = 0x3105 then leBytes 2 s.mem.hostWays
  else if index = 0x3106 then (s.mem.ecc.rd sub).bytes
  else if index = 0x3107 then leBytes 2 s.mem.sramPatrolMs
  else if index = 0x3108 then leBytes 2 s.mem.mcPatrolHours
  else if index = 0x3109 then s.resumeAreaBytes
  else if index = 0x3200 then (s.xlat.cfg.rd (sub - 1)).bytes
  else if index = 0x3201 then leBytes 8 s.xlat.ringBase ++ leBytes 1 s.xlat.ringKind ++ leBytes 1 s.xlat.ringLog2 ++ leBytes 4 s.xlat.ringTail.toNat
  else if index = 0x3202 then leBytes 4 s.xlat.ringHead.toNat
  else if index = 0x3205 then leBytes 4 s.xlat.shootDone.toNat
  else if index = 0x3206 then
    let x := s.xlat.stats.rd (sub - 1)
    leBytes 8 x.hits.toNat ++ leBytes 8 x.misses.toNat ++ leBytes 4 x.faults.toNat
  else boolByte s.xlat.casAvailable

/-- Entries 0x3300-0x3417 (22 Tables 22.5 and 22.6). -/
def State.read4 (s : State) (index sub : Nat) : List Byte :=
  if index < 0x3308 then (s.queue ((index - 0x3300) * 128 + sub - 1)).cfgBytes
  else if index < 0x3310 then (s.queue ((index - 0x3308) * 128 + sub - 1)).stateBytes
  else if index = 0x3311 then leBytes 2 s.link.faultVector
  else if index = 0x3340 ∨ index = 0x3341 then s.semBytes ((index - 0x3340) * 128 + sub - 1)
  else if index = 0x3382 then leBytes 2 (s.parcel (sub - 1)).quantumMs ++ leBytes 2 (s.parcel (sub - 1)).graceMs
  else if index < 0x3398 then (s.job (index - 0x3390) (sub - 1)).stateBytes
  else if index < 0x3408 then (s.parcel (index - 0x3400)).entry sub
  else if index = 0x3408 then leBytes 8 s.plat.epoch.toNat
  else (s.job (index - 0x3410) (sub - 1)).acct.bytes

/-- Entries 0x3500-0x3807 (22 Tables 22.7 and 22.8). -/
def State.read5 (s : State) (by' : Principal) (index sub : Nat) : List Byte :=
  let p := sub - 1
  if index = 0x3500 then leBytes 2 (1024 - (List.range 8).foldl (fun a p => a + s.caddyInUse p) 0)
  else if index = 0x3501 then leBytes 2 (s.caddy.quota.rd p)
  else if index = 0x3502 then leBytes 2 (s.caddyInUse p)
  else if index = 0x3503 then
    let x := s.caddy.stats.rd p
    leBytes 8 x.steps.toNat ++ leBytes 8 x.rows.toNat ++ leBytes 8 x.padRows.toNat ++ leBytes 4 x.evictions.toNat
  else if index = 0x3600 then leBytes 1 s.teCode
  else if index = 0x3601 then leBytes 8 (s.te.segments.rd p)
  else if index = 0x3602 then leBytes 2 (s.te.nodeWays.rd p)
  else if index = 0x3603 then s.teBound p
  else if index = 0x3700 then (s.streams.rd p).cfg.bytes
  else if index = 0x3701 then s.streamBytes p
  else if index = 0x3800 then leBytes 1 s.kettle.st.code
  else if index = 0x3801 then leBytes 1 s.kettle.target ++ leBytes 1 s.kettle.wakeEngines
  else if index = 0x3804 then padTo 48 s.kettle.digest
  else if index = 0x3805 then s.wakeCause by'
  else if index = 0x3806 then
    leBytes 4 s.kettle.wakes.toNat ++ leBytes 8 s.kettle.runs.toNat ++ leBytes 4 s.kettle.runsSkipped.toNat ++ leBytes 4 s.kettle.drops.toNat
  else leBytes 2 s.kettle.vector

/-- Entries 0x4000-0x4202 (22 Tables 22.9 and 22.10). -/
def State.read6 (s : State) (index sub : Nat) : List Byte :=
  let p := sub - 1
  if index = 0x4000 then leBytes 1 (if s.straps.packageP then 0 else 8)
  else if index = 0x4001 then boolByte (s.port p).enable ++ leBytes 1 (s.port p).speedLimit
  else if index = 0x4002 then s.portBytes p
  else if index = 0x4003 then (s.port p).stats.bytes
  else if index = 0x4004 then leBytes 2 (s.start.dieIdNext.getD s.dieId)
  else if index = 0x4005 then leBytes 2 (s.start.fabricIdNext.getD s.fab.fabricId)
  else if index = 0x4010 then (List.range 65536).flatMap (fun d => leBytes 2 (s.fab.routes.rd d))
  else if index = 0x4011 then leBytes 4 s.fab.txnTimeoutUs
  else if index = 0x4012 then
    leBytes 2 (s.fab.txns.filter (fun (t : Nat × Txn) => t.2.held)).length ++ leBytes 8 s.fab.issued.toNat ++ leBytes 8 s.fab.completed.toNat
      ++ leBytes 8 s.fab.timedOut.toNat
  else if index = 0x4020 then (s.coll p).bytes
  else if index = 0x4021 then (s.coll p).stateBytes
  else if index = 0x4100 then
    if sub = 1 then leBytes 8 s.agree.datum.epoch
    else if sub = 2 then s.agree.datum.versionBytes
    else if sub = 3 then padTo 48 s.digest
    else if sub = 4 then s.fabricConfig
    else if sub = 5 then s.agree.datum.platBytes
    else s.agree.datum.benchBytes
  else if index = 0x4101 then s.agreeBytes
  else if index = 0x4105 then (if (s.parcel p).fabricId = 0 then List.replicate 91 0#8 else (s.agree.jobRecs.rd p).bytes)
  else if index = 0x4106 then s.closureBytes
  else if index = 0x4200 then leBytes 8 s.bench
  else s.benchBytes

/-- Entries 0x5000-0x7F03 (22 Tables 22.11-22.14). -/
def State.read7 (s : State) (index sub : Nat) : List Byte :=
  let f := s.fb
  if index = 0x5000 then leBytes 1 s.sec.debug
  else if index = 0x5001 then s.sec.fuses.slotBytes (sub - 1)
  else if index = 0x5002 then s.sec.fuses.bytes
  else if index = 0x5003 then s.imageBytes sub
  else if index = 0x5011 then (s.sec.challenges.rd (sub - 1)).bytes
  else if index = 0x5042 then Config.certChain.take 4096
  else if index = 0x6000 then leBytes 2 f.windowMs
  else if index = 0x6001 then leBytes 8 f.head ++ leBytes 8 f.tail ++ leBytes 8 f.gen
  else if index = 0x6002 then boolByte f.spill.enable ++ leBytes 1 f.spill.kind ++ leBytes 1 f.spill.log2 ++ leBytes 5 0 ++ leBytes 8 f.spill.base
  else if index = 0x6003 then leBytes 8 f.spilled ++ leBytes 8 f.lost
  else if index = 0x6004 then leBytes 8 f.events.toNat ++ leBytes 8 f.gapEvents.toNat ++ leBytes 8 f.late.toNat ++ leBytes 8 f.deferred.toNat
  else if index = 0x6010 then f.page (sub - 1)
  else if index < 0x6040 then (f.cfg.rd ((index - 0x6020) * 128 + sub - 1)).bytes
  else if index = 0x6100 then s.acctParcel (sub - 1)
  else if index = 0x7000 then s.startBytes
  else if index = 0x7001 then s.stepBytes (sub - 1)
  else if index = 0x7002 then s.ledger.previous.bytes
  else if index = 0x7004 then s.retiredBytes
  else if index = 0x7005 then leBytes 4 s.start.bootWaitMs
  else if index = 0x7007 then leBytes 4 s.start.fatalAutoMs
  else if index = 0x7008 then leBytes 1 s.start.startLimit
  else if index = 0x7010 then s.start.boot.reqBytes
  else if index = 0x7100 then s.repairBytes
  else if index = 0x7102 then (s.port (sub - 1)).healthBytes
  else if index = 0x7103 then (s.slc.rd (sub - 1)).repairBytes
  else if index = 0x7105 then leBytes 1 s.svc.state
  else if index = 0x7106 then leBytes 2 s.svc.retireUncorr
  else if index = 0x7F00 then s.svc.cfg.bytes
  else (s.svc.units.rd (sub - 1)).bytes

/-- A result-bearing entry (09 R364, 22 R791), none for any other. -/
def State.resultOf (s : State) (index sub : Nat) : Option ResultRec :=
  if index = 0x1111 then some s.dict.spdm.response
  else if index = 0x3381 then some s.jobResult
  else if index = 0x4103 then some s.agree.result
  else if index = 0x5021 then some s.plat.result
  else if index = 0x5031 then some (s.sec.sealResult.rd (sub - 1))
  else if index = 0x5041 then some s.sec.attest
  else if index = 0x7F02 then some s.svc.result
  else none

/-- The value of an entry that a principal may read, or the status that refuses it: NOT_READY (09 R364), a tally parcel's accounts
(11 R429, 12 R461), and what bars the certificates (22 R800). -/
def State.readEntry (s : State) (by' : Principal) (index sub : Nat) : Status × List Byte :=
  if sub = 0 ∧ (familyHigh index).isSome then (.ok, leBytes 1 ((familyHigh index).getD 0))
  else match s.resultOf index sub with
    | some r => if r.ready then (.ok, r.bytes) else (.notReady, [])
    | none =>
        if 0x3410 ≤ index ∧ index ≤ 0x3417 ∧ (s.parcel (index - 0x3410)).tally then (.unsupported, [])
        else if index = 0x3503 ∧ (s.parcel (sub - 1)).tally then (.unsupported, [])
        else if index = 0x5042 ∧ s.attestBar.isSome then (s.attestBar.getD .ok, [])
        else
          (.ok,
            if index < 0x2000 then s.read1 index sub
            else if index < 0x3000 then s.read2 index sub
            else if index < 0x3300 then s.read3 index sub
            else if index < 0x3500 then s.read4 index sub
            else if index < 0x4000 then s.read5 by' index sub
            else if index < 0x5000 then s.read6 index sub
            else s.read7 index sub)

end Sys2Proof.Machine
end

