-- ==== Sys2Proof/Machine/DictWrite.lean ====
section
/-! DEFINITION. Readiness, rights and writes of the object dictionary's entries (21 R764-R768, R779; 18 R703-R707). -/
namespace Sys2Proof.Machine
open Sys2Proof

/-! ## Readiness (18 R685, R703-R707; 16 R599; 22 R794) -/

/-- The start step that readies an entry's owning block (18 Table 18.3, R705). -/
def ownStep (index : Nat) : Nat :=
  if index < 0x2000 then 19
  else if index < 0x2010 then 39
  else if index < 0x2100 then 19
  else if index < 0x2200 then 39
  else if index < 0x3000 then 19
  else if index < 0x3100 then 32
  else if index = 0x3105 then 31
  else if index = 0x3106 ∨ index = 0x3107 then 29
  else if index < 0x3200 then 42
  else if index < 0x3300 then 36
  else if index < 0x3400 then 35
  else if index < 0x3410 then 43
  else if index < 0x3600 then 35
  else if index < 0x3700 then 33
  else if index < 0x3800 then 37
  else if index < 0x4000 then 34
  else if index = 0x4000 ∨ index = 0x4004 ∨ index = 0x4005 then 19
  else if index < 0x4100 then 40
  else if index < 0x5000 then 44
  else if 0x5020 ≤ index ∧ index < 0x5040 then 43
  else if index < 0x6000 then 19
  else if index < 0x6100 then 38
  else if index = 0x6100 then 35
  else if index < 0x7F00 then 19
  else 45

/-- A write that waits for the queues to open (18 R707): what it waits for, by the entry and its action. -/
def openStep (index : Nat) (data : List Byte) : Option Nat :=
  if index = 0x3310 ∧ field data 2 1 = 0 then some 47
  else if index = 0x3380 ∧ field data 0 1 = 0 then some 47
  else if index = 0x3702 ∧ field data 1 1 = 0 then some 47
  else if index = 0x5040 ∨ index = 0x2002 ∨ index = 0x7F01 then some 47
  else if index = 0x5020 then some 43
  else none

/-- How a dictionary request stands before its entry is looked at: no answer at all, answered already, or to be served. -/
inductive Gate where
  | silent | stop (r : Reply) | go
deriving DecidableEq, Repr

/-- Reads that a die that has not opened its dictionary, is halted or in recovery still answers: the ranges 0x1000, 0x5000 and 0x7000
(18 R685, 16 R599). -/
def rangeRead (index : Nat) : Bool := index / 256 == 0x10 || index / 256 == 0x50 || index / 256 == 0x70

/-- Whether a dictionary request is answered, and how far the start is (18 R685, R703-R707; 16 R599). -/
def State.gate (s : State) (read : Bool) (index : Nat) (data : List Byte) : Gate :=
  let busy (k lim : Nat) : Gate := .stop { status := .busy, retryUs := Nat.min lim (Nat.max 1000 (s.remainsUs k)) }
  if !s.awake ∨ (s.start.phase = .starting ∧ s.start.step ≤ 5) then .silent
  else match s.start.phase with
    | .halted =>
        if read then (if rangeRead index then .go else .stop { status := .retired })
        else if index = 0x7006 ∨ index = 0x7003 then .go else .stop { status := .retired }
    | .recovery =>
        if read then (if rangeRead index then .go else .stop { status := .retired })
        else if index = 0x7011 then .go else .stop { status := .retired }
    | .starting =>
        if s.start.step ≤ 19 then
          if read ∧ (index = 0x1000 ∨ index = 0x7000 ∨ index = 0x7001 ∨ index = 0x7010) then .go
          else if !read ∧ index = 0x7011 ∧ s.start.step ≤ 15 then .go
          else busy 19 100000
        else if s.start.step ≤ ownStep index then busy (ownStep index) 100000
        else match (if read then none else openStep index data) with
          | some k => if s.start.step ≤ k then busy k (2 ^ 32 - 1) else .go
          | none => .go
    | _ => .go

/-! ## Entries without a row of their own (21 R778) -/

/-- Apply a checked value, persisting a ledger entry (21 R766, R768). -/
def State.store (s : State) (ok : Bool) (st : Option Status) (k : State → State) : State :=
  if !ok then s.answer .unsupported
  else match st with
    | some st => s.answer st
    | none => (k s).answer .ok

/-- As `store`, for a ledger-class entry. -/
def State.storeLedger (s : State) (ok : Bool) (index sub : Nat) (data : List Byte) (k : State → State) : State :=
  if !ok then s.answer .unsupported else ((k s).answer .ok).persist index sub data

/-- A vector is 0-2,047, or 0xFFFF for none. -/
def vectorOk (v : Nat) : Bool := decide (v ≤ 2047 ∨ v = 0xFFFF)

/-- A port is switched off by its ENABLE (14 Table 14.4). -/
def State.disablePort (s : State) (p : Nat) : State :=
  let live := (s.port p).st == .active || (s.port p).st == .retrain
  let d := s.peerDie p
  let s := if live then s.guardPort p else s
  let s := s.updPort p (fun x => { x with st := .disabled, admitted := false, auth := {} })
  if !live then s
  else
    let s := { s with agree := { s.agree with neigh := s.agree.neigh.wr p {} } }
    if s.alone then (s.applyNotice 0 d).elect else s.report 0 d 0

/-- PORT_CONFIG in force (14 R528, Table 14.4): an enabled port that is DISABLED or DOWN goes to DETECT. -/
def State.portConfig (s : State) (p : Nat) (enable : Bool) (speed : Nat) : State :=
  let s := (s.updPort p (fun x => { x with enable := enable, speedLimit := speed })).updLedger (fun l =>
    { l with clearPorts := p :: l.clearPorts.filter (fun q => q != p) })
  let may := !s.straps.packageP && (s.sec.images.rd 5).kind != 0 && (s.start.phase == .opened || decide (41 < s.start.step))
    && s.ledger.record.outcomes.getD 40 0 != 3
  let st := (s.port p).st
  if !enable then (if st = .disabled then s else s.disablePort p)
  else if may ∧ (st = .disabled ∨ st = .down) then s.startPort p s.now
  else s

/-- The thresholds of the sag stages rise (17 R659). -/
def threshRises (t : Tab SagThresh) : Bool := [1, 2, 3, 4, 5].all (fun k => decide ((t.rd k).thresh < (t.rd (k + 1)).thresh))

/-- Write an entry that has no row of its own. Its size has been checked. -/
def State.regWrite (s : State) (index sub : Nat) (data : List Byte) : State :=
  let v := leNat data
  if index = 0x1101 then s.store (decide (100 ≤ v ∧ v ≤ 10000)) none (fun s => { s with dict := { s.dict with idleMs := v } })
  else if index = 0x1102 then s.storeLedger true index sub data (fun s => { s with dict := { s.dict with relayDie := v } })
  else if index = 0x1103 then
    let q := field data 0 2
    s.store (decide (q ≤ 1023 ∨ q = 0xFFFF) && vectorOk (field data 2 2)) none (fun s =>
      { s with dict := { s.dict with windows := s.dict.windows.upd sub (fun w => { w with bindQ := q, vector := field data 2 2 }) } })
  else if index = 0x1104 then s.store (vectorOk v) none (fun s => { s with dict := { s.dict with mboxVector := v } })
  else if index = 0x2003 then s.store (decide (500 ≤ v ∧ v ≤ 60000)) none (fun s => s.updPower (fun p => { p with budget := v }))
  else if index = 0x2005 then s.store (decide (v ≤ 1000000)) none (fun s => s.updPower (fun p => { p with engineOffUs := v }))
  else if index = 0x2101 then
    let t : SagThresh := { thresh := field data 0 2, dwell := field data 2 2 }
    let all := s.power.thresh.wr sub t
    s.storeLedger (decide (10 ≤ t.thresh ∧ t.thresh ≤ 99 ∧ 50 ≤ t.dwell ∧ t.dwell ≤ 10000) && threshRises all) index sub data
      (fun s => s.updPower (fun p => { p with thresh := all }))
  else if index = 0x2102 then s.storeLedger (decide (v ≤ 6)) index sub data (fun s => s.updPower (fun p => { p with pinStage := v }))
  else if index = 0x2103 then
    s.storeLedger (decide (popCount 8 v ≤ 2)) index sub data (fun s => s.updPower (fun p => { p with portKeep := v }))
  else if index = 0x2202 then s.store (decide (1 ≤ v)) none (fun s => { s with approx := { s.approx with stepdownWindows := v } })
  else if index = 0x3002 then s.store (decide (v ≤ 1)) none (fun s => s.updEng (sub - 1) (fun e => { e with simmerEnable := v == 1 }))
  else if index = 0x3102 then
    s.storeLedger (decide (6400 ≤ v ∧ v ≤ 9600)) index sub data (fun s => s.updMc (sub - 1) (fun m => { m with rateLimit := v }))
  else if index = 0x3103 then s.storeLedger (decide (v ≤ 1)) index sub data (fun s => s.updMc (sub - 1) (fun m => { m with eccMode := v }))
  else if index = 0x3104 then s.store true none (fun s => s.updMc (sub - 1) (fun m => { m with shares := data.map (·.toNat) }))
  else if index = 0x3107 then s.store (decide (10 ≤ v ∧ v ≤ 1000)) none (fun s => { s with mem := { s.mem with sramPatrolMs := v } })
  else if index = 0x3108 then s.store (decide (1 ≤ v ∧ v ≤ 720)) none (fun s => { s with mem := { s.mem with mcPatrolHours := v } })
  else if 0x3300 ≤ index ∧ index ≤ 0x3307 then
    let q := (index - 0x3300) * 128 + sub - 1
    let d := field data 0 8
    let c := field data 8 8
    let dl := field data 16 1
    let cl := field data 17 1
    let w := field data 20 4
    s.store (decide (d % 4096 = 0 ∧ c % 4096 = 0 ∧ 4 ≤ dl ∧ dl ≤ 12 ∧ 4 ≤ cl ∧ cl ≤ 12 ∧ w ≤ 60000000) && vectorOk (field data 18 2)
        && zeros data 24 8)
      (if (s.queue q).st = .closed then none else some .busy)
      (fun s => s.updQ q (fun x => { x with descBase := d, cplBase := c, descLog2 := dl, cplLog2 := cl, vector := field data 18 2, watchdogUs := w }))
  else if index = 0x3311 then s.store (vectorOk v) none (fun s => { s with link := { s.link with faultVector := v } })
  else if index = 0x3382 then
    let q := field data 0 2
    let g := field data 2 2
    s.store (decide (20 ≤ q ∧ q ≤ 1000 ∧ g ≤ 100)) none (fun s => s.updPar (sub - 1) (fun x => { x with quantumMs := q, graceMs := g }))
  else if index = 0x3807 then s.store (vectorOk v) none (fun s => s.updKettle (fun k => { k with vector := v }))
  else if index = 0x4001 then
    s.storeLedger (decide (field data 0 1 ≤ 1 ∧ field data 1 1 ≤ 1)) index sub data
      (fun s => s.portConfig (sub - 1) (field data 0 1 == 1) (field data 1 1))
  else if index = 0x4004 then
    s.storeLedger (decide (v ≤ 0xFFFE)) index sub data (fun s => s.updStart (fun x => { x with dieIdNext := some v }))
  else if index = 0x4005 then s.storeLedger true index sub data (fun s => s.updStart (fun x => { x with fabricIdNext := some v }))
  else if index = 0x4011 then
    s.store (decide (10 ≤ v ∧ v ≤ 100000)) (if s.alone then none else some .denied) (fun s => { s with fab := { s.fab with txnTimeoutUs := v } })
  else if 0x6020 ≤ index ∧ index ≤ 0x603F then
    let c := (index - 0x6020) * 128 + sub - 1
    let e := field data 0 1
    let sh := field data 1 1
    let r := field data 2 1
    s.store (decide (e ≤ 1 ∧ sh ≤ 31 ∧ r ≤ 60)) none (fun s =>
      s.updFb (fun f => { f with cfg := f.cfg.wr c { enable := e == 1, shift := sh, rate := r } }))
  else if index = 0x7005 then
    s.storeLedger (decide (100 ≤ v ∧ v ≤ 60000)) index sub data (fun s => s.updStart (fun x => { x with bootWaitMs := v }))
  else if index = 0x7007 then
    s.storeLedger (decide (v = 0 ∨ (100 ≤ v ∧ v ≤ 60000))) index sub data (fun s => s.updStart (fun x => { x with fatalAutoMs := v }))
  else if index = 0x7008 then
    s.storeLedger (decide (1 ≤ v ∧ v ≤ 8)) index sub data (fun s => s.updStart (fun x => { x with startLimit := v }))
  else if index = 0x7106 then
    s.storeLedger (decide (1 ≤ v ∧ v ≤ 1000)) index sub data (fun s => { s with svc := { s.svc with retireUncorr := v } })
  else if index = 0x7F00 then
    let c := selfCfgOf data
    let secs (n : Nat) : Bool := decide (10 ≤ n ∧ n ≤ 3600)
    s.storeLedger (decide (field data 0 1 ≤ 1 ∧ 1 ≤ c.maxConc ∧ c.maxConc ≤ 4) && secs c.engineS && secs c.sliceS && secs c.teS
        && secs c.kettleS) index sub data (fun s => { s with svc := { s.svc with cfg := c } })
  else s.answer .unsupported

/-! ## Entries whose write is a command -/

/-- The state of a meaning's answer. -/
def outState (o : Out) (s : State) : State :=
  match o with
  | .next t => t
  | _ => s

/-- A bit vector from a field. -/
def fieldBv (w : Nat) (b : List Byte) (lo n : Nat) : BitVec w := BitVec.ofNat w (field b lo n)

/-- An element of a range by number. -/
def toFin (n : Nat) (h : 0 < n) (i : Nat) : Fin n := ⟨i % n, Nat.mod_lt i h⟩

/-- Entries 0x1110-0x3204 whose write is a command; none for any other. -/
def State.cmdWrite1 (s : State) (by' : Principal) (index sub : Nat) (data : List Byte) : Option Out :=
  let b (i : Nat) : Byte := fieldBv 8 data i 1
  let p := toFin 8 (by decide) (sub - 1)
  if index = 0x1110 then
    let c := field data 1 1
    some (if c = 0xE1 then execGetCapabilities by' data s
      else if c = 0xE3 then execNegotiateAlgorithms by' data s
      else if c = 0x81 then execGetDigests by' data s
      else if c = 0x82 then execGetCertificate by' data s
      else if c = 0x83 then execChallenge by' data s
      else if c = 0xE0 then execGetMeasurements by' data s
      else execGetVersion by' data s)
  else if index = 0x2002 then some (execPowerRequest by' (b 0) s)
  else if index = 0x2004 then some (execBoostEnableWrite by' (b 0) s)
  else if index = 0x2011 then some (execIslandFreqTargetWrite by' (toFin 80 (by decide) (sub - 1)) (fieldBv 16 data 0 2) s)
  else if index = 0x2200 then
    some (execAlProfileWrite by' p (b 0) (b 1) (b 2) (b 3) (fieldBv 16 data 4 2) (fieldBv 16 data 6 2) s)
  else if index = 0x2201 then some (execParcelAlCapWrite by' p (b 0) s)
  else if index = 0x3105 then some (execHostDcWaysWrite by' (fieldBv 16 data 0 2) s)
  else if index = 0x3200 then
    some (execXlatConfigWrite by' p (b 0) (b 1) (fieldBv 16 data 2 2) (fieldBv 32 data 4 4) (fieldBv 64 data 8 8) (fieldBv 64 data 16 8)
      (fieldBv 64 data 24 8) (fieldBv 64 data 32 8) s)
  else if index = 0x3201 then some (execFaultRingWrite by' (fieldBv 64 data 0 8) (b 8) (b 9) (fieldBv 32 data 10 4) s)
  else if index = 0x3202 then some (execFaultRingHeadWrite by' (fieldBv 32 data 0 4) s)
  else if index = 0x3203 then
    some (if b 8 = 0 then execFaultResponseRetry by' (fieldBv 64 data 0 8) s
      else if b 8 = 1 then execFaultResponseFail by' (fieldBv 64 data 0 8) s
      else .next (s.answer .unsupported))
  else if index = 0x3204 then
    some (execShootdown by' (b 0) (b 1) (fieldBv 16 data 2 2) (fieldBv 32 data 4 4) (fieldBv 64 data 8 8) (fieldBv 64 data 16 8) s)
  else none

/-- Entries 0x3310-0x3803 whose write is a command; none for any other. -/
def State.cmdWrite2 (s : State) (by' : Principal) (index sub : Nat) (data : List Byte) : Option Out :=
  let b (i : Nat) : Byte := fieldBv 8 data i 1
  let p := toFin 8 (by decide) (sub - 1)
  let no : Out := .next (s.answer .unsupported)
  if index = 0x3310 then
    let q := toFin 1024 (by decide) (field data 0 2)
    some (if field data 0 2 > 1023 then no
      else if b 2 = 0 then execQueueOpen by' q s
      else if b 2 = 1 then execQueueClose by' q s
      else if b 2 = 2 then execQueueReset by' q s
      else no)
  else if index = 0x3342 then some (execSemForceAbandon by' (b 0) s)
  else if index = 0x3380 then
    some (if b 0 = 0 then execJobCreate by' (b 1) (b 2) (b 3) (fieldBv 16 data 4 2) (fieldBv 16 data 6 2) (fieldBv 64 data 8 8)
        (fieldBv 64 data 16 8) (fieldBv 64 data 24 8) s
      else if b 0 = 1 then execJobDestroy by' (b 1) (b 2) (b 3) s
      else if b 0 = 2 then execJobSuspend by' (b 1) (b 2) (b 3) s
      else if b 0 = 3 then execJobResume by' (b 1) (b 2) (b 3) s
      else if b 0 = 4 then execJobFault by' (b 1) (b 2) (b 3) s
      else no)
  else if index = 0x3501 then some (execCaddyQuotaWrite by' p (fieldBv 16 data 0 2) s)
  else if index = 0x3601 then some (execTeSegmentsWrite by' p (fieldBv 64 data 0 8) s)
  else if index = 0x3602 then some (execTeNodeWaysWrite by' p (fieldBv 16 data 0 2) s)
  else if index = 0x3700 then
    some (execStreamConfigWrite by' (toFin 16 (by decide) (sub - 1)) (b 0) (b 1) (b 2) (b 3) (fieldBv 32 data 4 4) (fieldBv 32 data 8 4)
      (fieldBv 32 data 12 4) (fieldBv 64 data 16 8) (fieldBv 64 data 24 8) (b 32) (b 33) (fieldBv 112 data 34 14) s)
  else if index = 0x3702 then
    let n := toFin 16 (by decide) (field data 0 1)
    some (if field data 0 1 > 15 then no
      else if b 1 = 0 then execStreamOpen by' n s
      else if b 1 = 1 then execStreamClose by' n s
      else no)
  else if index = 0x3801 then some (execKettleTargetWrite by' (b 0) (b 1) s)
  else if index = 0x3802 then some (execKettleProgramLoad by' data s)
  else if index = 0x3803 then some (if b 0 = 0 then execListen by' s else if b 0 = 1 then execStop by' s else no)
  else none

/-- Entries 0x4010-0x7F01 whose write is a command; none for any other. A reset keeps the surroundings of the last start. -/
def State.cmdWrite3 (s : State) (by' : Principal) (index sub : Nat) (data : List Byte) : Option Out :=
  let b (i : Nat) : Byte := fieldBv 8 data i 1
  let p := toFin 8 (by decide) (sub - 1)
  let no : Out := .next (s.answer .unsupported)
  if index = 0x4010 then
    some (execRouteTableWrite by' 0 ((List.range 65536).map (fun i => fieldBv 16 data (2 * i) 2)) s)
  else if index = 0x4020 then
    some (execCollConfigWrite by' p (b 0) (b 1) (b 2) (b 3) (fieldBv 16 data 4 2) (fieldBv 16 data 6 2) (fieldBv 64 data 8 8)
      (fieldBv 64 data 16 8) (fieldBv 64 data 24 8) s)
  else if index = 0x4102 then some (execDatumPropose by' data s)
  else if index = 0x4202 then some (execBenchImport by' (fieldBv 64 data 0 8) s)
  else if index = 0x5004 then some (execDebugLock by' (b 0) s)
  else if index = 0x5010 then
    let op := field data 4 1
    let tag : U32 := fieldBv 32 data 0 4
    let res : BitVec 24 := fieldBv 24 data 5 3
    let arg := data.drop 8
    some (if op = 1 then execDebugOwner by' tag res arg s
      else if op = 2 then execDebugVendor by' tag res arg s
      else if op = 3 then execOwnerEnroll by' tag res arg s
      else if op = 4 then execKeyRevoke by' tag res arg s
      else if op = 5 then execSvnAdvance by' tag res arg s
      else if op = 6 then execFuseRepair by' tag res arg s
      else if op = 7 then execRma by' tag res arg s
      else no)
  else if index = 0x5012 then some (execAnswer by' data s)
  else if index = 0x5020 then some (execPlatRequest by' data s)
  else if index = 0x5030 then some (execSealOffer by' p data s)
  else if index = 0x5040 then some (execAttestRequest by' data s)
  else if index = 0x6000 then some (execFbConfigWrite by' (fieldBv 16 data 0 2) s)
  else if index = 0x6002 then some (execFbSpillWrite by' (b 0) (b 1) (b 2) (fieldBv 40 data 3 5) (fieldBv 64 data 8 8) s)
  else if index = 0x7003 then some (execLedgerClear by' (b 0) s)
  else if index = 0x7006 then some (execResetRequest by' (b 0) s.start.env s)
  else if index = 0x7011 then some (execBootData by' data s)
  else if index = 0x7101 then some (.next (s.repairControl by' (field data 0 1)))
  else if index = 0x7104 then some (.next (s.serviceRequest by' (field data 0 1)))
  else if index = 0x7F01 then some (execSelftestRequest by' (b 0) (b 1) (b 2) s)
  else none

/-- Apply a write whose entry, right and size have been checked. -/
def State.applyWrite (s : State) (by' : Principal) (index sub : Nat) (data : List Byte) : State :=
  match s.cmdWrite1 by' index sub data with
  | some o => outState o s
  | none => match s.cmdWrite2 by' index sub data with
    | some o => outState o s
    | none => match s.cmdWrite3 by' index sub data with
      | some o => outState o s
      | none => s.regWrite index sub data

/-- A whole write of an entry (21 R766, R767, R779): readiness, existence, right, size, then value and state. SPDM is open to window 0
alone (21 R785). -/
def State.dictWrite (s : State) (by' : Principal) (win0 : Bool) (index sub : Nat) (data : List Byte) : State :=
  match s.gate false index data with
  | .silent => s
  | .stop r => { s with reply := r }
  | .go => match dictEntry index sub with
    | none => s.answer .unsupported
    | some r =>
        if !writable (s.rightOf by' r index sub) ∨ (index = 0x1110 ∧ !win0) then s.answer .denied
        else if data.length < r.min ∨ r.size < data.length then s.answer .unsupported
        else s.applyWrite by' index sub data

/-- A whole read of an entry. -/
def State.dictRead (s : State) (by' : Principal) (win0 : Bool) (index sub : Nat) : State :=
  match s.gate true index [] with
  | .silent => s
  | .stop r => { s with reply := r }
  | .go => match dictEntry index sub with
    | none => s.answer .unsupported
    | some r =>
        if !readable (s.rightOf by' r index sub) ∨ (index = 0x1111 ∧ !win0) then s.answer .denied
        else match s.readEntry by' index sub with
          | (.ok, b) => s.give b
          | (st, _) => s.answer st

/-- REGISTER_WRITE (21 R778): a write of an entry, checked and stored. -/
def execRegisterWrite (by' : Principal) (index : U16) (sub : Byte) (data : List Byte) (s : State) : Out :=
  .next (s.dictWrite by' true index.toNat sub.toNat data)

end Sys2Proof.Machine
end

