-- ==== Sys2Proof/Machine/Dictionary.lean ====
section
/-! DEFINITION. Dictionary frames on the mailbox, VC0 and the I3C sideband: principals, sessions, relays and responses (21 R769-R785,
15 R563, 23 R828). -/
namespace Sys2Proof.Machine
open Sys2Proof

/-- A frame's header and data (21 Table 21.4). -/
structure Frame where
  ftype : Nat := 0
  flags : Nat := 0
  session : Nat := 0
  index : Nat := 0
  sub : Nat := 0
  status : Nat := 0
  param : Nat := 0
  len : Nat := 0
  target : Nat := 0
  data : List Byte := []
deriving DecidableEq, Repr

/-- Read a frame. -/
def frameOf (b : List Byte) : Frame :=
  { ftype := field b 0 1, flags := field b 1 1, session := field b 2 2, index := field b 4 2, sub := field b 6 1, status := field b 7 1,
    param := field b 8 4, len := field b 12 2, target := field b 14 2, data := slice b 16 (field b 12 2) }

/-- LAST of a frame. -/
def Frame.last (f : Frame) : Bool := bitAt f.flags 0

/-- The frame types of Table 21.5. -/
def Frame.known (f : Frame) : Bool := decide (0x10 ≤ f.ftype ∧ f.ftype ≤ 0x16)

/-- A response's frame type: 0x90-0x96, or 0xFF. -/
def Frame.isResponse (f : Frame) : Bool := decide ((0x90 ≤ f.ftype ∧ f.ftype ≤ 0x96) ∨ f.ftype = 0xFF)

/-- The form of a request (21 R774-R776, R779 check 1): reserved bits, the use of SESSION and PARAM, LENGTH. RELAY is a bit of VC0
alone. -/
def Frame.wellFormed (f : Frame) (raw : Nat) (vc0 : Bool) : Bool :=
  let first := f.ftype == 0x10 || f.ftype == 0x11 || f.ftype == 0x12 || f.ftype == 0x16
  decide (16 + f.len ≤ raw ∧ raw ≤ 128 ∧ f.len ≤ 112 ∧ f.status = 0)
    && (if vc0 then decide (f.flags < 4) else decide (f.flags < 2))
    && (first == (f.session == 0))
    && (if f.ftype = 0x12 then decide (1 ≤ f.param ∧ f.param ≤ 1048576) else if f.ftype = 0x13 ∨ f.ftype = 0x14 then true else f.param == 0)
    && (if f.ftype = 0x11 then decide (1 ≤ f.len ∧ f.len ≤ 8) && f.last
        else if f.ftype = 0x13 then decide (1 ≤ f.len ∧ f.len ≤ 112) else f.len == 0)

/-- A response to a request frame (21 R775). -/
def Frame.respond (f : Frame) (flags session : Nat) (st : Status) (param : Nat) (data : List Byte) : List Byte :=
  (frameBytes (if f.known then f.ftype + 0x80 else 0xFF) flags session f.index f.sub st.code param data f.target).take (16 + data.length)

/-- A refusal. -/
def Frame.refuse (f : Frame) (st : Status) (retry : Nat) : List Byte := f.respond 0 f.session st retry []

/-! ## Principals (21 Table 21.2, R769, R773; 15 R563) -/

/-- A die is ADMITTED as far as this die has been told (15 R567, R572). -/
def State.admittedDie (s : State) (d : Nat) : Bool :=
  s.agree.notices.rd d == 0 && (List.range 8).all (fun p => (s.port p).st != .active || s.peerDie p != d || (s.port p).admitted)

/-- The principal of a path; none is a window that carries no frame (21 R773). -/
def State.principalOf (s : State) (path : Path) : Option Principal :=
  match path with
  | .window 0 => some .hostk
  | .window w =>
      let q := (s.dict.windows.rd w).bindQ
      if q > 1023 ∨ ((s.queue q).st ≠ .opened ∧ (s.queue q).st ≠ .parked) then none
      else (s.jobOf q).map (fun j => .parcel j.1)
  | .vc0 die true => some (if die = s.dict.relayDie ∧ s.admittedDie die then .hostk else .none)
  | .vc0 die false => some (if die = s.agree.survDie then .surv else .none)
  | .i3c => some .board

/-- What a die on VC0 may do besides its principal's right: read the 0x4100 and 0x4200 ranges, write BEACON, NOTICE_REPORT and
SWITCH_DONE, its job records as their lead or the surveyor, and a proposal to the surveyor (15 R560, R563, R566, R574). -/
def State.vc0Right (s : State) (die : Nat) (r : DictRow) (index sub base : Nat) : Nat :=
  let some' := [r.code .rtp, r.code .hostk, r.code .surv, r.code .board].any (fun c => readable c)
  let rd := readable base || (decide (0x4100 ≤ index ∧ index < 0x4300) && some')
  let wr := writable base
    || (index == 0x4104 && (List.range 8).any (fun p => (s.port p).st == .active && s.peerDie p == die))
    || index == 0x4108 || index == 0x4109
    || (index == 0x4105 && sub != 0 && (die == s.agree.survDie || s.agree.datum.plat.any (fun e => e.slot + 1 == sub && e.lead == die)))
    || (index == 0x4102 && s.isSurveyor)
  if base = 4 then 4 else (if rd then 1 else 0) + (if wr then 2 else 0)

/-- The right of a frame on an entry. SPDM is open to window 0 alone (21 R785). -/
def State.frameRight (s : State) (path : Path) (by' : Principal) (r : DictRow) (index sub : Nat) : Nat :=
  let base := s.rightOf by' r index sub
  match path with
  | .vc0 die false => s.vc0Right die r index sub base
  | .window 0 => base
  | _ => if index = 0x1110 ∨ index = 0x1111 then 0 else base

/-! ## Sessions (21 R780, R781) -/

/-- The kept places a path may use, as a class: window 0, BOARD, others. -/
def pathClass (p : Path) : Nat :=
  match p with
  | .window 0 => 0
  | .i3c => 1
  | _ => 2

/-- A first frame finds a place: eight are kept for window 0 and for BOARD, 48 are shared. -/
def State.placeFree (s : State) (path : Path) : Bool :=
  let n (c : Nat) : Nat := (s.dict.sessions.filter (fun (x : Session) => pathClass x.path == c)).length
  let c := pathClass path
  (c < 2 && decide (n c < 8)) || decide ((n 0 - 8) + (n 1 - 8) + n 2 < 48)

/-- Change the transports. -/
def State.updDict (s : State) (f : Dict → Dict) : State := { s with dict := f s.dict }

/-- An identifier not in use, from the next one on. -/
def freeId (used : List Session) : Nat → Nat → Nat
  | 0, id => id
  | n + 1, id => if used.any (fun (x : Session) => x.id == id) then freeId used n (id % 65535 + 1) else id

/-- Open a session and answer its identifier. -/
def State.openSession (s : State) (x : Session) : State × Nat :=
  let id := freeId s.dict.sessions 64 s.dict.nextId
  let y : Session := { x with id := id, at' := s.now }
  (s.updDict (fun d => { d with sessions := d.sessions ++ [y], nextId := id % 65535 + 1 }), id)

/-- End a session. -/
def State.endSession (s : State) (id : Nat) : State :=
  s.updDict (fun d => { d with sessions := d.sessions.filter (fun (x : Session) => x.id != id) })

/-- Change a session. -/
def State.updSession (s : State) (id : Nat) (f : Session → Session) : State :=
  s.updDict (fun d => { d with sessions := d.sessions.map (fun (x : Session) => if x.id = id then f x else x) })

/-! ## Serving a frame (21 R775-R779) -/

/-- The answer of the entry behind a frame as a response. -/
def State.outcome (s : State) (f : Frame) (session : Nat) : List Byte :=
  f.respond ((if s.reply.status = .ok then 1 else 0) + (if s.reply.notPersisted then 4 else 0)) session s.reply.status
    (if s.reply.status = .busy then Nat.min s.reply.retryUs (2 ^ 32 - 1) else 0) []

/-- The ports on which a die's beacon counts. -/
def State.beaconFrom (s : State) (die : Nat) (data : List Byte) : State :=
  ((List.range 8).filter (fun p => (s.port p).st == .active && s.peerDie p == die)).foldl (fun (s : State) p => s.takeBeacon p data) s

/-- Apply a whole value that came by a path. -/
def State.applyFrame (s : State) (path : Path) (by' : Principal) (index sub : Nat) (data : List Byte) : State :=
  let s := s.answer .ok
  match path with
  | .vc0 die false =>
      if index = 0x4104 then s.beaconFrom die data
      else if index = 0x4105 then s.takeJobRec die (sub - 1) data
      else if index = 0x4108 then s.takeReport data
      else if index = 0x4109 then s.takeSwitchDone die data
      else if index = 0x4102 then (s.propose data).answer .ok
      else s.applyWrite by' index sub data
  | _ => s.applyWrite by' index sub data

/-- The checks 3 and 4 of a request: the entry and the right, or the refusal. -/
def State.entryFor (s : State) (path : Path) (read : Bool) (index sub : Nat) : Status ⊕ (DictRow × Principal) :=
  match dictEntry index sub with
  | none => .inl .unsupported
  | some r => match s.principalOf path with
    | none => .inl .denied
    | some by' =>
        let right := s.frameRight path by' r index sub
        if (if read then readable right else writable right) then .inr (r, by') else .inl .denied

/-- A whole write by frames: value checks, then its effect and outcome. -/
def State.writeWhole (s : State) (path : Path) (f : Frame) (data : List Byte) (session : Nat) : State × List Byte :=
  match s.gate false f.index data with
  | .silent => (s, [])
  | .stop r => (s, f.refuse r.status r.retryUs)
  | .go => match s.entryFor path false f.index f.sub with
    | .inl st => (s, f.refuse st 0)
    | .inr (r, by') =>
        if data.length < r.min ∨ r.size < data.length then (s, f.refuse .unsupported 0)
        else
          let s := s.applyFrame path by' f.index f.sub data
          (s, s.outcome f session)

/-- A READ whose entry and right stand (21 R776, R778). -/
def State.readFrame (s : State) (path : Path) (f : Frame) (by' : Principal) : State × List Byte :=
  match s.readEntry by' f.index f.sub with
  | (.ok, b) =>
      if b.length ≤ 8 then (s, f.respond 1 0 .ok 0 b)
      else
        let (s, id) := s.openSession { path := path, index := f.index, sub := f.sub, total := b.length, data := b }
        (s, f.respond 0 id .ok b.length [])
  | (st, _) => (s, f.refuse st 0)

/-- DESCRIBE (21 R775): it needs no right. -/
def State.describeFrame (s : State) (path : Path) (f : Frame) : State × List Byte :=
  match dictEntry f.index f.sub with
  | none => (s, f.refuse .unsupported 0)
  | some r => match s.principalOf path with
    | none => (s, f.refuse .denied 0)
    | some by' =>
        let right := s.frameRight path by' r f.index f.sub
        (s, f.respond 1 0 .ok 0 (leBytes 1 r.type ++ leBytes 1 (if r.ledger then 1 else 0) ++ leBytes 1 right
          ++ leBytes 1 (if r.rb then 1 else 0) ++ leBytes 4 r.size))

/-- A first frame: readiness, a session's place, then its service (21 R779, R780). -/
def State.firstFrame (s : State) (path : Path) (f : Frame) : State × List Byte :=
  let read := f.ftype == 0x10 || f.ftype == 0x16
  match s.gate read f.index (if f.ftype = 0x11 then f.data else List.replicate 4 0xFF) with
  | .silent => (s, [])
  | .stop r => (s, f.refuse r.status r.retryUs)
  | .go =>
      if !s.placeFree path then (s, f.refuse .busy 100)
      else
        let s := s.updDict (fun d => { d with peak := Nat.max d.peak (d.sessions.length + 1) })
        if f.ftype = 0x16 then s.describeFrame path f
        else if f.ftype = 0x11 then s.writeWhole path f f.data 0
        else match s.entryFor path read f.index f.sub with
          | .inl st => (s, f.refuse st 0)
          | .inr (_, by') =>
              if read then s.readFrame path f by'
              else
                let (s, id) := s.openSession { path := path, index := f.index, sub := f.sub, write := true, total := f.param }
                (s, f.respond 0 id .ok 0 [])

/-- Answer a segment and keep the answer for its repetition. -/
def State.answerSeg (s : State) (id : Nat) (x : Session) (b : List Byte) : State × List Byte :=
  (s.updSession id (fun _ => { x with lastAnswer := b, at' := s.now }), b)

/-- READ_SEG in order (21 R777): the last ends the session. -/
def State.readSeg (s : State) (f : Frame) (x : Session) : State × List Byte :=
  let d := slice x.data (112 * f.param) 112
  let last := decide (x.total ≤ 112 * (f.param + 1))
  let b := f.respond (if last then 1 else 0) x.id .ok f.param d
  if last then (s.endSession x.id, b) else s.answerSeg x.id { x with next := x.next + 1 } b

/-- WRITE_SEG in order (21 R777): the last applies the value. -/
def State.writeSeg (s : State) (f : Frame) (x : Session) : State × List Byte :=
  let all := x.data ++ f.data
  if f.last then
    let s := s.endSession x.id
    if all.length ≠ x.total then (s, f.refuse .unsupported 0) else s.writeWhole x.path f all x.id
  else if f.len ≠ 112 ∨ x.total ≤ all.length then (s.endSession x.id, f.refuse .unsupported 0)
  else s.answerSeg x.id { x with data := all, next := x.next + 1 } (f.respond 0 x.id .ok f.param [])

/-- A frame that names a session (21 R777, R781). -/
def State.laterFrame (s : State) (path : Path) (f : Frame) : State × List Byte :=
  match s.dict.sessions.find? (fun (x : Session) => x.id == f.session) with
  | none => (s, f.refuse .unsupported 0)
  | some x =>
      if x.path ≠ path ∨ (s.principalOf path).isNone then (s, f.refuse .denied 0)
      else if x.index ≠ f.index ∨ x.sub ≠ f.sub then (s, f.refuse .unsupported 0)
      else if f.ftype = 0x15 then (s.endSession x.id, f.respond 1 x.id .ok 0 [])
      else if x.write ≠ (f.ftype == 0x13) then (s.endSession x.id, f.refuse .unsupported 0)
      else if f.param + 1 = x.next then (s.updSession x.id (fun y => { y with at' := s.now }), x.lastAnswer)
      else if f.param ≠ x.next then (s.endSession x.id, f.refuse .unsupported 0)
      else if f.ftype = 0x13 then s.writeSeg f x else s.readSeg f x

/-- Deliver a response on the path its request took (21 R772, R783, R784). -/
def State.deliverFrame (s : State) (path : Path) (b : List Byte) : State :=
  match path with
  | .window w =>
      let x := s.dict.windows.rd w
      let s := s.updDict (fun d => { d with windows := d.windows.upd w (fun y => { y with rsp := padTo 128 b, rspSeq := y.rspSeq + 1, busy := false }) })
      s.interrupt (if w = 0 then s.dict.mboxVector else x.vector)
  | .vc0 die _ => s.mgmt die (padTo 128 b)
  | .i3c => (s.updDict (fun d => { d with i3c := { d.i3c with rsp := b, ready := true } })).send (.ibi 0xD1)

/-- Answer a frame, counting a BUSY; no bytes are no answer. -/
def State.respondWith (path : Path) (r : State × List Byte) : State :=
  if r.2.isEmpty then r.1
  else
    let t := if field r.2 7 1 = 1 then r.1.updDict (fun d => { d with busy := d.busy + 1 }) else r.1
    t.deliverFrame path r.2

/-- No interface answers: before ST05, and in the Kettle-only state (18 R703, 22 R794). -/
def State.mute (s : State) : Bool := !s.awake || (s.start.phase == .starting && decide (s.start.step ≤ 5))

/-- A frame reaches the management controller (21 R770, R779): its form, its target, then its service. A window-0 frame for another die
is relayed. -/
def State.serveFrame (s : State) (path : Path) (raw : List Byte) : State :=
  let f := frameOf raw
  let vc0 := match path with | .vc0 _ _ => true | _ => false
  let s := s.updDict (fun d => { d with frames := d.frames + 1 })
  if !f.known ∨ !f.wellFormed raw.length vc0 then State.respondWith path (s, f.refuse .unsupported 0)
  else if f.target ≠ s.dieId then
    if path = .window 0 then
      let fwd := padTo 128 (raw.set 1 (BitVec.ofNat 8 (f.flags ||| 2)))
      let s := s.updDict (fun d => { d with
        windows := d.windows.upd 0 (fun y => { y with busy := true })
        relay := some { frame := raw, target := f.target, deadline := s.now + 10000000 } })
      s.mgmt f.target fwd
    else State.respondWith path (s, f.refuse .denied 0)
  else if f.session = 0 then State.respondWith path (s.firstFrame path f)
  else State.respondWith path (s.laterFrame path f)

/-- REQ_SEQ of a window is written (21 R772): a frame in flight makes it stale. -/
def State.submit (s : State) (w : Nat) : State :=
  let x := s.dict.windows.rd w
  if x.busy then s.updDict (fun d => { d with windows := d.windows.upd w (fun y => { y with stale := y.stale + 1 }) })
  else s.serveFrame (.window w) (padTo 128 x.req)

/-- A frame's row: it acts on its own frame type; an unknown type is answered by whichever row takes it. A VC0 frame leaves the messages
delivered. -/
def State.frameRow (s : State) (ftype : Nat) (path : Path) (raw : List Byte) : State :=
  let f := frameOf raw
  if s.mute ∨ f.isResponse ∨ (f.known ∧ f.ftype ≠ ftype) then s
  else match path with
    | .window w =>
        if w > 15 then s
        else if (s.dict.windows.rd w).busy then s.submit w
        else (s.updDict (fun d => { d with windows := d.windows.upd w (fun y => { y with req := padTo 128 raw }) })).submit w
    | .vc0 die _ =>
        match s.fab.arrived.find? (fun (m : Msg) => m.op == 0x30 && m.src == die && m.dest == s.dieId && m.payload == padTo 128 raw) with
        | some m => (s.take m).serveFrame (.vc0 die (bitAt f.flags 1)) (padTo 128 raw)
        | none => s.serveFrame (.vc0 die (bitAt f.flags 1)) (padTo 128 raw)
    | .i3c => s.serveFrame .i3c raw

/-- READ (21 R775, R776, R778). -/
def execRead (path : Path) (frame : List Byte) (s : State) : Out := .next (s.frameRow 0x10 path frame)
/-- WRITE (21 R775, R776, R778). -/
def execWrite (path : Path) (frame : List Byte) (s : State) : Out := .next (s.frameRow 0x11 path frame)
/-- WRITE_INIT (21 R775, R780). -/
def execWriteInit (path : Path) (frame : List Byte) (s : State) : Out := .next (s.frameRow 0x12 path frame)
/-- WRITE_SEG (21 R777, R778). -/
def execWriteSeg (path : Path) (frame : List Byte) (s : State) : Out := .next (s.frameRow 0x13 path frame)
/-- READ_SEG (21 R777, R778). -/
def execReadSeg (path : Path) (frame : List Byte) (s : State) : Out := .next (s.frameRow 0x14 path frame)
/-- ABORT (21 R775). -/
def execAbort (path : Path) (frame : List Byte) (s : State) : Out := .next (s.frameRow 0x15 path frame)
/-- DESCRIBE (21 R775). -/
def execDescribe (path : Path) (frame : List Byte) (s : State) : Out := .next (s.frameRow 0x16 path frame)

/-! ## Timers (21 R770, R781) -/

/-- RELAY_TIMEOUT (21 R770). -/
def execRelayTimeout (s : State) : Out :=
  .next (
    match s.dict.relay with
    | none => s
    | some r =>
        let s := s.reach r.deadline
        let s := s.updDict (fun d => { d with relay := none, relayTrunc := d.relayTrunc + 1 })
        s.deliverFrame (.window 0) ((frameOf r.frame).refuse .truncated 0))

/-- SESSION_IDLE_TIMEOUT (21 R781). -/
def execSessionIdleTimeout (session : U16) (s : State) : Out :=
  .next (
    match s.dict.sessions.find? (fun (x : Session) => x.id == session.toNat) with
    | none => s
    | some x =>
        let s := s.reach (x.at' + 1000000 * s.dict.idleMs)
        (s.endSession x.id).updDict (fun d => { d with timeouts := d.timeouts + 1 }))

/-! ## Responses from other dies (21 R770; 15 R566, R568, R571, R574) -/

/-- A value read from another die serves what waits for it: an adoption's part, a forwarded proposal's result. -/
def State.readGot (s : State) (r : Reading) (data : List Byte) : State :=
  if r.index = 0x4103 then { s with agree := { s.agree with result := { ready := true, bytes := data } } }
  else if r.index = 0x4100 then
    match s.agree.adoption with
    | some a => if a.die = r.dest then { s with agree := { s.agree with adoption := some { a with got := a.got.wr r.sub data } } } else s
    | none => s
  else s

/-- A read that another die refuses: BUSY and NOT_READY are read again; another refusal ends what waited. -/
def State.readFailed (s : State) (r : Reading) (st : Status) : State :=
  if st = .busy ∨ st = .notReady then s.readFrom r.dest r.index r.sub
  else if r.index = 0x4103 then s.datumDone st s.agree.datum.epoch
  else if r.index = 0x4100 then
    match s.agree.adoption with
    | some a => if a.die = r.dest then s.adoptAgain a else s
    | none => s
  else s

/-- An answer to a read of this die's. An answered probe shows the die alive (15 R571). -/
def State.readAnswer (s : State) (r : Reading) (f : Frame) : State :=
  let rest := s.dict.readings.filter (fun (x : Reading) => x != r)
  let drop := s.updDict (fun d => { d with readings := rest })
  if r.index = 0x4101 then
    let s := { drop with agree := { drop.agree with probes := drop.agree.probes.filter (fun (q : Nat × Nat) => q.1 != r.dest) } }
    if f.session = 0 ∨ f.status ≠ 0 then s
    else s.mgmt r.dest (frameBytes 0x15 0 f.session r.index r.sub 0 0 [] r.dest)
  else if f.status ≠ 0 then drop.readFailed r (statusOf f.status)
  else if r.session = 0 ∧ f.last then drop.readGot r f.data
  else
    let y : Reading := if r.session = 0 then { r with session := f.session, total := f.param } else { r with buf := r.buf ++ f.data }
    if r.session ≠ 0 ∧ (f.last ∨ y.total ≤ y.buf.length) then drop.readGot r y.buf
    else
      let s := drop.updDict (fun d => { d with readings := rest ++ [y] })
      s.mgmt r.dest (frameBytes 0x14 0 y.session r.index r.sub 0 (y.buf.length / 112) [] r.dest)

/-- The next segment of a value this die writes to another (21 R777). -/
def Outgoing.segment (o : Outgoing) : List Byte :=
  let d := slice o.data (112 * o.next) 112
  frameBytes 0x13 (if o.data.length ≤ 112 * (o.next + 1) then 1 else 0) o.session o.index o.sub 0 o.next d o.dest

/-- An answer to a write of this die's: WRITE_INIT's gives the session, each segment's lets the next one go; a BUSY sends the value
again, but a beacon, which the next one replaces. A forwarded proposal's result is then read from the surveyor (15 R566). -/
def State.writeAnswer (s : State) (o : Outgoing) (f : Frame) : State :=
  let rest := s.dict.outgoing.filter (fun (x : Outgoing) => x != o)
  let drop := s.updDict (fun d => { d with outgoing := rest })
  let st := statusOf f.status
  if st = .busy then (if o.index = 0x4104 then drop else drop.writeLong o.port o.dest o.index o.sub o.data)
  else if st ≠ .ok then (if o.index = 0x4102 then drop.datumDone st s.agree.datum.epoch else drop)
  else
    let y : Outgoing := if o.session = 0 then { o with session := f.session } else { o with next := o.next + 1 }
    if o.session ≠ 0 ∧ o.data.length ≤ 112 * y.next then
      (if o.index = 0x4102 then drop.readFrom o.dest 0x4103 0 else drop)
    else (drop.updDict (fun d => { d with outgoing := rest ++ [y] })).mgmtBy o.port o.dest y.segment

/-- The request a response answers has its type. -/
def answers (f : Frame) (ftype : Nat) : Bool := f.ftype == ftype + 0x80 || f.ftype == 0xFF

/-- RESPONSE_FRAME (21 R770, R783): a response from a die completes a relay, a write or a read of this die's. -/
def execResponseFrame (src : U16) (frame : List Byte) (s : State) : Out :=
  .next (
    let d := src.toNat
    let raw := padTo 128 frame
    let f := frameOf raw
    if s.mute ∨ !f.isResponse then s
    else
      let s := match s.fab.arrived.find? (fun (m : Msg) => m.op == 0x30 && m.src == d && m.payload == raw) with
        | some m => s.take m
        | none => s
      let relayed := match s.dict.relay with
        | some r => (let q := frameOf r.frame
                     r.target == d && answers f q.ftype && f.index == q.index && f.sub == q.sub && (q.session == 0 || f.session == q.session))
        | none => false
      if relayed then (s.updDict (fun d => { d with relay := none })).deliverFrame (.window 0) raw
      else match s.dict.outgoing.find? (fun (o : Outgoing) => o.dest == d && o.index == f.index && o.sub == f.sub
          && (if o.session = 0 then answers f 0x12 else answers f 0x13 && f.session == o.session)) with
        | some o => s.writeAnswer o f
        | none => match s.dict.readings.find? (fun (r : Reading) => r.dest == d && r.index == f.index && r.sub == f.sub
            && (if r.session = 0 then answers f 0x10 else answers f 0x14 && f.session == r.session)) with
          | some r => s.readAnswer r f
          | none => s)

/-! ## The I3C sideband target (21 R784, 23 R828) -/

/-- I3C_PRIVATE_READ: the response held ready, or one zero byte. -/
def execI3cPrivateRead (s : State) : Out :=
  .next (
    if s.mute then s
    else if s.dict.i3c.ready then
      (s.give s.dict.i3c.rsp).updDict (fun d => { d with i3c := { d.i3c with rsp := [], ready := false } })
    else s.give [0])

/-- ENTDAA: the dynamic address. -/
def execEntdaa (addr : BitVec 7) (s : State) : Out :=
  .next (if s.mute then s else (s.updDict (fun d => { d with i3c := { d.i3c with addr := some addr.toNat } })).answer .ok)

/-- GETMWL: 128 bytes, most significant byte first. -/
def execGetmwl (s : State) : Out := .next (if s.mute then s else s.give [0x00, 0x80])
/-- GETMRL: 128 bytes, most significant byte first. -/
def execGetmrl (s : State) : Out := .next (if s.mute then s else s.give [0x00, 0x80])

/-- The provisional ID: 48 bits (23 R828). -/
def State.pid (s : State) : Nat := 0x2B3B * 2 ^ 33 + 2 ^ 32 + s.serial % 2 ^ 32

/-- GETPID: most significant byte first. -/
def execGetpid (s : State) : Out := .next (if s.mute then s else s.give (leBytes 6 s.pid).reverse)
/-- GETBCR. -/
def execGetbcr (s : State) : Out := .next (if s.mute then s else s.give [0x06])
/-- GETDCR. -/
def execGetdcr (s : State) : Out := .next (if s.mute then s else s.give [0x00])

end Sys2Proof.Machine
end

