-- ==== Sys2Proof/Machine/HostPort.lean ====
section
/-! DEFINITION. The host attach: reads and writes of device memory and of the windows, completions of the device's own requests, and the
burst guard (01 R34; 07 R245-R249; 10 R370, R394-R397; 13 R474; 18 R679, R688, R693; 21 R771). -/
namespace Sys2Proof.Machine
open Sys2Proof

/-- The attach carries requests: it has trained (18 ST06, ST07). -/
def State.attached (s : State) : Bool :=
  s.awake && s.start.env.farEnd && s.start.env.linkUp && !(s.start.phase == .starting && decide (s.start.step < 7))

/-- The boot window is readable and writable (18 R688). -/
def State.bootOpen (s : State) : Bool :=
  s.start.phase == .starting && decide (7 ≤ s.start.step ∧ s.start.step ≤ 15) && s.start.env.bootHost

/-! ## The windows (01 R34) -/

/-- The fields of the windows that an aligned 4-byte read returns (10 Table 10.3, 13 R474, 21 Table 21.3). Others read 0. -/
def State.windowWord (s : State) (a : Nat) : Nat :=
  let off := a % 4096
  if a < 0x400000 then
    let x := s.queue (a / 4096)
    if off = 8 then x.cplHead.toNat else if off = 0x10 then x.descHead.toNat else if off = 0x18 then x.cplTail.toNat
    else if off = 0x20 then x.st.code else 0
  else if a < 0x410000 then
    let x := s.streams.rd ((a - 0x400000) / 4096)
    if off = 0x10 then x.srcHead.toNat else if off = 0x20 then s.streamCode x else 0
  else if 0x440000 ≤ a ∧ a < 0x450000 then
    let w := s.dict.windows.rd ((a - 0x440000) / 4096)
    if 0x100 ≤ off ∧ off < 0x180 then field (padTo 128 w.rsp) (off - 0x100) 4
    else if off = 0x180 then w.rspSeq.toNat else if off = 0x184 then w.stale.toNat else 0
  else 0

/-- The boot window's request fields (18 Table 18.4). -/
def Boot.request (b : Boot) : List Byte :=
  leBytes 4 b.reqSeq.toNat ++ leBytes 1 b.kind ++ leBytes 1 b.slot ++ leBytes 2 0 ++ leBytes 4 b.offset ++ leBytes 4 b.length

/-- Read bytes of the windows. -/
def State.windowRead (s : State) (a len : Nat) : List Byte :=
  if 0x480000 ≤ a ∧ a < 0x491000 then (if s.bootOpen then padTo len ((s.start.boot.request).drop (a - 0x480000)) else padTo len [])
  else if len = 4 ∧ a % 4 = 0 then leBytes 4 (s.windowWord a)
  else padTo len []

/-- A write in the boot window (18 Table 18.4, R689): a write of RESP_SEQ answers the request. -/
def State.bootWrite (s : State) (off : Nat) (data : List Byte) : State :=
  let upd (f : Boot → Boot) : State := s.updStart (fun x => { x with boot := f x.boot })
  if 0x1000 ≤ off then upd (fun b => { b with buf := memWrite b.buf (off - 0x1000) (data.take (0x11000 - off)) })
  else if off = 0x40 ∧ data.length = 4 then
    s.bootAnswer (BitVec.ofNat 32 (leNat data)) s.start.boot.respStatus s.start.boot.respLength
      (memRead s.start.boot.buf 0 (Nat.min s.start.boot.respLength 65536))
  else if off = 0x44 then upd (fun b => { b with respStatus := field data 0 1 })
  else if off = 0x48 ∧ data.length = 4 then upd (fun b => { b with respLength := leNat data })
  else s

/-- An aligned 4-byte write of a mailbox window (21 Table 21.3). -/
def State.mailWrite (s : State) (w off : Nat) (data : List Byte) : State :=
  if s.mute then s
  else if off < 0x80 then
    s.updDict (fun d => { d with windows := d.windows.upd w (fun x =>
      let r := padTo 128 x.req
      { x with req := r.take off ++ data ++ r.drop (off + 4) }) })
  else if off = 0x80 then s.submit w
  else s

/-- Write bytes in the windows: doorbells, mailbox fields and the boot window; anything else is ignored (01 R34, 10 R370, 21 R771). -/
def State.windowWrite (s : State) (a : Nat) (data : List Byte) : State :=
  let off := a % 4096
  let v : U32 := BitVec.ofNat 32 (leNat data)
  if 0x480000 ≤ a ∧ a < 0x491000 then (if s.bootOpen then s.bootWrite (a - 0x480000) data else s)
  else if data.length ≠ 4 ∨ a % 4 ≠ 0 then s
  else if a < 0x400000 then
    (if off = 0 then s.ringTail (a / 4096) v else if off = 8 then s.setCplHead (a / 4096) v else s)
  else if a < 0x410000 then (if off = 0 then s.ringSource ((a - 0x400000) / 4096) v else s)
  else if 0x440000 ≤ a ∧ a < 0x450000 then s.mailWrite ((a - 0x440000) / 4096) off data
  else s

/-! ## Device memory (07 R245, R246, R249; 10 R395; 18 R693) -/

/-- A burst breaks its bounds on the host link (10 R395). -/
def State.badBurst (s : State) (a len : Nat) : Bool :=
  s.straps.hostLink && decide (a % 128 ≠ 0 ∨ a % 2048 + len > 2048 ∨ len = 0 ∨ len % 128 ≠ 0)

/-- A host request to memory waits for the start (18 R693). -/
def State.memoryWaits (s : State) : Bool := s.start.phase == .starting && decide (s.start.step ≤ 42)

/-- What a host access of memory is refused with. -/
def State.hostBar (s : State) (a len : Nat) : Option Status :=
  if !s.paReaches a len then some .faulted else if !s.paAllowed .host a len then some .denied else none

/-- A piece of LOCAL memory. -/
def locPiece (a len : Nat) : Piece := { back := .loc, addr := a, len := len, nocache := false, dva := a }

/-- A completion to a host master. -/
def State.complete' (s : State) (agent tag : Nat) (st : Status) (data : List Byte) : State := s.send (.cmp agent tag st data)

/-- A read that has been answered leaves those that wait. -/
def State.dropRead (s : State) (agent tag : Nat) : State :=
  { s with link := { s.link with reads := s.link.reads.filter (fun (r : PendingRead) => !(r.agent == agent && r.tag == tag)) } }

/-- A read of memory, a home read that snoops an owner and goes on when the row is taken again (07 R249, R258). -/
def State.hostRead (s : State) (agent tag a len : Nat) : State :=
  let keep (s : State) : State :=
    let r : PendingRead := { agent := agent, tag := tag, addr := a, len := len }
    { s with link := { s.link with reads := (s.dropRead agent tag).link.reads ++ [r] } }
  let give (s : State) (st : Status) (b : List Byte) : State := (s.dropRead agent tag).complete' agent tag st b
  if s.badBurst a len then give s .unsupported []
  else if s.memoryWaits then keep s
  else match s.hostBar a len with
    | some st => give s st []
    | none => match s.readPiece .host (locPiece a len) with
      | .ok b s => give s .ok b
      | .wait s => keep s
      | .fail st _ => give s st []
      | .remote _ _ => give s .unsupported []

/-- MRD (10 R394, R395): a read of device memory or of a window. -/
def execMrd (agent : Fin 16) (tag : BitVec 12) (window : Bool) (addr len : Nat) (s : State) : Out :=
  .next (
    if !s.attached then s
    else if window then s.complete' agent tag.toNat .ok (s.windowRead addr len)
    else s.hostRead agent tag.toNat addr len)

/-- Write the lines of a burst in order from a beat on: each one a line write (10 R396); the number of beats written. -/
def writeBeats (a : Nat) : List Byte → Nat → Nat → State → State × Nat
  | _, _, 0, s => (s, 0)
  | bs, k, n + 1, s =>
      match s.writePiece .host (locPiece (a + 128 * k) 128) (slice bs (128 * k) 128) with
      | .ok _ s =>
          let (s, m) := writeBeats a bs (k + 1) n s
          (s, m + 1)
      | .wait s => (s, 0)
      | _ => (s, 0)

/-- A burst in progress. -/
def State.burst (s : State) (agent a : Nat) : Option Burst := s.link.bursts.find? (fun (b : Burst) => b.agent == agent && b.addr == a)

/-- A full-line write burst (10 R395, R396): the beats received so far stand; the burst is done when the last one does. -/
def State.hostBurst (s : State) (agent tag a beats : Nat) (data : List Byte) : State :=
  let done := match s.burst agent a with | some b => b.received | none => 0
  let rest := s.link.bursts.filter (fun (b : Burst) => !(b.agent == agent && b.addr == a))
  let got := Nat.min beats (data.length / 128)
  if s.badBurst a (128 * beats) ∨ beats > 16 then s.complete' agent tag .unsupported []
  else if s.memoryWaits then s
  else match s.hostBar a (128 * beats) with
    | some st => s.complete' agent tag st []
    | none =>
        let (s, n) := writeBeats a data done (got - done) s
        if done + n = beats then ({ s with link := { s.link with bursts := rest } }).complete' agent tag .ok []
        else
          let b : Burst := { agent := agent, addr := a, beats := beats, received := done + n }
          { s with link := { s.link with bursts := rest ++ [b] } }

/-- MWR (10 R394, R395): a full-line write burst of BEATS beats; the data are those received so far. -/
def execMwr (agent : Fin 16) (tag : BitVec 12) (window : Bool) (addr : Nat) (beats : Fin 17) (data : List Byte) (s : State) : Out :=
  .next (
    if !s.attached then s
    else if window then
      if s.badBurst addr (128 * beats.val) then s.complete' agent tag.toNat .unsupported []
      else (s.windowWrite addr (data.take (128 * beats.val))).complete' agent tag.toNat .ok []
    else s.hostBurst agent tag.toNat addr beats.val data)

/-- A partial write of memory within a line. -/
def State.hostPartial (s : State) (agent tag a : Nat) (data : List Byte) : State :=
  if data.length = 0 ∨ data.length > 64 ∨ a % 128 + data.length > 128 then s.complete' agent tag .unsupported []
  else if s.memoryWaits then s
  else match s.hostBar a data.length with
    | some st => s.complete' agent tag st []
    | none => match s.writePiece .host (locPiece a data.length) data with
      | .ok _ s => s.complete' agent tag .ok []
      | .wait s => s
      | .fail st _ => s.complete' agent tag st []
      | .remote _ _ => s.complete' agent tag .unsupported []

/-- MWR_P (10 R394, R395): a partial write of 1-64 bytes, a doorbell among them, applied whole. -/
def execMwrP (agent : Fin 16) (tag : BitVec 12) (window : Bool) (addr : Nat) (data : List Byte) (s : State) : Out :=
  .next (
    if !s.attached then s
    else if window then
      if data.length = 0 ∨ data.length > 64 then s.complete' agent tag.toNat .unsupported []
      else (s.windowWrite addr data).complete' agent tag.toNat .ok []
    else s.hostPartial agent tag.toNat addr data)

/-- CMP (10 R394): the data of a device's read of HOST memory as its completion delivers them; a write's status and a failed read deliver
none. -/
def execCmp (_agent : Fin 16) (_tag : BitVec 12) (status : Byte) (addr : Nat) (data : List Byte) (s : State) : Out :=
  .next (
    if !s.attached ∨ status ≠ 0 ∨ data.isEmpty then s
    else { s with mem := { s.mem with host := memWrite s.mem.host addr data } })

/-! ## The burst guard (10 R396, R397) -/

/-- Actions 1 and 2: its unfinished bursts end in null beats, and its reads are dropped. -/
def State.guardBursts (s : State) (h : Nat) : State :=
  let mine := s.link.bursts.filter (fun (b : Burst) => b.agent == h)
  let s := { s with link := { s.link with
    bursts := s.link.bursts.filter (fun (b : Burst) => b.agent != h)
    reads := s.link.reads.filter (fun (r : PendingRead) => r.agent != h) } }
  let isl := if s.straps.hostLink then 69 else 70
  mine.foldl (fun (s : State) b => s.emit isl 0x340 0xFF (b.beats - b.received)) s

/-- Actions 4 and 5 on a line: its requests go without a grant, a transaction of its own in service gives it nothing, and it holds the
line no longer. -/
def DirLine.forget (d : DirLine) (h : Nat) : DirLine :=
  let a : Agent := .host h
  { d with
    queue := d.queue.filter (fun (x : DirReq × Agent) => x.2 != a)
    st := match d.st with
      | .owned k => if k = h then .uncached else .owned k
      | .shared hs => if (hs.filter (· ≠ a)).isEmpty then .uncached else .shared (hs.filter (· ≠ a))
      | .uncached => .uncached
    txn := d.txn.map (fun t =>
      if t.agent = some a then { t with agent := none, req := (if t.req = .rdS then .homeRead else .backInval), granted := false } else t) }

/-- A line's transaction whose agent is gone and that awaits no snoop ends; else the master's snoop is answered ACK (action 3). -/
def State.settleLine (s : State) (h l : Nat) : State :=
  match (s.dirLine l).txn with
  | none => s.pumpLine l
  | some t =>
      if t.agent.isNone ∧ t.awaiting.isEmpty then s.endTxn l
      else if t.awaiting.contains (.host h) then s.snoopDone (.host h) l
      else s

/-- The burst guard for one host master. -/
def State.guard (s : State) (h : Nat) : State :=
  let s := s.guardBursts h
  let lost := (s.mem.dir.filter (fun (e : Nat × DirLine) => e.2.st == .owned h)).length
  let lines := s.mem.dir.map Prod.fst
  let s := { s with mem := { s.mem with dir := s.mem.dir.updListed (fun _ d => d.forget h) } }
  let s := lines.foldl (fun (s : State) l => s.settleLine h l) s
  if lost = 0 then s else s.emit (if s.straps.hostLink then 69 else 70) 0x341 0xFF lost

/-- The guard for every host master. -/
def State.guardAll (s : State) : State := (List.range 16).foldl (fun (s : State) h => s.guard h) s

/-- AGENT_RESET (10 R396). -/
def execAgentReset (h : Fin 16) (s : State) : Out := .next (if s.attached && s.straps.hostLink then s.guard h else s)

/-- LINK_RESET (10 R389, R396; 18 R675, R679). -/
def execLinkReset (linkUp : Bool) (s : State) : Out :=
  .next (
    if s.attached && s.straps.hostLink then s.guardAll.truncateHost.updStart (fun x => { x with env := { x.env with linkUp := linkUp } }) else s)

/-- ATTACH_RESET (10 R389, R396; 18 R675, R679): the guard runs for every master and the attach retrains as ST06 and ST07 would; the wake signal of a
link that had to be woken ends with it. -/
def execAttachReset (linkUp : Bool) (s : State) : Out :=
  .next (
    if !s.awake then s
    else
      let s := s.guardAll.truncateHost
      let s := s.updStart (fun x => { x with env := { x.env with linkUp := linkUp } })
      if linkUp then s.updPower (fun p => { p with wakeOut := false }) else s)

end Sys2Proof.Machine
end

