-- ==== Sys2Proof/Machine/Dispatch.lean ====
section
/-! DEFINITION. The dispatch of commands: one arm per constructor of `Instr`. -/
namespace Sys2Proof.Machine
open Sys2Proof

/-- The effect of a command on everything but the queue of waiting commands. -/
def exec (i : Instr) (s : State) : Host.Outcome State Fault Refusal :=
  match i with
  | .islandFreqTargetWrite by' isl v => Sys2Proof.Machine.execIslandFreqTargetWrite by' isl v s
  | .islandSagReport isl => Sys2Proof.Machine.execIslandSagReport isl s
  | .islandReset isl n => Sys2Proof.Machine.execIslandReset isl n s
  | .timingErrorReplay n => Sys2Proof.Machine.execTimingErrorReplay n s
  | .replayWindowEnd n => Sys2Proof.Machine.execReplayWindowEnd n s
  | .tripleFlag n => Sys2Proof.Machine.execTripleFlag n s
  | .stepUpComplete n => Sys2Proof.Machine.execStepUpComplete n s
  | .instructionIssue n => Sys2Proof.Machine.execInstructionIssue n s
  | .writerClaim q k => Sys2Proof.Machine.execWriterClaim q k s
  | .accumulatorDrainDone n h => Sys2Proof.Machine.execAccumulatorDrainDone n h s
  | .simmerRampDown n => Sys2Proof.Machine.execSimmerRampDown n s
  | .engineStop n => Sys2Proof.Machine.execEngineStop n s
  | .taskStart n => Sys2Proof.Machine.execTaskStart n s
  | .endTask n => Sys2Proof.Machine.execEndTask n s
  | .loop n => Sys2Proof.Machine.execLoop n s
  | .nop n => Sys2Proof.Machine.execNop n s
  | .mm n => Sys2Proof.Machine.execMm n s
  | .mma n => Sys2Proof.Machine.execMma n s
  | .vec n => Sys2Proof.Machine.execVec n s
  | .fsig n => Sys2Proof.Machine.execFsig n s
  | .fwait n => Sys2Proof.Machine.execFwait n s
  | .semacq n => Sys2Proof.Machine.execSemacq n s
  | .semrel n => Sys2Proof.Machine.execSemrel n s
  | .fence n => Sys2Proof.Machine.execFence n s
  | .fenceComplete n => Sys2Proof.Machine.execFenceComplete n s
  | .alProfileWrite by' level int8T int4T fpExp margin limit reserved => Sys2Proof.Machine.execAlProfileWrite by' level int8T int4T fpExp margin limit reserved s
  | .parcelAlCapWrite by' p v => Sys2Proof.Machine.execParcelAlCapWrite by' p v s
  | .voltageReached n => Sys2Proof.Machine.execVoltageReached n s
  | .teSegmentsWrite by' p v => Sys2Proof.Machine.execTeSegmentsWrite by' p v s
  | .teNodeWaysWrite by' p v => Sys2Proof.Machine.execTeNodeWaysWrite by' p v s
  | .treeLoad q => Sys2Proof.Machine.execTreeLoad q s
  | .treeRun q => Sys2Proof.Machine.execTreeRun q s
  | .teSampleAdmit p bad => Sys2Proof.Machine.execTeSampleAdmit p bad s
  | .teNodeReturn p slot => Sys2Proof.Machine.execTeNodeReturn p slot s
  | .teBackgroundCheck bad => Sys2Proof.Machine.execTeBackgroundCheck bad s
  | .rdS h line => Sys2Proof.Machine.execRdS h line s
  | .rdO h line => Sys2Proof.Machine.execRdO h line s
  | .upg h line => Sys2Proof.Machine.execUpg h line s
  | .wb h line data => Sys2Proof.Machine.execWb h line data s
  | .evict h line => Sys2Proof.Machine.execEvict h line s
  | .ack h line => Sys2Proof.Machine.execAck h line s
  | .ackD h line data => Sys2Proof.Machine.execAckD h line data s
  | .gntAck h line => Sys2Proof.Machine.execGntAck h line s
  | .snoopSlow h line us => Sys2Proof.Machine.execSnoopSlow h line us s
  | .hostDcWaysWrite by' v => Sys2Proof.Machine.execHostDcWaysWrite by' v s
  | .sramPatrol data check bad => Sys2Proof.Machine.execSramPatrol data check bad s
  | .mcPatrol c data check bad => Sys2Proof.Machine.execMcPatrol c data check bad s
  | .xlatConfigWrite by' p mode tableKind count reserved base apBase apLen apOff => Sys2Proof.Machine.execXlatConfigWrite by' p mode tableKind count reserved base apBase apLen apOff s
  | .faultRingWrite by' base kind log2 tail => Sys2Proof.Machine.execFaultRingWrite by' base kind log2 tail s
  | .faultRingHeadWrite by' v => Sys2Proof.Machine.execFaultRingHeadWrite by' v s
  | .faultRecordDelivery => Sys2Proof.Machine.execFaultRecordDelivery s
  | .faultResponseRetry by' seq => Sys2Proof.Machine.execFaultResponseRetry by' seq s
  | .faultResponseFail by' seq => Sys2Proof.Machine.execFaultResponseFail by' seq s
  | .shootdown by' parcel force reserved tag start len => Sys2Proof.Machine.execShootdown by' parcel force reserved tag start len s
  | .shootdownComplete => Sys2Proof.Machine.execShootdownComplete s
  | .prefetchMigrate q => Sys2Proof.Machine.execPrefetchMigrate q s
  | .prefetchWarm q => Sys2Proof.Machine.execPrefetchWarm q s
  | .adviseNormal q => Sys2Proof.Machine.execAdviseNormal q s
  | .adviseStream q => Sys2Proof.Machine.execAdviseStream q s
  | .adviseKeep q => Sys2Proof.Machine.execAdviseKeep q s
  | .adviseDrop q => Sys2Proof.Machine.execAdviseDrop q s
  | .semForceAbandon by' n => Sys2Proof.Machine.execSemForceAbandon by' n s
  | .queueOpen by' q => Sys2Proof.Machine.execQueueOpen by' q s
  | .queueClose by' q => Sys2Proof.Machine.execQueueClose by' q s
  | .queueReset by' q => Sys2Proof.Machine.execQueueReset by' q s
  | .doorbell q v => Sys2Proof.Machine.execDoorbell q v s
  | .cplHeadWrite q v => Sys2Proof.Machine.execCplHeadWrite q v s
  | .commandConsume q => Sys2Proof.Machine.execCommandConsume q s
  | .nopCommand q => Sys2Proof.Machine.execNopCommand q s
  | .run q => Sys2Proof.Machine.execRun q s
  | .firstFreePlacement p => Sys2Proof.Machine.execFirstFreePlacement p s
  | .dmaIn q k => Sys2Proof.Machine.execDmaIn q k s
  | .dmaOut q k => Sys2Proof.Machine.execDmaOut q k s
  | .copy q k => Sys2Proof.Machine.execCopy q k s
  | .atomic q k => Sys2Proof.Machine.execAtomic q k s
  | .semAcq q k => Sys2Proof.Machine.execSemAcq q k s
  | .semRel q k => Sys2Proof.Machine.execSemRel q k s
  | .ring q k => Sys2Proof.Machine.execRing q k s
  | .rowIn q k => Sys2Proof.Machine.execRowIn q k s
  | .rowOut q k => Sys2Proof.Machine.execRowOut q k s
  | .rowHist q k => Sys2Proof.Machine.execRowHist q k s
  | .commandComplete q => Sys2Proof.Machine.execCommandComplete q s
  | .completionDelivery q => Sys2Proof.Machine.execCompletionDelivery q s
  | .watchdogExpiry q => Sys2Proof.Machine.execWatchdogExpiry q s
  | .mrd agent tag window addr len => Sys2Proof.Machine.execMrd agent tag window addr len s
  | .mwr agent tag window addr beats data => Sys2Proof.Machine.execMwr agent tag window addr beats data s
  | .mwrP agent tag window addr data => Sys2Proof.Machine.execMwrP agent tag window addr data s
  | .cmp agent tag status addr data => Sys2Proof.Machine.execCmp agent tag status addr data s
  | .agentReset h => Sys2Proof.Machine.execAgentReset h s
  | .linkReset linkUp => Sys2Proof.Machine.execLinkReset linkUp s
  | .attachReset linkUp => Sys2Proof.Machine.execAttachReset linkUp s
  | .platRequest by' data => Sys2Proof.Machine.execPlatRequest by' data s
  | .platClearDone => Sys2Proof.Machine.execPlatClearDone s
  | .jobCreate by' parcel slot reserved qFirst qCount image save saveBytes => Sys2Proof.Machine.execJobCreate by' parcel slot reserved qFirst qCount image save saveBytes s
  | .jobDestroy by' parcel slot reserved => Sys2Proof.Machine.execJobDestroy by' parcel slot reserved s
  | .jobSuspend by' parcel slot reserved => Sys2Proof.Machine.execJobSuspend by' parcel slot reserved s
  | .jobResume by' parcel slot reserved => Sys2Proof.Machine.execJobResume by' parcel slot reserved s
  | .jobFault by' parcel slot reserved => Sys2Proof.Machine.execJobFault by' parcel slot reserved s
  | .sliceExpiry p => Sys2Proof.Machine.execSliceExpiry p s
  | .graceExpiry p => Sys2Proof.Machine.execGraceExpiry p s
  | .jobBoundary p => Sys2Proof.Machine.execJobBoundary p s
  | .switchInComplete p => Sys2Proof.Machine.execSwitchInComplete p s
  | .caddyQuotaWrite by' p v => Sys2Proof.Machine.execCaddyQuotaWrite by' p v s
  | .caddyBind q => Sys2Proof.Machine.execCaddyBind q s
  | .seqOpen q => Sys2Proof.Machine.execSeqOpen q s
  | .seqAppend q => Sys2Proof.Machine.execSeqAppend q s
  | .seqFeed q => Sys2Proof.Machine.execSeqFeed q s
  | .seqClose q => Sys2Proof.Machine.execSeqClose q s
  | .caddyUnbind q => Sys2Proof.Machine.execCaddyUnbind q s
  | .caddyStepDispatch q => Sys2Proof.Machine.execCaddyStepDispatch q s
  | .caddyStepResults q => Sys2Proof.Machine.execCaddyStepResults q s
  | .streamConfigWrite by' n parcel source kind log2 jobId entryBytes reserved ring srcRing srcLog2 weight reserved2 => Sys2Proof.Machine.execStreamConfigWrite by' n parcel source kind log2 jobId entryBytes reserved ring srcRing srcLog2 weight reserved2 s
  | .streamOpen by' n => Sys2Proof.Machine.execStreamOpen by' n s
  | .streamClose by' n => Sys2Proof.Machine.execStreamClose by' n s
  | .srcTailWrite n v => Sys2Proof.Machine.execSrcTailWrite n v s
  | .streamEntryDelivery n => Sys2Proof.Machine.execStreamEntryDelivery n s
  | .consRecheck n => Sys2Proof.Machine.execConsRecheck n s
  | .kettleProgramLoad by' image => Sys2Proof.Machine.execKettleProgramLoad by' image s
  | .kettleTargetWrite by' parcel wakeEngines => Sys2Proof.Machine.execKettleTargetWrite by' parcel wakeEngines s
  | .listen by' => Sys2Proof.Machine.execListen by' s
  | .stop by' => Sys2Proof.Machine.execStop by' s
  | .melFrame samples => Sys2Proof.Machine.execMelFrame samples s
  | .vectorRun => Sys2Proof.Machine.execVectorRun s
  | .kettleEnd => Sys2Proof.Machine.execKettleEnd s
  | .matvec => Sys2Proof.Machine.execMatvec s
  | .bias => Sys2Proof.Machine.execBias s
  | .req => Sys2Proof.Machine.execReq s
  | .relu => Sys2Proof.Machine.execRelu s
  | .maxp => Sys2Proof.Machine.execMaxp s
  | .kettleCopy => Sys2Proof.Machine.execKettleCopy s
  | .score => Sys2Proof.Machine.execScore s
  | .kettleWakeSequence tagOk linkUp env => Sys2Proof.Machine.execKettleWakeSequence tagOk linkUp env s
  | .sensorPoll k acked v => Sys2Proof.Machine.execSensorPoll k acked v s
  | .sensorIbi k v => Sys2Proof.Machine.execSensorIbi k v s
  | .kwakeEdge pin level => Sys2Proof.Machine.execKwakeEdge pin level s
  | .debounceExpiry pin => Sys2Proof.Machine.execDebounceExpiry pin s
  | .kettleEntryReady o => Sys2Proof.Machine.execKettleEntryReady o s
  | .flitReceive p bytes => Sys2Proof.Machine.execFlitReceive p bytes s
  | .recordCloseTimeout p => Sys2Proof.Machine.execRecordCloseTimeout p s
  | .creditSendTimer p => Sys2Proof.Machine.execCreditSendTimer p s
  | .idle p ack => Sys2Proof.Machine.execIdle p ack s
  | .credit p totals => Sys2Proof.Machine.execCredit p totals s
  | .nak p fseq => Sys2Proof.Machine.execNak p fseq s
  | .resetNotice p => Sys2Proof.Machine.execResetNotice p s
  | .retrainReq p speed => Sys2Proof.Machine.execRetrainReq p speed s
  | .auth p msg part count data rcvd => Sys2Proof.Machine.execAuth p msg part count data rcvd s
  | .authResendTimer p => Sys2Proof.Machine.execAuthResendTimer p s
  | .linkAuthComplete p => Sys2Proof.Machine.execLinkAuthComplete p s
  | .linkAuthTimeout p => Sys2Proof.Machine.execLinkAuthTimeout p s
  | .keyPhaseSwitch p => Sys2Proof.Machine.execKeyPhaseSwitch p s
  | .portDetect p found => Sys2Proof.Machine.execPortDetect p found s
  | .portEqualize p ok => Sys2Proof.Machine.execPortEqualize p ok s
  | .laneMap p ok goodTx goodRx spareTx spareRx => Sys2Proof.Machine.execLaneMap p ok goodTx goodRx spareTx spareRx s
  | .linkInit p frameOk die port fabricId epoch => Sys2Proof.Machine.execLinkInit p frameOk die port fabricId epoch s
  | .portRetrain p failTx failRx corrected uncorr => Sys2Proof.Machine.execPortRetrain p failTx failRx corrected uncorr s
  | .linkLoss p => Sys2Proof.Machine.execLinkLoss p s
  | .routeTableWrite by' first entries => Sys2Proof.Machine.execRouteTableWrite by' first entries s
  | .rd m => Sys2Proof.Machine.execRd m s
  | .wr m => Sys2Proof.Machine.execWr m s
  | .wrm m => Sys2Proof.Machine.execWrm m s
  | .atom m => Sys2Proof.Machine.execAtom m s
  | .sem m => Sys2Proof.Machine.execSem m s
  | .ringMessage m => Sys2Proof.Machine.execRingMessage m s
  | .brd m => Sys2Proof.Machine.execBrd m s
  | .bwr m => Sys2Proof.Machine.execBwr m s
  | .swr m => Sys2Proof.Machine.execSwr m s
  | .cseg m => Sys2Proof.Machine.execCseg m s
  | .cabort m => Sys2Proof.Machine.execCabort m s
  | .rdr m => Sys2Proof.Machine.execRdr m s
  | .slAck m => Sys2Proof.Machine.execSlAck m s
  | .atomr m => Sys2Proof.Machine.execAtomr m s
  | .semr m => Sys2Proof.Machine.execSemr m s
  | .txnTimeout t => Sys2Proof.Machine.execTxnTimeout t s
  | .tagReleaseTimeout t => Sys2Proof.Machine.execTagReleaseTimeout t s
  | .collConfigWrite by' c kind op type parcel root reserved result length reserved2 => Sys2Proof.Machine.execCollConfigWrite by' c kind op type parcel root reserved result length reserved2 s
  | .beacon p data => Sys2Proof.Machine.execBeacon p data s
  | .beaconTimer => Sys2Proof.Machine.execBeaconTimer s
  | .beaconStale p => Sys2Proof.Machine.execBeaconStale p s
  | .datumPropose by' data => Sys2Proof.Machine.execDatumPropose by' data s
  | .datumAdoption => Sys2Proof.Machine.execDatumAdoption s
  | .noticeReport src data => Sys2Proof.Machine.execNoticeReport src data s
  | .lostProbeTimeout die => Sys2Proof.Machine.execLostProbeTimeout die s
  | .notice m => Sys2Proof.Machine.execNotice m s
  | .datumAnnounce m => Sys2Proof.Machine.execDatumAnnounce m s
  | .jobRecord src slot data => Sys2Proof.Machine.execJobRecord src slot data s
  | .switchDone src data => Sys2Proof.Machine.execSwitchDone src data s
  | .syncTimer => Sys2Proof.Machine.execSyncTimer s
  | .syncReq m => Sys2Proof.Machine.execSyncReq m s
  | .syncResp m => Sys2Proof.Machine.execSyncResp m s
  | .announce m => Sys2Proof.Machine.execAnnounce m s
  | .benchAnnounceTimer => Sys2Proof.Machine.execBenchAnnounceTimer s
  | .benchImport by' v => Sys2Proof.Machine.execBenchImport by' v s
  | .parentTimeout => Sys2Proof.Machine.execParentTimeout s
  | .ondieClosurePass stalled => Sys2Proof.Machine.execOndieClosurePass stalled s
  | .fabricClosurePass => Sys2Proof.Machine.execFabricClosurePass s
  | .close m => Sys2Proof.Machine.execClose m s
  | .closureLate fabric => Sys2Proof.Machine.execClosureLate fabric s
  | .debugOwner by' tag reserved arg => Sys2Proof.Machine.execDebugOwner by' tag reserved arg s
  | .debugVendor by' tag reserved arg => Sys2Proof.Machine.execDebugVendor by' tag reserved arg s
  | .ownerEnroll by' tag reserved arg => Sys2Proof.Machine.execOwnerEnroll by' tag reserved arg s
  | .keyRevoke by' tag reserved arg => Sys2Proof.Machine.execKeyRevoke by' tag reserved arg s
  | .svnAdvance by' tag reserved arg => Sys2Proof.Machine.execSvnAdvance by' tag reserved arg s
  | .fuseRepair by' tag reserved arg => Sys2Proof.Machine.execFuseRepair by' tag reserved arg s
  | .rma by' tag reserved arg => Sys2Proof.Machine.execRma by' tag reserved arg s
  | .answer by' data => Sys2Proof.Machine.execAnswer by' data s
  | .challengeDeadline k => Sys2Proof.Machine.execChallengeDeadline k s
  | .debugLock by' v => Sys2Proof.Machine.execDebugLock by' v s
  | .sealOffer by' p data => Sys2Proof.Machine.execSealOffer by' p data s
  | .sealKeyReady p => Sys2Proof.Machine.execSealKeyReady p s
  | .attestRequest by' nonce => Sys2Proof.Machine.execAttestRequest by' nonce s
  | .attestReportReady => Sys2Proof.Machine.execAttestReportReady s
  | .powerRequest by' v => Sys2Proof.Machine.execPowerRequest by' v s
  | .hostWake tagOk env => Sys2Proof.Machine.execHostWake tagOk env s
  | .governorTick nj => Sys2Proof.Machine.execGovernorTick nj s
  | .boostEnableWrite by' v => Sys2Proof.Machine.execBoostEnableWrite by' v s
  | .sagStageEnter droop ns => Sys2Proof.Machine.execSagStageEnter droop ns s
  | .sagStageExit peak => Sys2Proof.Machine.execSagStageExit peak s
  | .sagStart env => Sys2Proof.Machine.execSagStart env s
  | .sagN low ns droop => Sys2Proof.Machine.execSagN low ns droop s
  | .vreqAlert low => Sys2Proof.Machine.execVreqAlert low s
  | .engineOffTimeout n => Sys2Proof.Machine.execEngineOffTimeout n s
  | .railPgFall group => Sys2Proof.Machine.execRailPgFall group s
  | .pwrgdFall => Sys2Proof.Machine.execPwrgdFall s
  | .powerOn env => Sys2Proof.Machine.execPowerOn env s
  | .resetRequest by' v env => Sys2Proof.Machine.execResetRequest by' v env s
  | .hostResetInput env => Sys2Proof.Machine.execHostResetInput env s
  | .bootResponse seq status length buf => Sys2Proof.Machine.execBootResponse seq status length buf s
  | .bootData by' data => Sys2Proof.Machine.execBootData by' data s
  | .startStepTimeout => Sys2Proof.Machine.execStartStepTimeout s
  | .startWatchdog env => Sys2Proof.Machine.execStartWatchdog env s
  | .fatalAutoReset env => Sys2Proof.Machine.execFatalAutoReset env s
  | .ledgerClear by' v => Sys2Proof.Machine.execLedgerClear by' v s
  | .portFinalRecord p => Sys2Proof.Machine.execPortFinalRecord p s
  | .eventEntry => Sys2Proof.Machine.execEventEntry s
  | .windowClose => Sys2Proof.Machine.execWindowClose s
  | .tokenRefill code => Sys2Proof.Machine.execTokenRefill code s
  | .fbConfigWrite by' windowMs => Sys2Proof.Machine.execFbConfigWrite by' windowMs s
  | .fbSpillWrite by' enable kind log2 reserved base => Sys2Proof.Machine.execFbSpillWrite by' enable kind log2 reserved base s
  | .selftestDue u => Sys2Proof.Machine.execSelftestDue u s
  | .selftestSegmentEnd u first confirm lanes => Sys2Proof.Machine.execSelftestSegmentEnd u first confirm lanes s
  | .selftestRequest by' kind unit sub => Sys2Proof.Machine.execSelftestRequest by' kind unit sub s
  | .prepareRemoval by' => Sys2Proof.Machine.execPrepareRemoval by' s
  | .cancel by' => Sys2Proof.Machine.execCancel by' s
  | .routerQuiet => Sys2Proof.Machine.execRouterQuiet s
  | .clearSoft by' => Sys2Proof.Machine.execClearSoft by' s
  | .clearMcPending by' => Sys2Proof.Machine.execClearMcPending by' s
  | .read path frame => Sys2Proof.Machine.execRead path frame s
  | .write path frame => Sys2Proof.Machine.execWrite path frame s
  | .writeInit path frame => Sys2Proof.Machine.execWriteInit path frame s
  | .writeSeg path frame => Sys2Proof.Machine.execWriteSeg path frame s
  | .readSeg path frame => Sys2Proof.Machine.execReadSeg path frame s
  | .abort path frame => Sys2Proof.Machine.execAbort path frame s
  | .describe path frame => Sys2Proof.Machine.execDescribe path frame s
  | .registerWrite by' index sub data => Sys2Proof.Machine.execRegisterWrite by' index sub data s
  | .relayTimeout => Sys2Proof.Machine.execRelayTimeout s
  | .sessionIdleTimeout session => Sys2Proof.Machine.execSessionIdleTimeout session s
  | .i3cPrivateRead => Sys2Proof.Machine.execI3cPrivateRead s
  | .entdaa addr => Sys2Proof.Machine.execEntdaa addr s
  | .getmwl => Sys2Proof.Machine.execGetmwl s
  | .getmrl => Sys2Proof.Machine.execGetmrl s
  | .getpid => Sys2Proof.Machine.execGetpid s
  | .getbcr => Sys2Proof.Machine.execGetbcr s
  | .getdcr => Sys2Proof.Machine.execGetdcr s
  | .getVersion by' msg => Sys2Proof.Machine.execGetVersion by' msg s
  | .getCapabilities by' msg => Sys2Proof.Machine.execGetCapabilities by' msg s
  | .negotiateAlgorithms by' msg => Sys2Proof.Machine.execNegotiateAlgorithms by' msg s
  | .getDigests by' msg => Sys2Proof.Machine.execGetDigests by' msg s
  | .getCertificate by' msg => Sys2Proof.Machine.execGetCertificate by' msg s
  | .challenge by' msg => Sys2Proof.Machine.execChallenge by' msg s
  | .getMeasurements by' msg => Sys2Proof.Machine.execGetMeasurements by' msg s
  | .bypass => Sys2Proof.Machine.execBypass s
  | .idcode => Sys2Proof.Machine.execIdcode s
  | .samplePreload sample preload => Sys2Proof.Machine.execSamplePreload sample preload s
  | .extest sample => Sys2Proof.Machine.execExtest sample s
  | .clamp => Sys2Proof.Machine.execClamp s
  | .bootWaitExpiry => Sys2Proof.Machine.execBootWaitExpiry s
  | .junctionTemperatureChange t => Sys2Proof.Machine.execJunctionTemperatureChange t s
  | .fuseProgrammingDone => Sys2Proof.Machine.execFuseProgrammingDone s
  | .domainWakeComplete d => Sys2Proof.Machine.execDomainWakeComplete d s
  | .readTimingDriftLimit c => Sys2Proof.Machine.execReadTimingDriftLimit c s
  | .semRemoteRetry q => Sys2Proof.Machine.execSemRemoteRetry q s
  | .responseFrame src frame => Sys2Proof.Machine.execResponseFrame src frame s
  | .vreqFrameRepeat => Sys2Proof.Machine.execVreqFrameRepeat s
  | .atomicopRequesterEnableChange enable => Sys2Proof.Machine.execAtomicopRequesterEnableChange enable s

end Sys2Proof.Machine
end

