-- ==== Sys2Proof/Safety.lean ====
section
/-! DEFINITION. What a safe run is, the terms statements use, and the invariants they are about. -/
namespace Sys2Proof.Machine
open Sys2Proof

/-- A step from here answers a next state: neither a fault nor a refusal stops the machine. -/
def State.safe (s : State) : Prop := ∃ t, step s = .next t

/-- The die is awake and its start has opened it: every interface serves (18 R703-R707). -/
def State.serving (s : State) : Prop := s.awake = true ∧ s.start.phase = .opened

/-- The canonical form of a byte memory: addresses strictly rising, no entry equal to what an unlisted address reads as. -/
def Memory.wf (m : Tab Byte) : Bool := m.wf

/-- Every memory of the machine is in canonical form: LOCAL, HOST and each scratch slice. -/
def State.memWf (s : State) : Prop :=
  Memory.wf s.mem.loc = true ∧ Memory.wf s.mem.host = true ∧ ∀ n, Memory.wf (s.slc.rd n).bytes = true

/-- A running task has reached an instruction that it fetches and decodes now, the fetch leaving the state `u` (04 R111, R113). -/
def State.atInstr (s : State) (n : Nat) (t : Task) (i : EInstr) (u : State) : Prop :=
  (s.engine n).task = some t ∧ (s.engine n).runs = true ∧ t.started = true ∧ t.issued = none ∧ t.wait = .none ∧
    ∃ w, s.fetchWord t = .ok w u ∧ decodeEngine w = i

/-- An engine's task holds an instruction that has passed the gate and can execute now (03 R83). -/
def State.hasIssued (s : State) (n : Nat) (t : Task) (i : Issued) : Prop :=
  (s.engine n).task = some t ∧ t.issued = some i ∧ (s.engine n).halted = false ∧ (s.engine n).powered = true

/-- The head command `c` of a queue, with a given opcode, starts now for the job in a parcel's slot: `u` is the state as it starts (10 R381,
R388; 11 R413). -/
def State.starts (s : State) (q op p slot : Nat) (c : Cmd) (u : State) : Prop :=
  ∃ c0 v, s.headToStart q op = some (p, slot, c0) ∧
    (s.stepQueue p slot q && c0.gen.isNone && !(decide (0x10 ≤ op ∧ op ≤ 0x15))) = false ∧ s.retransCmd q p slot c0 = (v, true) ∧
    u = v.updCmd q c0.serial (fun c => { c with started := true, watchdogAt := v.now + v.watchdogNs q c.bytes }) ∧
    ∃ cs, (u.queue q).consumed = c :: cs

/-- `State.starts` for the form of an opcode that its first argument byte names (10 Table 10.5). -/
def State.startsForm (s : State) (q op arg p slot : Nat) (c : Cmd) (u : State) : Prop :=
  (∃ c0, s.headArg q op arg = some c0) ∧ s.starts q op p slot c u

/-- The step at item `k` of a queue's running command, of a kind, may start now (09 R335; 10 R383). -/
def State.stepStarts (s : State) (q k kind : Nat) (x : StepCtx) : Prop :=
  s.stepAt q k kind (· == .idle) = some x ∧ stepReady x.c (k - dNTasks x.c.bytes) = true

/-- The step at item `k` waits for a transfer `g` of which every request has been answered (14 R543). -/
def State.stepGoesOn (s : State) (q k kind : Nat) (x : StepCtx) (g : Gather) : Prop :=
  s.stepAt q k kind (· == .idle) = none ∧ s.stepAt q k kind (· == .waiting) = some x ∧ s.gatherOf (x.owner q k) = some g ∧ g.ready = true

end Sys2Proof.Machine
end

