-- ==== Sys2Proof/Certificates/Slice0/Obligations.lean ====
section
/-! DEFINITION. The statements for the provers, chapter by chapter of the spec. A command's own completion is stated as `exec` answering a next
state; what the command leaves is stated beside it as that next state differing from the one before in the named fields alone. -/
open Sys2Proof Sys2Proof.Machine

/-- A step is `exec` of the command at the front, on the state with the queue's rest. The queue is the model's choice (log 2). -/
def Obligations.StepRunsFrontCommand : Prop :=
  ∀ (c : Instr) (rest : List Instr) (s : State), step { s with pending := c :: rest } = exec c { s with pending := rest }

/-- An idle step counts one nanosecond (the model's choice, log 2). -/
def Obligations.IdleStepOnlyCountsTime : Prop :=
  ∀ s : State, s.pending = [] → step s = .next { s with now := s.now + 1 }

/-- ISLAND_FREQ_TARGET_WRITE (02 R40, R41). ISLAND_SAG_REPORT and ISLAND_RESET (02 R37, R48; 03 R69; 09 R349). -/
def Obligations.IslandTargetsReportsAndResets : Prop :=
  (
  ∀ (s : State) (by' : Principal) (i : Fin 80) (v : U16), s.serving → by' = .hostk ∨ by' = .rtp →
    (islDisciplined i = true ∨ i = 60 ∨ i = 61 →
      exec (.islandFreqTargetWrite by' i v) s = .next { s with reply := { status := .denied } }) ∧
    (islDisciplined i = false → i ≠ 60 → i ≠ 61 →
      ∃ t, exec (.islandFreqTargetWrite by' i v) s = .next t ∧ t.reply = { status := .ok } ∧
        (∀ j : Nat, (t.isl.rd j).target = if j = i ∨ (i.val = 59 ∧ (j = 60 ∨ j = 61))
            then Nat.min (Nat.max v.toNat (islRange i).1) (islRange i).2 else (s.isl.rd j).target) ∧
        (∀ j : Nat, (t.isl.rd j).sags = (s.isl.rd j).sags) ∧
        (∀ n : Nat, n ≠ i.val → t.engine n = s.engine n) ∧
        t = { s with reply := t.reply, isl := t.isl, eng := t.eng })
  ) ∧
  (
  ∀ (s : State) (i : Fin 80), s.awake = true →
    (∃ t, exec (.islandSagReport i) s = .next t ∧ (t.isl.rd i).sags = (s.isl.rd i).sags + 1 ∧ (∀ j, (t.isl.rd j).target = (s.isl.rd j).target) ∧
      (s.sagArmed = false ∨ s.sagLevel 50 1000 ≤ s.power.sagStage →
        t = { s with isl := t.isl, events := t.events, gaps := t.gaps })) ∧
    (∀ n : Nat, ∃ t, exec (.islandReset i n) s = .next t ∧ (∀ k, k % 80 = i.val → (t.chans.rd k).fifo = []) ∧
      (∀ k, k % 80 ≠ i.val → t.chans.rd k = s.chans.rd k) ∧
      (16 ≤ i.val → i.val ≠ 58 → t = { s with chans := t.chans, events := t.events, gaps := t.gaps }) ∧
      (i.val < 16 → (t.engine i).block = none ∧ (t.engine i).half0 = {} ∧ (t.engine i).half1 = {} ∧ (t.engine i).task = none ∧
        (∀ k, (t.sems.rd k).st = .held → (t.sems.rd k).owner ≠ some (.engine i)) ∧
        (∀ m : Nat, m ≠ i.val → (t.engine m).block = (s.engine m).block ∧ (t.engine m).half0 = (s.engine m).half0 ∧
          (t.engine m).half1 = (s.engine m).half1 ∧ (t.engine m).failedLanes = (s.engine m).failedLanes)))
  )

/-- REPLAY_WINDOW_END (02 R58; 05 R174-R177). TIMING_ERROR_REPLAY, TRIPLE_FLAG, STEP_UP_COMPLETE and VOLTAGE_REACHED (02 R55-R59; 05 R172, R178). -/
def Obligations.ReplayWindowsMoveOffsetsAndLevels : Prop :=
  (
  ∀ (s : State) (n : Fin 16), (s.engine n).powered = true → (s.engine n).halted = false →
    ∃ t, exec (.replayWindowEnd n) s = .next t ∧ t = { s with eng := t.eng, events := t.events, gaps := t.gaps } ∧
      (∀ m : Nat, m ≠ n.val → t.engine m = s.engine m) ∧ (t.engine n).winReplays = 0 ∧ (t.engine n).tripled = false ∧
      (let e := s.engine n
       let tooMany := e.profile.limit < e.winReplays
       let quiet := e.winReplays ≤ e.profile.limit / 4
       let clamp := e.profile.margin + 2 ≤ e.offset
       (t.engine n).offset = (if tooMany ∧ ¬clamp then e.offset + 1
         else if ¬tooMany ∧ quiet ∧ e.ceil = 0 ∧ s.approx.stepdownWindows ≤ e.runCount + 1 ∧ e.tripled = false then e.offset - 1
         else e.offset) ∧
       (t.engine n).ceil = (if tooMany ∧ clamp ∧ 225 ≤ s.engTarget n then e.ceil + 1
         else if ¬tooMany ∧ quiet then e.ceil - 1 else e.ceil))
  ) ∧
  (
  ∀ (s : State) (n : Fin 16),
    (∀ t i, (s.engine n).task = some t → t.issued = some i → (s.engine n).halted = false →
      exec (.timingErrorReplay n) s = .next (s.updEng n (fun e =>
        { e with winReplays := e.winReplays + 1, replays := e.replays + 1, cyc := e.cyc + 3 }))) ∧
    ((s.engine n).powered = true → (s.engine n).halted = false →
      ∃ t, exec (.tripleFlag n) s = .next t ∧ t = { s with eng := t.eng, events := t.events, gaps := t.gaps } ∧
        (∀ m : Nat, m ≠ n.val → t.engine m = s.engine m) ∧ (t.engine n).tripled = true ∧
        (if (s.engine n).profile.margin + 2 ≤ (s.engine n).offset then
          (t.engine n).offset = (s.engine n).offset ∧ (t.engine n).triple = (s.engine n).triple ∧
            (t.engine n).ceil = (s.engine n).ceil + (if 225 ≤ s.engTarget n then 1 else 0)
         else (t.engine n).offset = (s.engine n).offset + 1 ∧ (t.engine n).triple = (s.engine n).triple + 1 ∧
            (t.engine n).ceil = (s.engine n).ceil ∧ (t.engine n).stepPending = true)) ∧
    ((s.engine n).stepPending = true →
      ∃ t, exec (.stepUpComplete n) s = .next t ∧ t = { s with eng := t.eng } ∧ (∀ m : Nat, m ≠ n.val → t.engine m = s.engine m) ∧
        (t.engine n).triple = 0 ∧ (t.engine n).stepPending = false ∧ (t.engine n).offset = (s.engine n).offset) ∧
    ((s.engine n).powered = true →
      ∃ t, exec (.voltageReached n) s = .next t ∧ t = { s with eng := t.eng } ∧ (∀ m : Nat, m ≠ n.val → t.engine m = s.engine m) ∧
        (t.engine n).freq = Nat.min (s.engTarget n) ((s.engine n).freq + 100) ∧
        (t.engine n).task = (s.engine n).task.map (fun x => { x with voltWait := false }))
  )

/-- NOP, LOOP and END (04 R111, R115, R131-R136). FSIG, FWAIT, FENCE and FENCE_COMPLETE (04 R139, R140, R145; 09 R339). -/
def Obligations.ControlInstructionsMoveTheTaskAndItsFlags : Prop :=
  (
  (∀ (s u : State) (n : Fin 16) (t : Task), s.atInstr n t .nop u →
    ∃ v, exec (.nop n) s = .next v ∧ (v.engine n).cyc = (u.engine n).cyc + 1 ∧ (v.engine n).task = (u.engine n).task.map Task.advance ∧
      (∀ m : Nat, m ≠ n.val → v.engine m = u.engine m) ∧ v = { u with eng := v.eng }) ∧
  (∀ (s u : State) (n : Fin 16) (t : Task) (f : LoopFields), s.atInstr n t (.loop f) u →
    (t.loops.length < 4 → (∀ l ls, t.loops = l :: ls → t.pc + 1 + f.body ≤ l.first + l.f.body) →
      ∃ v, exec (.loop n) s = .next v ∧ (v.engine n).cyc = (u.engine n).cyc + 1 ∧
        (v.engine n).task = some { t with loops := { f := f, first := t.pc + 1, iter := 0 } :: t.loops, pc := t.pc + 1 } ∧
        (∀ m : Nat, m ≠ n.val → v.engine m = u.engine m) ∧ v = { u with eng := v.eng }) ∧
    (4 ≤ t.loops.length ∨ (∃ l ls, t.loops = l :: ls ∧ l.first + l.f.body < t.pc + 1 + f.body) →
      exec (.loop n) s = .next (u.finishTask n .faulted .decode))) ∧
  (∀ (s u : State) (n : Fin 16) (t : Task), s.atInstr n t .fin u → (u.engine n).atBoundary = true →
    exec (.endTask n) s = .next (u.finishTask n .ok .none)) ∧
  (∀ (l : LoopFrame) (ls : List LoopFrame) (pc : Nat),
    loopNext (l :: ls) pc = (if pc = l.first + l.f.body then
      (if l.iter + 1 < l.f.cnt then ({ l with iter := l.iter + 1 } :: ls, l.first) else loopNext ls pc) else (l :: ls, pc)))
  ) ∧
  (
  (∀ (s u : State) (n : Fin 16) (t : Task) (fg v : Nat), s.atInstr n t (.fsig fg v) u → (u.engine n).atBoundary = true →
    ((u.parcel t.parcel).flags.rd fg + v ≤ 65535 → (∀ w ∈ (u.parcel t.parcel).flagWaits, w.2 ≠ fg) →
      ∃ x, exec (.fsig n) s = .next x ∧ (x.parcel t.parcel).flags.rd fg = (u.parcel t.parcel).flags.rd fg + v ∧
        (∀ g, g ≠ fg → (x.parcel t.parcel).flags.rd g = (u.parcel t.parcel).flags.rd g) ∧
        (x.engine n).task = (u.engine n).task.map Task.advance ∧ (∀ m : Nat, m ≠ n.val → x.engine m = u.engine m) ∧
        x = { u with eng := x.eng, parcels := x.parcels, freeCtr := x.freeCtr }) ∧
    (65535 < (u.parcel t.parcel).flags.rd fg + v → exec (.fsig n) s = .next (u.finishTask n .faulted .exec))) ∧
  (∀ (s u : State) (n : Fin 16) (t : Task) (fg v : Nat), s.atInstr n t (.fwait fg v) u →
    (v ≤ (u.parcel t.parcel).flags.rd fg →
      ∃ x, exec (.fwait n) s = .next x ∧ (x.parcel t.parcel).flags.rd fg = (u.parcel t.parcel).flags.rd fg - v ∧
        (∀ g, g ≠ fg → (x.parcel t.parcel).flags.rd g = (u.parcel t.parcel).flags.rd g) ∧
        (x.engine n).task = (u.engine n).task.map Task.advance ∧ (∀ m : Nat, m ≠ n.val → x.engine m = u.engine m) ∧
        x = { u with eng := x.eng, parcels := x.parcels }) ∧
    ((u.parcel t.parcel).flags.rd fg < v →
      ∃ x, exec (.fwait n) s = .next x ∧ (x.parcel t.parcel).flags = (u.parcel t.parcel).flags ∧
        (x.parcel t.parcel).flagWaits = (u.parcel t.parcel).flagWaits ++ [(n.val, fg)] ∧
        (x.engine n).task = some { t with wait := .flag } ∧ (∀ m : Nat, m ≠ n.val → x.engine m = u.engine m) ∧
        x = { u with eng := x.eng, parcels := x.parcels })) ∧
  (∀ (s u : State) (n : Fin 16) (t : Task) (k : FenceKind), s.atInstr n t (.fence k) u →
    ∃ x, exec (.fence n) s = .next x ∧
      (x.engine n).task = (if k = .acquire ∨ (u.engine n).atBoundary = true then (u.engine n).task.map Task.advance else some { t with wait := .fence }) ∧
      (∀ m : Nat, m ≠ n.val → x.engine m = u.engine m) ∧ x = { u with eng := x.eng }) ∧
  (∀ (s : State) (n : Fin 16) (t : Task), (s.engine n).task = some t → t.wait = .fence → (s.engine n).atBoundary = true → (s.engine n).runs = true →
    exec (.fenceComplete n) s = .next (s.updEng n (fun e => { e with task := e.task.map Task.advance })))
  )

/-- SEMACQ and SEMREL (04 R142-R144; 09 R345, R347, R352). The shared operations behind SEMREL, SEM_REL and every abandoning event (09 R348, R349, R352). -/
def Obligations.EngineSemaphoresGoToTheFirstWaiter : Prop :=
  (
  (∀ (s u : State) (n : Fin 16) (t : Task) (k : Nat) (abnOk : Bool), s.atInstr n t (.semacq k abnOk) u →
    (u.semGranted t.parcel k = false → exec (.semacq n) s = .next (u.finishTask n .denied .none)) ∧
    (u.semGranted t.parcel k = true → (u.sems.rd k).st = .free →
      ∃ v, exec (.semacq n) s = .next v ∧ (v.sems.rd k).st = .held ∧ (v.sems.rd k).owner = some (.engine n) ∧
        (∀ j, j ≠ k → v.sems.rd j = u.sems.rd j) ∧ (v.engine n).task = (u.engine n).task.map Task.advance ∧
        (∀ m : Nat, m ≠ n.val → v.engine m = u.engine m) ∧ v = { u with sems := v.sems, eng := v.eng }) ∧
    (u.semGranted t.parcel k = true → (u.sems.rd k).st = .abandoned → abnOk = true →
      ∃ v, exec (.semacq n) s = .next v ∧ (v.sems.rd k).st = .held ∧ (v.sems.rd k).owner = some (.engine n) ∧
        (∀ j, j ≠ k → v.sems.rd j = u.sems.rd j) ∧
        (v.engine n).task = some ({ t with flags := t.flags.or { abn := true } } : Task).advance ∧
        (∀ m : Nat, m ≠ n.val → v.engine m = u.engine m) ∧ v = { u with sems := v.sems, eng := v.eng }) ∧
    (u.semGranted t.parcel k = true → (u.sems.rd k).st = .abandoned → abnOk = false →
      exec (.semacq n) s = .next (u.finishTask n .abandoned .none)) ∧
    (u.semGranted t.parcel k = true → (u.sems.rd k).st = .held → (u.sems.rd k).owner ≠ some (.engine n) →
      ∃ v, exec (.semacq n) s = .next v ∧
        (v.sems.rd k) = { u.sems.rd k with waiters := (u.sems.rd k).waiters ++ [{ owner := .engine n, abnOk := abnOk }] } ∧
        (∀ j, j ≠ k → v.sems.rd j = u.sems.rd j) ∧ (v.engine n).task = some { t with wait := .sem } ∧
        (∀ m : Nat, m ≠ n.val → v.engine m = u.engine m) ∧ v = { u with sems := v.sems, eng := v.eng }) ∧
    (u.semGranted t.parcel k = true → (u.sems.rd k).st = .held → (u.sems.rd k).owner = some (.engine n) →
      exec (.semacq n) s = .next (u.finishTask n .faulted .exec))) ∧
  (∀ (s u : State) (n : Fin 16) (t : Task) (k : Nat), s.atInstr n t (.semrel k) u →
    (u.semGranted t.parcel k = false → exec (.semrel n) s = .next (u.finishTask n .denied .none)) ∧
    (u.semGranted t.parcel k = true → (u.sems.rd k).st = .held → (u.sems.rd k).owner = some (.engine n) →
      exec (.semrel n) s = .next
        (({ u with sems := u.sems.wr k { u.sems.rd k with st := .free, owner := none } }).advance n).semSettle) ∧
    (u.semGranted t.parcel k = true → ¬((u.sems.rd k).st = .held ∧ (u.sems.rd k).owner = some (.engine n)) →
      exec (.semrel n) s = .next (u.finishTask n .faulted .exec)))
  ) ∧
  (
  (∀ (s : State) (struck : SemOwner → Bool) (k : Nat) (o : SemOwner), (s.sems.rd k).st = .held →
    (s.sems.rd k).owner = some o →
    (struck o = true → ((s.strike struck).sems.rd k).st = .abandoned ∧ ((s.strike struck).sems.rd k).abandons = (s.sems.rd k).abandons + 1) ∧
    (struck o = false → ((s.strike struck).sems.rd k).st = .held ∧ ((s.strike struck).sems.rd k).owner = some o) ∧
    (∀ w ∈ ((s.strike struck).sems.rd k).waiters, struck w.owner = false)) ∧
  (∀ (s : State) (k : Nat) (w : SemWaiter) (ws : List SemWaiter) (q : Nat), s.sems = [(k, { st := .free, waiters := w :: ws })] → w.owner = .queue q →
    (s.semSettle.sems.rd k).st = .held ∧ (s.semSettle.sems.rd k).owner = some (.queue q) ∧ (s.semSettle.sems.rd k).waiters = ws)
  )

/-- The blocks an issued matrix instruction uses: the held one, or those it loads from B (03 R66, R68). -/
def Sys2Proof.Machine.State.matBlocks (s : State) (n : Nat) (i : Issued) (f : MatFields) (p : Nat) : List Byte :=
  if (s.engine n).reuses f then (match (s.engine n).block with | some x => x.bytes | none => [])
  else loadBlock f (memRead (s.slc.rd i.slB).bytes i.offB (f.k * f.w)) p

/-- What an issued matrix instruction's first pass adds to (04 R124, R135). -/
def Sys2Proof.Machine.State.matStart (s : State) (n : Nat) (i : Issued) (acc : Bool) (f : MatFields) (r c : Nat) : Nat :=
  if acc = false ∨ i.asMm = true then 0
  else if f.sacc then leNat (slice (memRead (s.slc.rd i.slC).bytes i.offC (4 * f.m * f.w)) (4 * (r * f.w + c)) 4)
  else (((s.engine n).half f.half).vals.rd (r * 1024 + c)).toNat

/-- The result of an issued matrix instruction, row by row, with its flags (04 R124). -/
def Sys2Proof.Machine.State.matOut (s : State) (n : Nat) (i : Issued) (acc : Bool) (f : MatFields) : List Nat × Flags :=
  matResult f ((s.engine n).thr f.exact) (memRead (s.slc.rd i.slA).bytes i.offA (f.m * f.k)) (s.matBlocks n i f) (s.matStart n i acc f)

/-- MM and MMA (03 R63-R79; 04 R119, R124, R135). VEC (04 R125-R130). -/
def Obligations.MatrixAndVectorInstructionsCompute : Prop :=
  (
  ∀ (s : State) (n : Fin 16) (t : Task) (i : Issued) (acc : Bool) (f : MatFields), s.hasIssued n t i → i.instr = .mat acc f →
    (s.slc.rd i.slA).badRange i.offA (f.m * f.k) = false → ((s.engine n).reuses f = true ∨ (s.slc.rd i.slB).badRange i.offB (f.k * f.w) = false) →
    (f.sacc = false ∨ acc = false ∨ i.asMm = true ∨ (s.slc.rd i.slC).badRange i.offC (4 * f.m * f.w) = false) →
    (f.sacc = false → f.w ≤ 1024 →
      ∃ v, exec (if acc then .mma n else .mm n) s = .next v ∧
        (∀ r c : Nat, r < f.m → c < f.w →
          ((v.engine n).half f.half).vals.rd (r * 1024 + c) = BitVec.ofNat 32 ((s.matOut n i acc f).1.getD (r * f.w + c) 0)) ∧
        ((v.engine n).half f.half).drain = some { slice := i.slC, off := i.offC, m := f.m, w := f.w, claims := i.claims } ∧
        ((v.engine n).half (!f.half)) = ((s.engine n).half (!f.half)) ∧
        (v.engine n).task = some ({ t with flags := t.flags.or (s.matOut n i acc f).2 } : Task).advance ∧
        (v.engine n).block = some ⟨f.form, s.matBlocks n i f (f.k / f.form.depth - 1)⟩ ∧
        v.slc = (s.release i.holds true).slc ∧ (∀ m : Nat, m ≠ n.val → v.engine m = s.engine m) ∧ v = { s with eng := v.eng, slc := v.slc }) ∧
    (f.sacc = true → overlaps i.slA i.offA (f.m * f.k) i.slC i.offC (4 * f.m * f.w) = false →
      ((s.engine n).reuses f = true ∨ overlaps i.slB i.offB (f.k * f.w) i.slC i.offC (4 * f.m * f.w) = false) →
      ∃ v, exec (if acc then .mma n else .mm n) s = .next v ∧
        (v.slc.rd i.slC).bytes = memWrite (s.slc.rd i.slC).bytes i.offC ((s.matOut n i acc f).1.flatMap (leBytes 4)) ∧
        (∀ k, k ≠ i.slC → (v.slc.rd k).bytes = (s.slc.rd k).bytes) ∧
        (v.engine n).half0 = (s.engine n).half0 ∧ (v.engine n).half1 = (s.engine n).half1 ∧
        (v.engine n).task = some ({ t with flags := t.flags.or (s.matOut n i acc f).2 } : Task).advance ∧
        (∀ m : Nat, m ≠ n.val → v.engine m = s.engine m) ∧ v = { s with eng := v.eng, slc := v.slc })
  ) ∧
  (
  ∀ (s : State) (n : Fin 16) (t : Task) (i : Issued) (f : VecFields), s.hasIssued n t i → i.instr = .vec f →
    (s.slc.rd i.slA).badRange i.offA (vecLens f).1 = false → (s.slc.rd i.slB).badRange i.offB (vecLens f).2.1 = false →
    overlaps i.slA i.offA (vecLens f).1 i.slC i.offC (vecLens f).2.2 = false →
    overlaps i.slB i.offB (vecLens f).2.1 i.slC i.offC (vecLens f).2.2 = false →
    let r := vecResult f (memRead (s.slc.rd i.slA).bytes i.offA (vecLens f).1) (memRead (s.slc.rd i.slB).bytes i.offB (vecLens f).2.1)
    ∃ v, exec (.vec n) s = .next v ∧
      memRead (v.slc.rd i.slC).bytes i.offC r.1.length = r.1 ∧
      (∀ a, a < i.offC ∨ i.offC + r.1.length ≤ a → Tab.rd (v.slc.rd i.slC).bytes a = Tab.rd (s.slc.rd i.slC).bytes a) ∧
      (∀ k, k ≠ i.slC → (v.slc.rd k).bytes = (s.slc.rd k).bytes) ∧
      (v.engine n).task = some ({ t with flags := t.flags.or r.2 } : Task).advance ∧
      (v.engine n).half0 = (s.engine n).half0 ∧ (v.engine n).half1 = (s.engine n).half1 ∧ (v.engine n).block = (s.engine n).block ∧
      (∀ m : Nat, m ≠ n.val → v.engine m = s.engine m) ∧ v = { s with eng := v.eng, slc := v.slc }
  )

/-- INSTRUCTION_ISSUE (03 R81-R85; 04 R113). ACCUMULATOR_DRAIN_DONE, SIMMER_RAMP_DOWN, ENGINE_STOP and TASK_START (03 R74, R75, R91-R96; 04 R111; 05 R163, R164, R172). -/
def Obligations.TheIssueGateAndTheEngineStates : Prop :=
  (
  ∀ (s u : State) (n : Fin 16) (t : Task) (i : EInstr), s.atInstr n t i u → i.gated = true →
    (u.gateOps n t i = none → exec (.instructionIssue n) s = .next (u.finishTask n .faulted .decode)) ∧
    (∀ o : GateOps, u.gateOps n t i = some o → t.voltWait = false →
      (∀ acc f, i = .mat acc f → f.sacc = true ∨ ((u.engine n).half f.half).drain = none) →
      let hs := gateHolds i o
      let v := (u.reserve n hs ((List.range 16).filter (· ≠ n))).1
      let own := hs.filter (fun h => h.slice == n.val)
      let dst := granules o.d.2.1 o.d.2.2
      let x := v.slc.rd n
      ((u.reserve n hs ((List.range 16).filter (· ≠ n))).2 = false → exec (.instructionIssue n) s = .next v) ∧
      ((u.reserve n hs ((List.range 16).filter (· ≠ n))).2 = true → x.withdrawn = false → x.powered = true →
        (∀ h ∈ own, if h.gran ∈ dst then (x.gran.rd h.gran).st = .present ∧ (x.gran.rd h.gran).readers = 0
          else (x.gran.rd h.gran).holdable = true) →
        (∀ g ∈ dst, (∃ h ∈ own, h.gran = g) ∨ (x.gran.rd g).claimable = true) →
        ∃ w iss, exec (.instructionIssue n) s = .next w ∧ (w.engine n).task = (v.engine n).task.map (fun t => { t with issued := some iss }) ∧
          iss.instr = i ∧ iss.holds = (v.engine n).reserved ++ own ∧ iss.claims.map Claim.gran = dst ∧ iss.claims.all (fun c => c.slice == n.val) = true ∧
          (∀ g ∈ dst, ((w.slc.rd n).gran.rd g).st = .filling) ∧ (w.slc.rd n).bytes = x.bytes ∧
          (∀ m : Nat, m ≠ n.val → w.engine m = v.engine m) ∧ (∀ k : Nat, k ≠ n.val → w.slc.rd k = v.slc.rd k) ∧
          w = { v with eng := w.eng, slc := w.slc }))
  ) ∧
  (
  (∀ (s : State) (n : Fin 16) (h : Bool) (d : Drain), ((s.engine n).half h).drain = some d →
    let bs := (List.range d.m).flatMap (fun i => (List.range d.w).flatMap (fun j =>
      leBytes 4 (((s.engine n).half h).vals.rd (i * 1024 + j)).toNat))
    ∃ t, exec (.accumulatorDrainDone n h) s = .next t ∧ memRead (t.slc.rd d.slice).bytes d.off bs.length = bs ∧
      (∀ a, a < d.off ∨ d.off + bs.length ≤ a → Tab.rd (t.slc.rd d.slice).bytes a = Tab.rd (s.slc.rd d.slice).bytes a) ∧
      (∀ k, k ≠ d.slice → (t.slc.rd k).bytes = (s.slc.rd k).bytes) ∧
      (∀ c ∈ d.claims, ((t.slc.rd c.slice).gran.rd c.gran).st = .present) ∧
      ((t.engine n).half h).drain = none ∧ ((t.engine n).half h).vals = ((s.engine n).half h).vals ∧
      ((t.engine n).half (!h)) = ((s.engine n).half (!h)) ∧ (∀ m : Nat, m ≠ n.val → t.engine m = s.engine m) ∧
      t = { s with eng := t.eng, slc := t.slc }) ∧
  (∀ (s : State) (n : Fin 16), (∀ t, (s.engine n).task = some t → t.issued = none) →
    ∃ t, exec (.simmerRampDown n) s = .next t ∧
      (t.engine n).density = (if (s.engine n).simmerEnable then (s.engine n).density - 1 else 0) ∧
      (t.engine n).gap = (if (s.engine n).simmerEnable then (if (s.engine n).density = 0 then (s.engine n).gap else Nat.max 64 (s.engine n).gap + 8) else 128) ∧
      (∀ m : Nat, m ≠ n.val → t.engine m = s.engine m) ∧ t = { s with eng := t.eng }) ∧
  (∀ (s : State) (n : Fin 16), (s.engine n).stopReq = true → (s.engine n).halted = false → (s.engine n).atBoundary = true →
    (s.engine n).task.bind (·.killed) = none →
    ∃ t, exec (.engineStop n) s = .next t ∧ (t.engine n).stopped = true ∧ (t.engine n).stopReq = false ∧ (t.engine n).reserved = [] ∧
      (t.engine n).block = (s.engine n).block ∧ (t.engine n).half0 = (s.engine n).half0 ∧ (t.engine n).half1 = (s.engine n).half1 ∧
      (t.engine n).task = (s.engine n).task ∧ (∀ m : Nat, m ≠ n.val → t.engine m = s.engine m) ∧
      (∀ k, (t.slc.rd k).bytes = (s.slc.rd k).bytes) ∧ t = { s with eng := t.eng, slc := t.slc, queues := t.queues }) ∧
  (∀ (s : State) (n : Fin 16) (t : Task) (rest : List Task), (s.engine n).task = none → (s.engine n).inbox = t :: rest → (s.engine n).runs = true →
    ∃ v u, exec (.taskStart n) s = .next v ∧ (v.engine n).task = some u ∧ u.started = true ∧ u.pc = 0 ∧ u.flags = {} ∧ u.loops = [] ∧
      u.issued = none ∧ u.wait = .none ∧ u.prog = t.prog ∧ u.start = t.start ∧ u.progLen = t.progLen ∧ u.queue = t.queue ∧ u.cmd = t.cmd ∧
      u.item = t.item ∧ (v.engine n).inbox = rest ∧ (v.engine n).level = Nat.min t.level (s.approx.cap.rd t.parcel) ∧
      (v.engine n).profile = s.approx.profiles.rd (Nat.min t.level (s.approx.cap.rd t.parcel)) ∧ (v.engine n).dispatchedAt = s.now ∧
      (∀ m : Nat, m ≠ n.val → v.engine m = s.engine m) ∧ v = { s with eng := v.eng, events := v.events, gaps := v.gaps })
  )

/-- AL_PROFILE_WRITE and PARCEL_AL_CAP_WRITE (05 R159-R165). -/
def Obligations.ApproximationWritesAreChecked : Prop :=
  (∀ (s : State) (by' : Principal) (level : Fin 8) (a b c d : Byte) (limit reserved : U16), s.serving →
    ((by' ≠ .hostk ∧ by' ≠ .rtp) ∨ level = 0 →
      exec (.alProfileWrite by' level a b c d limit reserved) s = .next { s with reply := { status := .denied } }) ∧
    (by' = .hostk ∨ by' = .rtp → level ≠ 0 → reserved ≠ 0 ∨ profileInRange a b c d limit = false →
      exec (.alProfileWrite by' level a b c d limit reserved) s = .next { s with reply := { status := .unsupported } }) ∧
    (by' = .hostk ∨ by' = .rtp → level ≠ 0 → reserved = 0 → profileInRange a b c d limit = true → s.alone = true →
      ∃ t, exec (.alProfileWrite by' level a b c d limit reserved) s = .next t ∧
        t.approx.profiles.rd level = { int8T := a.toNat, int4T := b.toNat, fpExp := fpExpOf c, margin := d.toNat, limit := limit.toNat } ∧
        (∀ l : Nat, l ≠ level.val → t.approx.profiles.rd l = s.approx.profiles.rd l) ∧ t.reply = { status := .ok } ∧
        t = { s with reply := t.reply, approx := { s.approx with profiles := t.approx.profiles } })) ∧
  (∀ (s : State) (by' : Principal) (p : Fin 8) (v : Byte), s.serving →
    (by' ≠ .hostk ∧ by' ≠ .rtp → exec (.parcelAlCapWrite by' p v) s = .next { s with reply := { status := .denied } }) ∧
    (by' = .hostk ∨ by' = .rtp → 7 < v.toNat → exec (.parcelAlCapWrite by' p v) s = .next { s with reply := { status := .unsupported } }) ∧
    (by' = .hostk ∨ by' = .rtp → v.toNat ≤ 7 →
      ∃ t, exec (.parcelAlCapWrite by' p v) s = .next t ∧ t.approx.cap.rd p = v.toNat ∧ t.reply = { status := .ok } ∧
        (∀ q : Nat, q ≠ p.val → t.approx.cap.rd q = s.approx.cap.rd q) ∧
        t = { s with reply := t.reply, approx := { s.approx with cap := t.approx.cap } }))

/-- TE_SEGMENTS_WRITE and TE_NODE_WAYS_WRITE (06 R185, R186). -/
def Obligations.TreeEngineSharesAreExclusive : Prop :=
  ∀ (s : State) (by' : Principal) (p : Fin 8), s.serving →
    (by' ≠ .rtp → ∀ (v : U64) (w : U16), exec (.teSegmentsWrite by' p v) s = .next { s with reply := { status := .denied } } ∧
      exec (.teNodeWaysWrite by' p w) s = .next { s with reply := { status := .denied } }) ∧
    (∀ v : U64, (∃ o : Nat, o < 8 ∧ o ≠ p.val ∧ s.te.segments.rd o &&& v.toNat ≠ 0) →
      exec (.teSegmentsWrite .rtp p v) s = .next { s with reply := { status := .unsupported } }) ∧
    (∀ v : U16, (∃ o : Nat, o < 8 ∧ o ≠ p.val ∧ s.te.nodeWays.rd o &&& v.toNat ≠ 0) →
      exec (.teNodeWaysWrite .rtp p v) s = .next { s with reply := { status := .unsupported } }) ∧
    (∀ v : U64, (∀ o : Nat, o < 8 → o ≠ p.val → s.te.segments.rd o &&& v.toNat = 0) →
      ((s.te.ctx.rd p).image ≠ none → exec (.teSegmentsWrite .rtp p v) s = .next { s with reply := { status := .busy } }) ∧
      ((s.te.ctx.rd p).image = none →
        ∃ t, exec (.teSegmentsWrite .rtp p v) s = .next t ∧ t.te.segments.rd p = v.toNat ∧ t.reply = { status := .ok } ∧
          (∀ o : Nat, o ≠ p.val → t.te.segments.rd o = s.te.segments.rd o) ∧
          (∀ i : Nat, i < 65536 → t.te.am.rd i = if bitAt (s.te.segments.rd p) (i / 1024) = true ∧ bitAt v.toNat (i / 1024) = false
            then default else s.te.am.rd i) ∧
          t = { s with reply := t.reply, te := { s.te with segments := t.te.segments, am := t.te.am } })) ∧
    (∀ v : U16, (∀ o : Nat, o < 8 → o ≠ p.val → s.te.nodeWays.rd o &&& v.toNat = 0) →
      ((s.te.ctx.rd p).image ≠ none → exec (.teNodeWaysWrite .rtp p v) s = .next { s with reply := { status := .busy } }) ∧
      ((s.te.ctx.rd p).image = none →
        ∃ t, exec (.teNodeWaysWrite .rtp p v) s = .next t ∧ t.te.nodeWays.rd p = v.toNat ∧ t.reply = { status := .ok } ∧
          (∀ o : Nat, o ≠ p.val → t.te.nodeWays.rd o = s.te.nodeWays.rd o) ∧
          t = { s with reply := t.reply, te := { s.te with nodeWays := t.te.nodeWays } }))

/-- TREE_LOAD, TREE_RUN, TE_SAMPLE_ADMIT, TE_NODE_RETURN and TE_BACKGROUND_CHECK (06 R188-R226). -/
def Obligations.ForestsLoadRunAndAreChecked : Prop :=
  (∀ (s u : State) (q : Fin 1024) (p slot : Nat) (c : Cmd), s.starts q 2 p slot c u → (s.te.ctx.rd p).run = none → s.te.withdrawn = false →
    u.teRetired = false → (u.te.ctx.rd p).run = none →
    ∃ v, exec (.treeLoad q) s = .next v ∧ match u.bindForest p (field c.bytes 32 8) (field c.bytes 40 8) (recOf c.record 0) with
      | .ok _ w => v = w.endCmd q c.serial .ok .none ∧ (w.te.ctx.rd p).image.map TeImage.dva = some (field c.bytes 32 8)
      | .wait w => v = w
      | .remote _ _ => v = u.endCmd q c.serial .faulted .exec
      | .fail st ca => v = u.endCmd q c.serial st ca) ∧
  (∀ (s u : State) (q : Fin 1024) (p slot : Nat) (c : Cmd), s.starts q 3 p slot c u → (s.te.ctx.rd p).run = none → s.te.withdrawn = false →
    u.teRetired = false → (u.te.ctx.rd p).run = none →
    ((u.te.ctx.rd p).image = none → exec (.treeRun q) s = .next (u.endCmd q c.serial .faulted .exec)) ∧
    (∀ img, (u.te.ctx.rd p).image = some img → (field c.bytes 56 4 < field c.bytes 24 4 * (forestOf img.hdr).sampleStride ∨
        field c.bytes 60 4 < field c.bytes 24 4 * (forestOf img.hdr).outBytes) →
      exec (.treeRun q) s = .next (u.endCmd q c.serial .faulted .exec)) ∧
    (∀ img, (u.te.ctx.rd p).image = some img → field c.bytes 24 4 * (forestOf img.hdr).sampleStride ≤ field c.bytes 56 4 →
        field c.bytes 24 4 * (forestOf img.hdr).outBytes ≤ field c.bytes 60 4 →
      ∃ v r, exec (.treeRun q) s = .next v ∧ (v.te.ctx.rd p).run = some r ∧ r.b = field c.bytes 24 4 ∧ r.next = 0 ∧ r.done = 0 ∧
        r.ins = field c.bytes 32 8 ∧ r.outs = field c.bytes 40 8 ∧ r.flags = field c.bytes 48 8 ∧ r.queue = q.val ∧ r.cmd = c.serial ∧
        (v.te.ctx.rd p).image = some img ∧ (∀ o, o ≠ p → v.te.ctx.rd o = u.te.ctx.rd o) ∧ v = { u with te := v.te, queues := v.queues })) ∧
  (∀ (s : State) (p : Fin 8) (bad : List (Fin 65536)) (r : TeRun) (img : TeImage), (s.te.ctx.rd p).run = some r → (s.te.ctx.rd p).image = some img →
    s.teRuns = true → r.next < r.b →
    ((forestOf img.hdr).mode ≠ 0 → exec (.teSampleAdmit p bad) s =
      .next (s.teSettle p r (admitGo p (forestOf img.hdr) img (256 - s.teSlotsUsed) r s))) ∧
    ((forestOf img.hdr).mode = 0 → ∀ x s1 y s2 s3, nextSample p (forestOf img.hdr) img r s = .ok x s1 →
      lookups p (forestOf img.hdr) img x.codes (List.range (forestOf img.hdr).groups) (bad.map (·.val)) x.sums false s1 = .ok y s2 →
      writeSample p (forestOf img.hdr) r x.n y.1 (x.flags + (if y.2 then 4 else 0)) s2 = .ok () s3 →
      exec (.teSampleAdmit p bad) s = .next (if r.done + 1 < r.b then
        s3.updTe p (fun c => { c with run := some { r with next := r.next + 1, done := r.done + 1 } })
        else s3.teEnd p { r with next := r.next + 1, done := r.done + 1 } .ok .none))) ∧
  (∀ (s : State) (p : Fin 8) (k : Fin 256) (r : TeRun) (img : TeImage) (x : TeSample), (s.te.ctx.rd p).run = some r →
    (s.te.ctx.rd p).image = some img → r.slots[k.val]? = some x → (x.node = 0 → s.teRuns = true) →
    exec (.teNodeReturn p k) s = .next (s.teSettle p r (walkSample p (forestOf img.hdr) img r x s))) ∧
  (∀ s : State, exec (.teBackgroundCheck []) s = .next s) ∧
  (∀ (s u : State) (i : Fin 65536) (bad : List (Fin 65536)) (p : Nat) (img : TeImage),
    (List.range 8).find? (fun p => bitAt (s.te.segments.rd p) (i.val / 1024)) = some p → (s.te.ctx.rd p).image = some img →
    s.amRewrite p (forestOf img.hdr) img i = .ok () u → exec (.teBackgroundCheck (i :: bad)) s = exec (.teBackgroundCheck bad) u)

/-- ATOMIC, SEM_ACQ, SEM_REL and RING (09 R342-R352; 10 R380). -/
def Obligations.SemaphoreStepsAtomicsAndDoorbells : Prop :=
  (∀ (s : State) (q : Fin 1024) (k : Fin 64) (x : StepCtx), s.stepStarts q k 5 x →
    (bitAt (s.parcel x.p).sems x.x.sem = false → exec (.semAcq q k) s = .next (s.stepDone q k x .denied .none)) ∧
    (bitAt (s.parcel x.p).sems x.x.sem = true → (s.sems.rd x.x.sem).st = .free →
      exec (.semAcq q k) s = .next (State.stepDone
        { s with sems := s.sems.wr x.x.sem { s.sems.rd x.x.sem with st := .held, owner := some (.queue q) } } q k x .ok .none)) ∧
    (bitAt (s.parcel x.p).sems x.x.sem = true → (s.sems.rd x.x.sem).st = .abandoned → x.x.abnok = true →
      exec (.semAcq q k) s = .next ((State.updCmd
        { s with sems := s.sems.wr x.x.sem { s.sems.rd x.x.sem with st := .held, owner := some (.queue q) } } q x.c.serial
        (fun c => { c with flags := c.flags.or { abn := true } })).stepDone q k x .ok .none)) ∧
    (bitAt (s.parcel x.p).sems x.x.sem = true → (s.sems.rd x.x.sem).st = .abandoned → x.x.abnok = false →
      exec (.semAcq q k) s = .next (s.stepDone q k x .abandoned .none).semSettle) ∧
    (bitAt (s.parcel x.p).sems x.x.sem = true → (s.sems.rd x.x.sem).st = .held → (s.sems.rd x.x.sem).owner ≠ some (.queue q) →
      exec (.semAcq q k) s = .next (State.setItem
        { s with sems := s.sems.wr x.x.sem { s.sems.rd x.x.sem with
          waiters := (s.sems.rd x.x.sem).waiters ++ [{ owner := .queue q, abnOk := x.x.abnok, tag := k }] } } q x.c.serial k .waiting)) ∧
    (bitAt (s.parcel x.p).sems x.x.sem = true → (s.sems.rd x.x.sem).st = .held → (s.sems.rd x.x.sem).owner = some (.queue q) →
      exec (.semAcq q k) s = .next (s.stepDone q k x .faulted .exec))) ∧
  (∀ (s : State) (q : Fin 1024) (k : Fin 64) (x : StepCtx), s.stepStarts q k 6 x →
    (bitAt (s.parcel x.p).sems x.x.sem = false → exec (.semRel q k) s = .next (s.stepDone q k x .denied .none)) ∧
    (bitAt (s.parcel x.p).sems x.x.sem = true → (s.sems.rd x.x.sem).st = .held → (s.sems.rd x.x.sem).owner = some (.queue q) →
      exec (.semRel q k) s = .next (State.stepDone
        { s with sems := s.sems.wr x.x.sem { s.sems.rd x.x.sem with st := .free, owner := none } } q k x .ok .none).semSettle) ∧
    (bitAt (s.parcel x.p).sems x.x.sem = true → ¬((s.sems.rd x.x.sem).st = .held ∧ (s.sems.rd x.x.sem).owner = some (.queue q)) →
      exec (.semRel q k) s = .next (s.stepDone q k x .faulted .exec))) ∧
  (∀ (s : State) (q : Fin 1024) (k : Fin 64) (x : StepCtx), s.stepStarts q k 7 x →
    (x.x.dva % 65536 = s.dieId ∨ s.fabricMember (s.parcel x.p).fabricId (x.x.dva % 65536) = false →
      exec (.ring q k) s = .next (s.stepDone q k x .denied .none)) ∧
    (x.x.dva % 65536 ≠ s.dieId → s.fabricMember (s.parcel x.p).fabricId (x.x.dva % 65536) = true →
      exec (.ring q k) s = .next (s.stepRemote q k x 0 []
        [{ op := 6, dest := x.x.dva % 65536, addr := bitsOf x.x.dva 25 16, fabric := (s.parcel x.p).fabricId,
           payload := leBytes 8 (x.x.size % 2 ^ 32) }]))) ∧
  (∀ (s : State) (q : Fin 1024) (k : Fin 64) (x : StepCtx) (ps rs : List Piece), s.stepStarts q k 4 x →
    runPieces (x.exts 0) x.x.dva x.x.width = some ps → runPieces (x.exts 1) x.x.dva2 8 = some rs →
    ((∃ p ∈ ps, s.atomicOffered (x.x.mode % 16) p.back = false) → exec (.atomic q k) s = .next (s.stepDone q k x .unsupported .none)) ∧
    (∀ old w n v u, (∀ p ∈ ps, s.atomicOffered (x.x.mode % 16) p.back = true ∧ ∀ d, p.back ≠ .fabric d) → x.x.mode % 16 ≠ 6 →
      (∀ p ∈ ps ++ rs, s.pieceBusy p = false) → s.readPieces (.parcel x.p) ps = .ok old w →
      atomicNew (x.x.mode % 16) x.x.width (leNat old) (x.x.size % 2 ^ (8 * x.x.width)) 0 = some n →
      w.writePieces (.parcel x.p) ps (leBytes x.x.width n) = .ok () v →
      v.writeAll (.parcel x.p) 2 (v.parcel x.p).fabricId rs (leBytes 8 (leNat old)) = .ok u →
      exec (.atomic q k) s = .next (u.stepDone q k x .ok .none))) ∧
  (∀ width old v c : Nat,
    atomicNew 0 width old v c = some ((old + v) % 2 ^ (8 * width)) ∧
    atomicNew 1 width old v c = some (if sext (8 * width) old < sext (8 * width) v then v else old) ∧
    atomicNew 2 width old v c = some (if sext (8 * width) v < sext (8 * width) old then v else old) ∧
    atomicNew 3 width old v c = some (if old ≤ v then v else old) ∧ atomicNew 4 width old v c = some (if old ≤ v then old else v) ∧
    atomicNew 5 width old v c = some v ∧ atomicNew 6 width old v c = some (if old = c then v else old) ∧
    ∀ code, 7 ≤ code → atomicNew code width old v c = none)

/-- What filling a scratch run leaves of `w` in `t`: the run written, the claimed granules PRESENT, the step ended OK. -/
def Sys2Proof.Machine.State.filledFrom (w t : State) (q k : Nat) (x : StepCtx) (sl : Nat) (runs : List (Nat × List Byte)) (cs : List Claim) : Prop :=
  (t.slc.rd sl).bytes = runs.foldl (fun m (r : Nat × List Byte) => memWrite m r.1 r.2) (w.slc.rd sl).bytes ∧
    (∀ n, n ≠ sl → (t.slc.rd n).bytes = (w.slc.rd n).bytes) ∧ (∀ c ∈ cs, ((t.slc.rd c.slice).gran.rd c.gran).st = .present) ∧
    t = { w.stepDone q k x .ok .none with queues := t.queues, slc := t.slc }

/-- WRITER_CLAIM, DMA_IN, DMA_OUT, COPY, ROW_IN, ROW_OUT and ROW_HIST (03 R81-R90; 08 R312-R315; 10 R379; 12 R446-R447). -/
def Obligations.TransferStepsFillScratchAndMemory : Prop :=
  (∀ (s : State) (q : Fin 1024) (k : Fin 64) (x : StepCtx) (sl off : Nat) (ps : List Piece), s.stepStarts q k 1 x →
    s.stepScr x x.x.bytes = some (sl, off) → runPieces (x.exts 0) x.x.dva x.x.bytes = some ps →
    (s.stepClaim q k x sl off x.x.bytes = none → exec (.writerClaim q k) s = .next s ∧ exec (.dmaIn q k) s = .next s) ∧
    (∀ v cs, s.stepClaim q k x sl off x.x.bytes = some (v, cs) → exec (.writerClaim q k) s = .next v ∧
      ∃ t, exec (.dmaIn q k) s = .next t ∧ match v.readAll (.parcel x.p) 1 (v.parcel x.p).fabricId ps with
        | .ok bs w => w.filledFrom t q k x sl [(off, x.x.deliver bs)] cs
        | .wait w => t = w
        | .start buf reqs w => t = w.stepRemote q k x 0 buf reqs
        | .fail st ca w => t = (w.stepUnclaim q k x cs false).stepDone q k x st ca)) ∧
  (∀ (s : State) (q : Fin 1024) (k : Fin 64) (x : StepCtx) (kind sl off : Nat) (ps : List Piece), kind = 8 ∨ kind = 10 → s.stepStarts q k kind x →
    s.stepScr x x.rowSpan = some (sl, off) → rowPieces x.x (s.liveRows x) = some ps →
    ∃ t, exec (if kind = 8 then .rowIn q k else .rowHist q k) s = .next t ∧ match s.stepClaim q k x sl off x.rowSpan with
      | none => t = s
      | some (v, cs) => match v.readAll (.parcel x.p) 1 (v.parcel x.p).fabricId ps with
        | .ok bs w => w.filledFrom t q k x sl (rowRuns x.x off x.c.rows.zipIdx bs) cs
        | .wait w => t = w
        | .start buf reqs w => t = w.stepRemote q k x 0 buf reqs
        | .fail st ca w => t = (w.stepUnclaim q k x cs false).stepDone q k x st ca) ∧
  (∀ (s : State) (q : Fin 1024) (k : Fin 64) (x : StepCtx) (sl off : Nat), s.stepStarts q k 2 x → s.stepScr x x.x.bytes = some (sl, off) →
    (s.canHold sl (granules off x.x.bytes) = false → exec (.dmaOut q k) s = .next s) ∧
    (s.canHold sl (granules off x.x.bytes) = true → (s.slc.rd sl).badRange off x.x.bytes = true →
      exec (.dmaOut q k) s = .next ((s.readDone sl (granules off x.x.bytes) x.x.rel).stepDone q k x .faulted .uncorr)) ∧
    (∀ ps w, s.canHold sl (granules off x.x.bytes) = true → (s.slc.rd sl).badRange off x.x.bytes = false →
      (s.parcel x.p).sealed = false →
      runPieces (x.exts 0) x.x.dva (x.x.deliver (memRead (s.slc.rd sl).bytes off x.x.bytes)).length = some ps →
      s.writeAll (.parcel x.p) 2 (s.parcel x.p).fabricId ps (x.x.deliver (memRead (s.slc.rd sl).bytes off x.x.bytes)) = .ok w →
      exec (.dmaOut q k) s = .next ((w.stepDone q k x .ok .none).readDone sl (granules off x.x.bytes) x.x.rel))) ∧
  (∀ (s : State) (q : Fin 1024) (k : Fin 64) (x : StepCtx) (sl off : Nat) (ps : List Piece), s.stepStarts q k 9 x →
    s.stepScr x x.rowSpan = some (sl, off) → rowPieces x.x (s.liveRows x) = some ps →
    let at' := fun (r : Nat × WlRow × Seq) => off + r.1 * x.x.pitch
    let gs := ((s.liveRows x).flatMap (fun r => granules (at' r) (x.x.rowLen r.2.1))).eraseDups
    let bs := (s.liveRows x).flatMap (fun r => memRead (s.slc.rd sl).bytes (at' r) (x.x.rowLen r.2.1))
    (s.canHold sl gs = false → exec (.rowOut q k) s = .next s) ∧
    (s.canHold sl gs = true → (s.liveRows x).any (fun r => (s.slc.rd sl).badRange (at' r) (x.x.rowLen r.2.1)) = true →
      exec (.rowOut q k) s = .next ((s.readDone sl gs x.x.rel).stepDone q k x .faulted .uncorr)) ∧
    (∀ w, s.canHold sl gs = true → (s.liveRows x).any (fun r => (s.slc.rd sl).badRange (at' r) (x.x.rowLen r.2.1)) = false →
      s.writeAll (.parcel x.p) 2 (s.parcel x.p).fabricId ps bs = .ok w →
      exec (.rowOut q k) s = .next ((w.readDone sl gs x.x.rel).stepDone q k x .ok .none))) ∧
  (∀ (s : State) (q : Fin 1024) (k : Fin 64) (x : StepCtx) (ps : List Piece), s.stepStarts q k 3 x → s.sourceUnread x = false →
    runPieces (x.exts 0) x.x.dva x.x.bytes = some ps →
    ∃ t, exec (.copy q k) s = .next t ∧ match s.readAll (.parcel x.p) 1 (s.parcel x.p).fabricId ps with
      | .ok bs w => (∀ ds v, runPieces (x.exts 1) x.x.dva2 (x.x.deliver bs).length = some ds → isWindow ds = false →
          (w.parcel x.p).sealed = false → w.writeAll (.parcel x.p) 2 (w.parcel x.p).fabricId ds (x.x.deliver bs) = .ok v →
          t = v.stepDone q k x .ok .none) ∧
        (∀ ds, runPieces (x.exts 1) x.x.dva2 (x.x.deliver bs).length = some ds → ds.all (fun p => p.back == .fabric 0xFFFF) = true → ds ≠ [] →
          t = ((w.dropGather (x.owner q k)).setItem q x.c.serial k .waiting).contribute q x.c.serial k x.p (windowRuns ds (x.x.deliver bs)))
      | .wait w => t = w
      | .start buf reqs w => t = w.stepRemote q k x 0 buf reqs
      | .fail st ca w => t = w.stepDone q k x st ca)

/-- DOORBELL and CPL_HEAD_WRITE (10 R371, R374, Table 10.2). -/
def Obligations.DoorbellsAndHeadsKeepTheRingRules : Prop :=
  ∀ (s : State) (q : Fin 1024) (v : U32),
    (s.awake = false → exec (.doorbell q v) s = .next s ∧ exec (.cplHeadWrite q v) s = .next s) ∧
    (s.awake = true →
      ((s.queue q).st = .closed ∨ (s.queue q).st = .faulted ∨
          (v - (s.queue q).descHead).toNat ≤ ((s.queue q).tail - (s.queue q).descHead).toNat →
        exec (.doorbell q v) s = .next ((s.updQ q (fun x => { x with stale := x.stale + 1 })).emit 57 0x342 0xFF q)) ∧
      ((s.queue q).st ≠ .closed → (s.queue q).st ≠ .faulted →
        ((s.queue q).tail - (s.queue q).descHead).toNat < (v - (s.queue q).descHead).toNat →
        ((v - (s.queue q).descHead).toNat ≤ 2 ^ (s.queue q).descLog2 → ∃ t, exec (.doorbell q v) s = .next t ∧
          t.queue q = { s.queue q with tail := v } ∧ (∀ m : Nat, m ≠ q.val → t.queue m = s.queue m) ∧ t = { s with queues := t.queues }) ∧
        (2 ^ (s.queue q).descLog2 < (v - (s.queue q).descHead).toNat → ∃ t, exec (.doorbell q v) s = .next t ∧
          t = (s.emit 57 0x343 0xFF q).faultQueue q ∧ (t.queue q).st = .faulted ∧ t.mem = s.mem)) ∧
      ((v - (s.queue q).cplHead).toNat ≤ ((s.queue q).cplTail - (s.queue q).cplHead).toNat → ∃ t, exec (.cplHeadWrite q v) s = .next t ∧
        t.queue q = { s.queue q with cplHead := v } ∧ (∀ m : Nat, m ≠ q.val → t.queue m = s.queue m) ∧ t = { s with queues := t.queues }) ∧
      (((s.queue q).cplTail - (s.queue q).cplHead).toNat < (v - (s.queue q).cplHead).toNat →
        exec (.cplHeadWrite q v) s = .next (s.emit 57 0x345 0xFF q)))

/-- QUEUE_OPEN, QUEUE_CLOSE and QUEUE_RESET (10 R366, R367). -/
def Obligations.QueuesOpenCloseAndReset : Prop :=
  ∀ (s : State) (by' : Principal) (q : Fin 1024), s.serving →
    (by' ≠ .hostk → by' ≠ .rtp → ∀ c ∈ [Instr.queueOpen by' q, .queueClose by' q, .queueReset by' q],
      exec c s = .next { s with reply := { status := .denied } }) ∧
    (by' = .hostk ∨ by' = .rtp → s.fatal = true → ∀ c ∈ [Instr.queueOpen by' q, .queueClose by' q, .queueReset by' q],
      exec c s = .next { s with reply := { status := .retired } }) ∧
    (by' = .hostk ∨ by' = .rtp → s.fatal = false →
      (s.queuesRetired = true ∨ s.svc.state ≠ 0 → exec (.queueOpen by' q) s = .next { s with reply := { status := .retired } }) ∧
      (s.queuesRetired = false → s.svc.state = 0 →
        ((s.queueParcel q).isNone = true ∨ s.jobOf q = none → exec (.queueOpen by' q) s = .next { s with reply := { status := .denied } }) ∧
        (∀ p slot, (s.queueParcel q).isNone = false → s.jobOf q = some (p, slot) →
          ((s.queue q).st ≠ .closed → exec (.queueOpen by' q) s = .next { s with reply := { status := .busy } }) ∧
          ((s.queue q).st = .closed → ¬(4 ≤ (s.queue q).descLog2 ∧ (s.queue q).descLog2 ≤ 12 ∧ 4 ≤ (s.queue q).cplLog2 ∧ (s.queue q).cplLog2 ≤ 12) →
            exec (.queueOpen by' q) s = .next { s with reply := { status := .unsupported } }) ∧
          ((s.queue q).st = .closed → ∃ t, exec (.queueOpen by' q) s = .next t ∧
            match s.openQueue q p (s.job p slot).cfg (decide ((s.job p slot).cfg = s.xlat.cfg.rd p)) with
            | .ok _ => t.reply = { status := .ok } ∧ (t.queue q).st = .opened ∧ (t.queue q).descHead = 0 ∧ (t.queue q).tail = 0 ∧
                (t.queue q).cplHead = 0 ∧ (t.queue q).cplTail = 0 ∧ (t.queue q).consumed = []
            | .wait u => t = u
            | .refused st u => t = { u with reply := { status := st } }))) ∧
      ((s.queue q).consumed = [] → ∃ t, exec (.queueClose by' q) s = .next t ∧ t.reply = { status := .ok } ∧ (t.queue q).st = .closed) ∧
      ((s.queue q).consumed ≠ [] → ∃ t, exec (.queueClose by' q) s = .next t ∧ t.queue q = { s.queue q with closing := true } ∧
        (∀ m : Nat, m ≠ q.val → t.queue m = s.queue m) ∧ t = { s with queues := t.queues }) ∧
      ((s.queue q).st = .closed → exec (.queueReset by' q) s = .next { s with reply := { status := .unsupported } }) ∧
      ((s.queue q).st ≠ .closed → ∃ t, exec (.queueReset by' q) s = .next t ∧ t.reply = { status := .ok } ∧ (t.queue q).st = .opened ∧
        (t.queue q).descHead = 0 ∧ (t.queue q).tail = 0 ∧ (t.queue q).cplHead = 0 ∧ (t.queue q).cplTail = 0))

/-- NOP, RUN and FIRST_FREE_PLACEMENT (10 R383-R385; 01 R29, R30). -/
def Obligations.RunsPlaceAndDispatchTheirTasks : Prop :=
  (∀ (s u : State) (q : Fin 1024) (p slot : Nat) (c : Cmd), s.starts q 0 p slot c u →
    exec (.nopCommand q) s = .next (u.setItem q c.serial 0 (.done .ok .none))) ∧
  (∀ (s u : State) (q : Fin 1024) (p slot : Nat) (c : Cmd), s.starts q 1 p slot c u →
    (∀ i, ((dTasks c.bytes).map (u.place p)).findIdx? (· == .bad) = some i →
      exec (.run q) s = .next (u.updCmd q c.serial (fun c => { c with refusal := some (.unsupported, .none), detail := i }))) ∧
    (∀ i, ((dTasks c.bytes).map (u.place p)).findIdx? (· == .bad) = none → ((dTasks c.bytes).map (u.place p)).findIdx? (· == .retired) = some i →
      exec (.run q) s = .next (u.updCmd q c.serial (fun c => { c with refusal := some (.retired, .none), detail := i }))) ∧
    ((∀ x ∈ dTasks c.bytes, u.place p x ≠ .bad ∧ u.place p x ≠ .retired) → ∃ t, exec (.run q) s = .next t ∧
      (∀ n, (t.engine n).inbox = (u.engine n).inbox ++
        ((dTasks c.bytes).zipIdx.filter (fun (x : TaskEntry × Nat) => u.place p x.1 == .engine n)).map (fun x => taskOf q p slot c x.2 x.1)) ∧
      (∀ n, (t.engine n).task = (u.engine n).task) ∧
      (t.parcel p).firstFree = (u.parcel p).firstFree ++
        ((dTasks c.bytes).zipIdx.filter (fun (x : TaskEntry × Nat) => u.place p x.1 == .free)).map (fun x => (q.val, c.serial, x.2)) ∧
      (∀ o, o ≠ p → t.parcel o = u.parcel o) ∧ (∀ m : Nat, m ≠ q.val → t.queue m = u.queue m) ∧
      t = { u with eng := t.eng, parcels := t.parcels, queues := t.queues })) ∧
  (∀ (s : State) (p : Fin 8),
    ((s.parcel p).firstFree = [] → exec (.firstFreePlacement p) s = .next s) ∧
    (∀ (q serial i p' slot : Nat) (rest : List (Nat × Nat × Nat)) (c : Cmd), (s.parcel p).firstFree = (q, serial, i) :: rest →
      (s.queue q).consumed.find? (fun c => c.serial == serial) = some c → s.jobOf q = some (p', slot) →
      let free := (maskBits 16 (s.parcel p).engines).filter s.freeEngine
      (free = [] → exec (.firstFreePlacement p) s = .next s) ∧
      (∀ n, (free.find? (fun n => (s.engine n).powered) = some n ∨ (free.find? (fun n => (s.engine n).powered) = none ∧ free.head? = some n)) →
        ∃ t, exec (.firstFreePlacement p) s = .next t ∧ (t.parcel p).firstFree = rest ∧
          (t.engine n).inbox = (s.engine n).inbox ++ [taskOf q p slot c i ((dTasks c.bytes).getD i {})] ∧
          (∀ m, m ≠ n → t.engine m = s.engine m) ∧ (∀ m, m ≠ q → t.queue m = s.queue m) ∧
          t = { s with eng := t.eng, parcels := t.parcels, queues := t.queues })))

/-- COMMAND_CONSUME (10 R373, R376, R381). -/
def Obligations.CommandsAreConsumedInRingOrder : Prop :=
  (∀ (s : State) (q : Fin 1024), (s.queue q).st ≠ .opened ∨ (s.queue q).closing = true ∨ 4 ≤ ((s.queue q).consumed.filter (fun c => c.gen.isNone)).length ∨
      (s.queue q).tail = (s.queue q).descHead ∨ s.jobOf q = none ∨ s.fatal = true ∨ s.isOpen = false →
    exec (.commandConsume q) s = .next s) ∧
  (∀ (s u v : State) (q : Fin 1024) (p slot : Nat) (b bs : List Byte), s.isOpen = true → s.fatal = false → (s.queue q).st = .opened →
    (s.queue q).closing = false → ((s.queue q).consumed.filter (fun c => c.gen.isNone)).length < 4 → s.jobOf q = some (p, slot) →
    s.xlatShut p = false → (s.queue q).tail ≠ (s.queue q).descHead →
    ringRead (s.queue q) (.job p slot) 1 (s.queue q).descHead.toNat s [] = .ok b u →
    ringRead (s.queue q) (.job p slot) (dSlots b) ((s.queue q).descHead.toNat + 1) u b = .ok bs v →
    (((s.queue q).tail - (s.queue q).descHead).toNat < 1 + dSlots b → exec (.commandConsume q) s = .next u) ∧
    (1 + dSlots b ≤ ((s.queue q).tail - (s.queue q).descHead).toNat → ∃ t, exec (.commandConsume q) s = .next t ∧
      (descBad false bs = true →
        t = v.pushCmd q { bytes := bs, refusal := some (.unsupported, .none), detail := 0xFF, faultSeq := 0, items := itemsOf bs }) ∧
      (descBad false bs = false → v.stepQueue p slot q = false → v.migBlocked p bs = false → (v.parcel p).sealed = false →
        ∀ rec w, v.preCommand p (v.job p slot).cfg (decide ((v.job p slot).cfg = v.xlat.cfg.rd p)) bs = .ok rec w → (w.parcel p).sealed = false →
        t = (w.pushCmd q { bytes := bs, record := rec, items := itemsOf bs }).refreshJobs p))) ∧
  (∀ (s : State) (q : Nat) (c : Cmd), ∃ d : Cmd, d = { c with serial := s.serial, index := (s.queue q).descHead.toNat } ∧
    ((s.pushCmd q c).queue q) = { s.queue q with descHead := (s.queue q).descHead + BitVec.ofNat 32 (1 + dSlots c.bytes), consumed := (s.queue q).consumed ++ [d] } ∧
    (∀ m, m ≠ q → (s.pushCmd q c).queue m = s.queue m))

/-- COMMAND_COMPLETE, COMPLETION_DELIVERY and WATCHDOG_EXPIRY (09 R357, R363; 10 R386-R393). FAULT_RESPONSE_RETRY and FAULT_RESPONSE_FAIL (08 R303, R304). -/
def Obligations.CommandsEndAndFaultsAreAnswered : Prop :=
  (
  (∀ (s : State) (q : Fin 1024), (s.queue q).consumed = [] ∨ (∃ c cs, (s.queue q).consumed = c :: cs ∧ (c.isOver = false ∨ (s.queue q).heldCpl = true)) →
    exec (.commandComplete q) s = .next s) ∧
  (∀ (s : State) (q : Fin 1024) (c : Cmd) (cs : List Cmd), (s.queue q).consumed = c :: cs → c.gen = none →
    (c.stamped = true ∨ c.stampExts = []) →
    let full := (s.queue q).cplTail - (s.queue q).cplHead
    let slot := (s.queue q).cplBase + 32 * ((s.queue q).cplTail.toNat % 2 ^ (s.queue q).cplLog2)
    (c.isOver = true → (s.queue q).heldCpl = false → 2 ^ (s.queue q).cplLog2 ≤ full.toNat → ∃ t, exec (.commandComplete q) s = .next t ∧
      t.queue q = { s.queue q with heldCpl := true } ∧ (∀ m : Nat, m ≠ q.val → t.queue m = s.queue m) ∧ t = { s with queues := t.queues }) ∧
    (c.isOver = true → (s.queue q).heldCpl = false → full.toNat < 2 ^ (s.queue q).cplLog2 →
      ∀ w, s.writeDva (s.whoOf q) (s.queue q).cplRing slot (s.cplBytes q c) = .ok () w →
        exec (.commandComplete q) s = .next (let v := w.updQ q (fun x => { x with cplTail := x.cplTail + 1 })
          (if dIrq c.bytes = true then v.interrupt (s.queue q).vector else v).retireCmd q c)) ∧
    ((s.queue q).heldCpl = true → 2 ^ (s.queue q).cplLog2 ≤ full.toNat → ∃ t, exec (.completionDelivery q) s = .next t ∧ t.queue q = s.queue q ∧
      (∀ m : Nat, m ≠ q.val → t.queue m = s.queue m) ∧ t = { s with queues := t.queues })) ∧
  (∀ (s : State) (q : Fin 1024), (s.queue q).consumed = [] ∨ (s.queue q).heldCpl = false → exec (.completionDelivery q) s = .next s) ∧
  (∀ (s : State) (q : Fin 1024) (c : Cmd) (cs : List Cmd), (s.queue q).consumed = c :: cs → c.gen = none → (s.queue q).heldCpl = true →
    let u := s.updQ q (fun x => { x with heldCpl := false })
    ((s.queue q).cplTail - (s.queue q).cplHead).toNat < 2 ^ (s.queue q).cplLog2 →
      ∀ w, u.writeDva (u.whoOf q) (u.queue q).cplRing ((s.queue q).cplBase + 32 * ((s.queue q).cplTail.toNat % 2 ^ (s.queue q).cplLog2)) (u.cplBytes q c) = .ok () w →
        exec (.completionDelivery q) s = .next (let v := w.updQ q (fun x => { x with cplTail := x.cplTail + 1 })
          (if dIrq c.bytes = true then v.interrupt (s.queue q).vector else v).retireCmd q c)) ∧
  (∀ (s : State) (q : Fin 1024) (c : Cmd) (cs : List Cmd) (p slot : Nat), (s.queue q).consumed = c :: cs → s.jobOf q = some (p, slot) →
    (c.started = false ∨ c.isOver = true ∨ c.stopped ≠ none → exec (.watchdogExpiry q) s = .next s) ∧
    (c.started = true → c.isOver = false → c.stopped = none → (s.parcel p).holder = some slot → s.cmdHeld q c.serial = false →
      ∃ t, exec (.watchdogExpiry q) s = .next t ∧ t = ((s.reach c.watchdogAt).emit 57 0x344 p q).stopCmd q c.serial .watchdog ∧
        c.watchdogAt ≤ t.now ∧ s.now ≤ t.now ∧ t.mem = s.mem))
  ) ∧
  (
  ∀ (s : State) (by' : Principal) (n : U64), s.serving →
    (by' ≠ .hostk → exec (.faultResponseRetry by' n) s = .next { s with reply := { status := .denied } } ∧
      exec (.faultResponseFail by' n) s = .next { s with reply := { status := .denied } }) ∧
    (s.parkedBy n.toNat = none → exec (.faultResponseRetry .hostk n) s = .next { s with reply := { status := .unsupported } } ∧
      exec (.faultResponseFail .hostk n) s = .next { s with reply := { status := .unsupported } }) ∧
    (∀ k p slot, s.parkedBy n.toNat = some k → s.jobOf k.queue = some (p, slot) →
      let u := State.updQ { s with xlat := { s.xlat with parked := s.xlat.parked.filter (fun j => j.seq ≠ k.seq) } } k.queue (fun x => { x with st := .opened })
      (k.consumed = none → exec (.faultResponseFail .hostk n) s = .next
        { (u.pushCmd k.queue { bytes := k.bytes, refusal := some (.faulted, k.cause), detail := k.region, faultSeq := k.seq, items := itemsOf k.bytes }).faultJob
            p slot k.cause.code with reply := { status := .ok } }) ∧
      (∀ m, k.consumed = some m → exec (.faultResponseFail .hostk n) s = .next
        { (u.updCmd k.queue m (fun c => { c with refusal := some (.faulted, k.cause), detail := k.region, faultSeq := k.seq })).faultJob
            p slot k.cause.code with reply := { status := .ok } }) ∧
      (s.xlatShut p = true → exec (.faultResponseRetry .hostk n) s = .next s) ∧
      (s.xlatShut p = false → s.migBlocked p k.bytes = false → ∃ t, exec (.faultResponseRetry .hostk n) s = .next t ∧ t.reply = { status := .ok } ∧
        (k.consumed = none → ∃ w, w = State.updQ { s.cacheDrop p k.dva (k.dva + k.len) with
            xlat := { (s.cacheDrop p k.dva (k.dva + k.len)).xlat with
              parked := (s.cacheDrop p k.dva (k.dva + k.len)).xlat.parked.filter (fun j => j.seq ≠ k.seq) } } k.queue (fun x => { x with st := .opened }) ∧
          t = { (w.acceptDesc k.queue p slot k.bytes).refreshJobs p with reply := { status := .ok } })))
  )

/-- RD_S, RD_O and UPG (07 R249-R258). WB, EVICT, ACK, ACK_D, GNT_ACK and SNOOP_SLOW (07 R253-R259). -/
def Obligations.CoherenceRequestsAndAnswersMoveLines : Prop :=
  (
  ∀ (s : State) (h : Fin 16) (l : Nat) (c : Instr) (rq : DirReq), (c, rq) ∈ [(Instr.rdS h l, DirReq.rdS), (.rdO h l, .rdO), (.upg h l, .upg)] →
    (s.straps.hostLink = false → exec c s = .next s) ∧
    (s.straps.hostLink = true → s.paReaches (l * 128) 128 = false → exec c s = .next { s with reply := { status := .faulted } }) ∧
    (s.straps.hostLink = true → s.paReaches (l * 128) 128 = true → s.paAllowed .host (l * 128) 128 = false →
      exec c s = .next { s with reply := { status := .denied } }) ∧
    (s.straps.hostLink = true → s.paReaches (l * 128) 128 = true → s.paAllowed .host (l * 128) 128 = true →
      ((s.dirLine l).txn ≠ none → ∃ t, exec c s = .next t ∧ t.dirLine l = { s.dirLine l with queue := (s.dirLine l).queue ++ [(rq, .host h)] } ∧
        (∀ m, m ≠ l → t.dirLine m = s.dirLine m) ∧ t = { s with mem := { s.mem with dir := t.mem.dir } }) ∧
      ((s.dirLine l).txn = none → (s.dirLine l).queue = [] → (s.dirLine l).st ≠ .uncached →
        let me : Agent := .host h
        let hs := (s.dirLine l).st.holders
        let eff : DirReq := if rq = .upg ∧ me ∉ hs then .rdO else rq
        let wait := if rq = .rdS then (match (s.dirLine l).st with | .owned o => if o = h.val then [] else [.host o] | _ => [])
          else hostAgents (hs.filter (· ≠ me))
        ∃ t x, exec c s = .next t ∧ (t.dirLine l).txn = some x ∧ x.req = eff ∧ x.agent = some me ∧ x.awaiting = wait ∧ x.granted = wait.isEmpty ∧
          (t.dirLine l).queue = [] ∧ t.mem.loc = s.mem.loc ∧ (∀ m, m ≠ l → t.dirLine m = s.dirLine m) ∧
          (wait = [] → t.sent = .grant me eff l (if eff = .upg then [] else memRead s.mem.loc (l * 128) 128) (s.mem.badLoc.contains l) :: s.sent) ∧
          t.sent.length = s.sent.length + (if wait = [] then 1 else wait.length) ∧
          (∀ a ∈ wait, .snoop a (decide (rq ≠ .rdS)) l ∈ t.sent) ∧ t = { s with mem := t.mem, sent := t.sent }))
  ) ∧
  (
  (∀ (s : State) (h : Fin 16) (l : Nat) (data : List Byte), s.straps.hostLink = true → data.length = 128 →
    ((s.dirLine l).st ≠ .owned h → exec (.wb h l data) s = .next s ∧ exec (.evict h l) s = .next s) ∧
    ((s.dirLine l).st = .owned h →
      ∃ t u, exec (.wb h l data) s = .next t ∧ exec (.evict h l) s = .next u ∧ memRead t.mem.loc (l * 128) 128 = data ∧
        (∀ a, a < l * 128 ∨ l * 128 + 128 ≤ a → t.mem.loc.rd a = s.mem.loc.rd a) ∧ u.mem.loc = s.mem.loc ∧
        Sent.wbDone (.host h) l ∈ t.sent ∧ Sent.wbDone (.host h) l ∈ u.sent ∧
        ((s.dirLine l).queue = [] → (t.dirLine l).st = .uncached ∧ (u.dirLine l).st = .uncached ∧
          t.sent = .wbDone (.host h) l :: s.sent ∧ u.sent = .wbDone (.host h) l :: s.sent))) ∧
  (∀ (s : State) (h : Fin 16) (l : Nat) (data : List Byte), s.snooped h l = false → exec (.ack h l) s = .next s ∧ exec (.ackD h l data) s = .next s) ∧
  (∀ (s : State) (h : Fin 16) (l : Nat) (data : List Byte) (x : DirTxn), (s.dirLine l).txn = some x → .host h ∈ x.awaiting → data.length = 128 →
    (x.awaiting.erase (.host h) ≠ [] → ∃ t u, exec (.ack h l) s = .next t ∧ exec (.ackD h l data) s = .next u ∧
      (t.dirLine l).txn = some { x with awaiting := x.awaiting.erase (.host h) } ∧ t.mem.loc = s.mem.loc ∧ t.sent = s.sent ∧
      (u.dirLine l).txn = some { x with awaiting := x.awaiting.erase (.host h) } ∧ memRead u.mem.loc (l * 128) 128 = data ∧
      (∀ a, a < l * 128 ∨ l * 128 + 128 ≤ a → u.mem.loc.rd a = s.mem.loc.rd a)) ∧
    (∀ b, x.awaiting.erase (.host h) = [] → x.req = .rdS → x.agent = some b → ∃ t u, exec (.ack h l) s = .next t ∧ exec (.ackD h l data) s = .next u ∧
      (t.dirLine l).st = (match (s.dirLine l).st with | .owned o => .shared [.host o] | st => st) ∧
      t.sent = .grant b .rdS l (memRead s.mem.loc (l * 128) 128) (s.mem.badLoc.contains l) :: s.sent ∧
      u.sent = .grant b .rdS l data false :: s.sent)) ∧
  (∀ (s : State) (h : Fin 16) (l : Nat),
    ((∀ x, (s.dirLine l).txn = some x → x.granted = false ∨ x.agent ≠ some (.host h)) → exec (.gntAck h l) s = .next s) ∧
    (∀ x, (s.dirLine l).txn = some x → x.granted = true → x.agent = some (.host h) →
      (∀ m, (s.dirLine m).queue = []) → ∃ t, exec (.gntAck h l) s = .next t ∧ (t.dirLine l).txn = none ∧
        (t.dirLine l).st = (if x.req = .rdS then (match (s.dirLine l).st with
          | .shared hs => .shared (hs.filter (· ≠ .host h) ++ [.host h]) | _ => .shared [.host h]) else .owned h) ∧
        (∀ m, m ≠ l → t.dirLine m = s.dirLine m) ∧ t = { s with mem := { s.mem with dir := t.mem.dir } })) ∧
  (∀ (s : State) (h : Fin 16) (l us : Nat),
    (s.snooped h l = true → 10 ≤ us → exec (.snoopSlow h l us) s = .next (s.emit 52 0x314 0xFF us)) ∧
    (s.snooped h l = false ∨ us < 10 → exec (.snoopSlow h l us) s = .next s))
  )

/-- SRAM_PATROL, MC_PATROL and HOST_DC_WAYS_WRITE (07 R236-R240, R261-R265; 20 R753). -/
def Obligations.PatrolsAndCacheWays : Prop :=
  (∀ (s : State) (data check : List (Fin 7 × Nat)) (bad : List (Fin 7 × Nat × Nat)),
    (s.awake = false ∨ s.start.step < 29 → exec (.sramPatrol data check bad) s = .next s)) ∧
  (∀ (s : State) (arr : Fin 7) (a : Nat), s.awake = true → 29 ≤ s.start.step →
    ∃ t u, exec (.sramPatrol [(arr, a)] [] []) s = .next t ∧ exec (.sramPatrol [] [(arr, a)] []) s = .next u ∧
      t.mem.ecc.rd arr = { s.mem.ecc.rd arr with dataCorr := (s.mem.ecc.rd arr).dataCorr + 1 } ∧
      u.mem.ecc.rd arr = { s.mem.ecc.rd arr with checkCorr := (s.mem.ecc.rd arr).checkCorr + 1 } ∧
      t.now = Nat.max s.now (nextMultiple s.now (1000000 * Nat.max 1 s.mem.sramPatrolMs)) ∧
      (∀ k : Nat, k ≠ arr.val → t.mem.ecc.rd k = s.mem.ecc.rd k ∧ u.mem.ecc.rd k = s.mem.ecc.rd k) ∧ t.mem.loc = s.mem.loc ∧ u.mem.loc = s.mem.loc) ∧
  (∀ (s : State) (c : Fin 4) (data check : Nat) (bad : List Nat),
    (s.awake = false ∨ (s.mem.mc.rd c).st ≠ .running ∨ (s.mem.mc.rd c).eccInForce = 0 → exec (.mcPatrol c data check bad) s = .next s) ∧
    (s.awake = true → (s.mem.mc.rd c).st = .running → (s.mem.mc.rd c).eccInForce ≠ 0 → ∃ t, exec (.mcPatrol c data check bad) s = .next t ∧
      t.now = Nat.max s.now (nextMultiple s.now (3600000000000 * Nat.max 1 s.mem.mcPatrolHours)) ∧
      (t.mem.ecc.rd (7 + c)).dataCorr = (s.mem.ecc.rd (7 + c)).dataCorr + BitVec.ofNat 32 data ∧
      (t.mem.ecc.rd (7 + c)).checkCorr = (s.mem.ecc.rd (7 + c)).checkCorr + BitVec.ofNat 32 check ∧
      (∀ l, l ∈ t.mem.badLoc ↔ l ∈ s.mem.badLoc ∨
        (l ∈ bad ∧ l * 128 / mcWindow = c.val ∧ l * 128 % mcWindow + 128 ≤ (s.mem.mc.rd c).reach)) ∧
      t.mem.loc = s.mem.loc ∧ t = { s with now := t.now, events := t.events, gaps := t.gaps, mem := t.mem, ledger := t.ledger })) ∧
  (∀ (s : State) (by' : Principal) (v : U16), s.serving →
    (by' ≠ .rtp → exec (.hostDcWaysWrite by' v) s = .next { s with reply := { status := .denied } }) ∧
    ((∃ p : Nat, p < 8 ∧ (s.parcel p).dcWays &&& v.toNat ≠ 0) →
      exec (.hostDcWaysWrite .rtp v) s = .next { s with reply := { status := .unsupported } }) ∧
    ((∀ p : Nat, p < 8 → (s.parcel p).dcWays &&& v.toNat = 0) →
      (s.mem.retiredWays &&& v.toNat ≠ 0 → exec (.hostDcWaysWrite .rtp v) s = .next { s with reply := { status := .retired } }) ∧
      (s.mem.retiredWays &&& v.toNat = 0 → ∃ t, exec (.hostDcWaysWrite .rtp v) s = .next t ∧ t.mem.hostWays = v.toNat ∧
        t.reply = { status := .ok } ∧ t.mem.loc = s.mem.loc ∧
        (∀ w x, w < 16 → x < 8192 → t.mem.dc.rd (dcKey w x) =
          if bitAt s.mem.hostWays w = true ∧ bitAt v.toNat w = false then default else s.mem.dc.rd (dcKey w x)) ∧
        t = { s with reply := t.reply, mem := { s.mem with hostWays := t.mem.hostWays, dc := t.mem.dc } })))

/-- FAULT_RING_WRITE, FAULT_RING_HEAD_WRITE and FAULT_RECORD_DELIVERY (08 R301, R302). -/
def Obligations.FaultRingKeepsItsRanges : Prop :=
  (∀ (s : State) (by' : Principal) (base : U64) (kind log2 : Byte) (tail : U32), s.serving →
    (by' ≠ .hostk → by' ≠ .rtp → exec (.faultRingWrite by' base kind log2 tail) s = .next { s with reply := { status := .denied } }) ∧
    (by' = .hostk ∨ by' = .rtp →
      (base.toNat % 32 ≠ 0 ∨ (kind ≠ 0 ∧ kind ≠ 2) ∨ ¬(log2 = 0 ∨ (6 ≤ log2.toNat ∧ log2.toNat ≤ 12)) →
        exec (.faultRingWrite by' base kind log2 tail) s = .next { s with reply := { status := .unsupported } }) ∧
      (base.toNat % 32 = 0 → kind = 0 ∨ kind = 2 → log2 = 0 ∨ (6 ≤ log2.toNat ∧ log2.toNat ≤ 12) →
        exec (.faultRingWrite by' base kind log2 tail) s = .next { s with
          reply := { status := .ok }
          xlat := { s.xlat with ringBase := base.toNat, ringKind := kind.toNat, ringLog2 := log2.toNat, ringTail := 0, ringHead := 0 } }))) ∧
  (∀ (s : State) (by' : Principal) (v : U32), s.serving →
    (by' ≠ .hostk → exec (.faultRingHeadWrite by' v) s = .next { s with reply := { status := .denied } }) ∧
    ((s.xlat.ringTail - s.xlat.ringHead).toNat < (v - s.xlat.ringHead).toNat →
      exec (.faultRingHeadWrite .hostk v) s = .next { s with reply := { status := .unsupported } }) ∧
    ((v - s.xlat.ringHead).toNat ≤ (s.xlat.ringTail - s.xlat.ringHead).toNat →
      exec (.faultRingHeadWrite .hostk v) s = .next { s with reply := { status := .ok }, xlat := { s.xlat with ringHead := v } })) ∧
  (∀ s : State, s.xlat.held = [] ∨ s.xlat.ringFull = true → exec .faultRecordDelivery s = .next s) ∧
  (∀ (s : State) (f : FaultRec) (fs : List FaultRec), s.xlat.held = f :: fs → s.xlat.ringFull = false →
    ∃ t, exec .faultRecordDelivery s = .next t ∧
      match State.writePiece { s with xlat := { s.xlat with held := fs } } .host
          { back := if s.xlat.ringKind = 2 then .host else .loc, addr := s.xlat.ringBase + 32 * (s.xlat.ringTail.toNat % 2 ^ s.xlat.ringLog2),
            len := 32, nocache := false, dva := 0 } (faultBytes f) with
      | .ok _ w => t.xlat = { w.xlat with ringTail := w.xlat.ringTail + 1 } ∧ t.mem = w.mem ∧
          t.sent = (if w.link.faultVector = 0xFFFF then w.sent else .intr w.link.faultVector :: w.sent)
      | .wait w => t.xlat.held = f :: w.xlat.held
      | _ => t = State.emit { s with xlat := { s.xlat with held := fs } } 58 0x321 f.parcel f.cause.code)

/-- SHOOTDOWN and SHOOTDOWN_COMPLETE (08 R306-R311). -/
def Obligations.ShootdownsOpenAndComplete : Prop :=
  (∀ (s : State) (by' : Principal) (parcel force : Byte) (reserved : U16) (tag : U32) (start len : U64), s.serving →
    let w := Instr.shootdown by' parcel force reserved tag start len
    (by' ≠ .hostk → by' ≠ .rtp → exec w s = .next { s with reply := { status := .denied } }) ∧
    (by' = .hostk ∨ by' = .rtp →
      (7 < parcel.toNat ∨ 1 < force.toNat ∨ reserved ≠ 0 → exec w s = .next { s with reply := { status := .unsupported } }) ∧
      (parcel.toNat ≤ 7 → force.toNat ≤ 1 → reserved = 0 → 8 ≤ s.xlat.shoots.length →
        exec w s = .next { s with reply := { status := .busy, retryUs := 10 } }) ∧
      (parcel.toNat ≤ 7 → force = 0 → reserved = 0 → s.xlat.shoots.length < 8 → ∃ t, exec w s = .next t ∧ t.reply = { status := .ok } ∧
        t.xlat.shoots = s.xlat.shoots ++ [{ parcel := parcel.toNat, tag := some tag, start := if len = 0 then 0 else start.toNat,
                                            len := if len = 0 then 2 ^ 48 else len.toNat }] ∧
        (∀ e ∈ t.xlat.cache.rd parcel.toNat, e ∈ s.xlat.cache.rd parcel.toNat ∧
          (len ≠ 0 → e.start + e.len ≤ start.toNat ∨ start.toNat + len.toNat ≤ e.start)) ∧
        (∀ o, o ≠ parcel.toNat → t.xlat.cache.rd o = s.xlat.cache.rd o) ∧
        t = { s with reply := t.reply, xlat := { s.xlat with shoots := t.xlat.shoots, cache := t.xlat.cache },
                     queues := t.queues, caddy := t.caddy }) ∧
      (parcel.toNat ≤ 7 → force = 1 → reserved = 0 → s.xlat.shoots.length < 8 →
        let lo := if len = 0 then 0 else start.toNat
        let hi := if len = 0 then 2 ^ 48 else start.toNat + len.toNat
        let u : State := { s with xlat := { s.xlat with
          shoots := s.xlat.shoots ++ [{ parcel := parcel.toNat, tag := some tag, start := lo, len := hi - lo }] } }
        exec w s = .next { ((u.cacheDrop parcel.toNat lo hi).markRetrans parcel.toNat lo hi).forceStop parcel.toNat lo hi with reply := { status := .ok } }))) ∧
  (∀ s : State, s.xlat.shoots = [] → exec .shootdownComplete s = .next s) ∧
  (∀ (s : State) (sh : Shoot) (rest : List Shoot) (q : Nat), s.xlat.shoots = sh :: rest → q ∈ s.queueList →
    (s.runsOver sh.parcel sh.start (if sh.len = 0 then 2 ^ 48 else sh.start + sh.len) q).isSome = true → exec .shootdownComplete s = .next s) ∧
  (∀ (s : State) (sh : Shoot) (rest : List Shoot), s.xlat.shoots = sh :: rest → s.queues = [] → s.streams = [] →
    exec .shootdownComplete s = .next (match sh.tag with
      | some g => { s with xlat := { s.xlat with shoots := rest, shootDone := g } }
      | none => { s with xlat := { s.xlat with shoots := rest }, reply := { status := .ok } }))

/-- XLAT_CONFIG_WRITE (08 R275-R279, R308). ADVISE_NORMAL, _STREAM, _KEEP and _DROP, PREFETCH_WARM and _MIGRATE, SEM_FORCE_ABANDON (08 R316-R324; 09 R356). -/
def Obligations.TranslationConfigurationAndAdvice : Prop :=
  (
  ∀ (s : State) (by' : Principal) (p : Fin 8) (mode kind : Byte) (count : U16) (reserved : U32) (base apBase apLen apOff : U64), s.serving →
    let c : XlatConfig := { mode := mode.toNat, tableKind := kind.toNat, count := count.toNat, base := base.toNat, apBase := apBase.toNat,
                            apLen := apLen.toNat, apOff := apOff }
    let w := Instr.xlatConfigWrite by' p mode kind count reserved base apBase apLen apOff
    (by' ≠ .hostk → by' ≠ .rtp → exec w s = .next { s with reply := { status := .denied } }) ∧
    (by' = .hostk ∨ by' = .rtp →
      (reserved ≠ 0 ∨ s.cfgOk c = false → exec w s = .next { s with reply := { status := .unsupported } }) ∧
      (c.mode > 2 ∨ (kind ≠ 0 ∧ kind ≠ 2) ∨ apBase.toNat + apLen.toNat > 2 ^ 48 ∨ (kind = 0 ∧ c.mode ≠ 0 ∧ c.base + c.tableBytes > 2 ^ 36) →
        s.cfgOk c = false) ∧
      (reserved = 0 → s.cfgOk c = true →
        (s.hasJob p = false → ∃ t, exec w s = .next t ∧ t.xlat.cfg.rd p = c ∧ (∀ o : Nat, o ≠ p.val → t.xlat.cfg.rd o = s.xlat.cfg.rd o) ∧
          (∀ e ∈ t.xlat.cache.rd p, 2 ^ 48 ≤ e.start ∨ e.start + e.len = 0) ∧ (∀ o : Nat, o ≠ p.val → t.xlat.cache.rd o = s.xlat.cache.rd o) ∧
          t.reply = { status := .ok } ∧ t = { s with reply := t.reply, xlat := { s.xlat with cfg := t.xlat.cfg, cache := t.xlat.cache } }) ∧
        (s.hasJob p = true →
          ({ s.xlat.cfg.rd p with base := c.base, count := c.count } ≠ c → exec w s = .next { s with reply := { status := .busy } }) ∧
          ({ s.xlat.cfg.rd p with base := c.base, count := c.count } = c → 8 ≤ s.xlat.shoots.length →
            exec w s = .next { s with reply := { status := .busy, retryUs := 10 } }) ∧
          ({ s.xlat.cfg.rd p with base := c.base, count := c.count } = c → s.xlat.shoots.length < 8 → ∃ t, exec w s = .next t ∧
            t.xlat.cfg.rd p = c ∧ t.xlat.shoots = s.xlat.shoots ++ [{ parcel := p, tag := none, start := 0, len := 0 }] ∧ t.reply = s.reply ∧
            t = { s with xlat := { s.xlat with cfg := t.xlat.cfg, cache := t.xlat.cache, shoots := t.xlat.shoots },
                         queues := t.queues, jobs := t.jobs }))))
  ) ∧
  (
  (∀ (s u : State) (q : Fin 1024) (p slot : Nat) (c : Cmd) (i : Instr) (k : Advice) (arg : Nat),
    (i, k, arg) ∈ [(Instr.adviseStream q, Advice.stream, 1), (.adviseKeep q, .keep, 2)] → s.startsForm q 5 arg p slot c u →
    let l := u.xlat.advice.rd p ++ [{ kind := k, start := (dRange c.bytes).1, len := (dRange c.bytes).2 }]
    ∃ t, exec i s = .next t ∧ t.xlat.advice.rd p = l.drop (l.length - 16) ∧ (∀ o, o ≠ p → t.xlat.advice.rd o = u.xlat.advice.rd o) ∧
      (l.length ≤ 16 → t = State.setItem { u with xlat := { u.xlat with advice := t.xlat.advice } } q c.serial 0 (.done .ok .none)) ∧
      t = { u with xlat := { u.xlat with advice := t.xlat.advice }, events := t.events, gaps := t.gaps, queues := t.queues }) ∧
  (∀ (s u : State) (q : Fin 1024) (p slot : Nat) (c : Cmd), s.startsForm q 5 0 p slot c u →
    let l := cutAdvice (dRange c.bytes).1 ((dRange c.bytes).1 + (dRange c.bytes).2) (u.xlat.advice.rd p)
    ∃ t, exec (.adviseNormal q) s = .next t ∧ t.xlat.advice.rd p = l.drop (l.length - 16) ∧
      (∀ r ∈ t.xlat.advice.rd p, r.start + r.len ≤ (dRange c.bytes).1 ∨ (dRange c.bytes).1 + (dRange c.bytes).2 ≤ r.start) ∧
      t = { u with xlat := { u.xlat with advice := t.xlat.advice }, events := t.events, gaps := t.gaps, queues := t.queues }) ∧
  (∀ (s u : State) (q : Fin 1024) (p slot : Nat) (c : Cmd), s.startsForm q 5 3 p slot c u →
    ∃ t, exec (.adviseDrop q) s = .next t ∧ t.mem.loc = u.mem.loc ∧
      t = State.setItem { u with mem := { u.mem with dc := t.mem.dc } } q c.serial 0 (.done .ok .none)) ∧
  (∀ (s u : State) (q : Fin 1024) (p slot : Nat) (c : Cmd), s.startsForm q 4 1 p slot c u →
    ∃ t, exec (.prefetchWarm q) s = .next t ∧ match runPieces (recOf c.record 0) (dRange c.bytes).1 (dRange c.bytes).2 with
      | none => t = u.setItem q c.serial 0 (.done .faulted .exec)
      | some ps => match u.readPieces (.parcel p) (ps.filter (fun x => x.back == .loc && !x.nocache)) with
        | .ok _ w => t = w.setItem q c.serial 0 (.done .ok .none)
        | .wait w => t = w
        | .remote _ _ => t = u.setItem q c.serial 0 (.done .ok .none)
        | .fail st ca => t = u.setItem q c.serial 0 (.done st ca)) ∧
  (∀ (s u : State) (q : Fin 1024) (p slot : Nat) (c : Cmd), s.startsForm q 4 0 p slot c u → (u.job p slot).cfg.mode ≠ 1 →
    exec (.prefetchMigrate q) s = .next (u.setItem q c.serial 0 (.done .unsupported .none))) ∧
  (∀ (s : State) (by' : Principal) (n : Byte), s.serving →
    (by' ≠ .hostk → by' ≠ .rtp → exec (.semForceAbandon by' n) s = .next { s with reply := { status := .denied } }) ∧
    (by' = .hostk ∨ by' = .rtp →
      ((s.sems.rd n.toNat).st ≠ .held → exec (.semForceAbandon by' n) s = .next { s with reply := { status := .ok } }) ∧
      ((s.sems.rd n.toNat).st = .held → exec (.semForceAbandon by' n) s = .next
        { (State.emit { s with sems := s.sems.wr n.toNat { s.sems.rd n.toNat with st := .abandoned, abandons := (s.sems.rd n.toNat).abandons + 1 } }
            57 0x330 0xFF n.toNat).semSettle with reply := { status := .ok } })))
  )

/-- ATOMICOP_REQUESTER_ENABLE_CHANGE (22 R799). -/
def Obligations.HostAtomicsFollowThePackage : Prop :=
  ∀ (s : State) (enable : Bool), ∃ t, exec (.atomicopRequesterEnableChange enable) s = .next t ∧
    (s.straps.packageP = true → t.xlat.casAvailable = true) ∧ (s.straps.packageP = false → t.xlat.casAvailable = enable) ∧
    t = { s with xlat := { s.xlat with casAvailable := t.xlat.casAvailable } }

/-- MRD and MWR bursts (10 R395). -/
def Obligations.BurstsKeepTheirBounds : Prop :=
  ∀ (s : State) (agent : Fin 16) (tag : BitVec 12) (a : Nat), s.attached = true → s.straps.hostLink = true →
    (∀ len, a % 128 ≠ 0 ∨ 2048 < a % 2048 + len → ∃ t, exec (.mrd agent tag false a len) s = .next t ∧
      t.sent = .cmp agent tag.toNat .unsupported [] :: s.sent ∧ t = { s with sent := t.sent, link := { s.link with reads := t.link.reads } }) ∧
    (∀ (beats : Fin 17) (data : List Byte), a % 128 ≠ 0 ∨ 2048 < a % 2048 + 128 * beats.val →
      exec (.mwr agent tag false a beats data) s = .next { s with sent := .cmp agent tag.toNat .unsupported [] :: s.sent })

/-- MRD, MWR, MWR_P and CMP (07 R245-R258; 10 R394-R396). AGENT_RESET, LINK_RESET and ATTACH_RESET (10 R396, R397; 18 R679). -/
def Obligations.HostAccessesAndTheBurstGuard : Prop :=
  (
  (∀ (s : State) (agent : Fin 16) (tag : BitVec 12) (a len : Nat), s.attached = true → s.memoryWaits = false → s.badBurst a len = false →
    (∀ st, s.hostBar a len = some st → ∃ t, exec (.mrd agent tag false a len) s = .next t ∧ t.sent = .cmp agent tag.toNat st [] :: s.sent ∧ t.mem = s.mem) ∧
    (s.hostBar a len = none → (∀ l ∈ linesOf a len, s.lineBusy false l = false) → ∃ t, exec (.mrd agent tag false a len) s = .next t ∧
      t.sent = (if s.mem.badLoc.any (fun l => (linesOf a len).contains l) = true then .cmp agent tag.toNat .faulted []
        else .cmp agent tag.toNat .ok (memRead s.mem.loc a len)) :: s.sent ∧ t.mem.loc = s.mem.loc ∧
      t = { s with sent := t.sent, mem := t.mem, link := { s.link with reads := t.link.reads } })) ∧
  (∀ (s : State) (agent : Fin 16) (tag : BitVec 12) (a : Nat) (data : List Byte), s.attached = true → s.memoryWaits = false →
    1 ≤ data.length → data.length ≤ 64 → a % 128 + data.length ≤ 128 →
    (∀ st, s.hostBar a data.length = some st → exec (.mwrP agent tag false a data) s = .next { s with sent := .cmp agent tag.toNat st [] :: s.sent }) ∧
    (s.hostBar a data.length = none → (∀ l ∈ linesOf a data.length, s.lineBusy true l = false) → ∃ t, exec (.mwrP agent tag false a data) s = .next t ∧
      t.sent = .cmp agent tag.toNat .ok [] :: s.sent ∧ t.mem.loc = memWrite s.mem.loc a data ∧ memRead t.mem.loc a data.length = data ∧
      (∀ x, x < a ∨ a + data.length ≤ x → t.mem.loc.rd x = s.mem.loc.rd x) ∧ t = { s with sent := t.sent, mem := t.mem })) ∧
  (∀ (s : State) (agent : Fin 16) (tag : BitVec 12) (a : Nat) (data : List Byte), s.attached = true → data = [] ∨ 64 < data.length ∨ 128 < a % 128 + data.length →
    exec (.mwrP agent tag false a data) s = .next { s with sent := .cmp agent tag.toNat .unsupported [] :: s.sent }) ∧
  (∀ (s : State) (agent : Fin 16) (tag : BitVec 12) (a : Nat) (data : List Byte), s.attached = true → s.memoryWaits = false →
    s.badBurst a 128 = false → s.burst agent a = none → data.length = 128 → a % 128 = 0 → s.hostBar a 128 = none → s.lineBusy true (a / 128) = false →
    ∃ t, exec (.mwr agent tag false a 1 data) s = .next t ∧ t.sent = .cmp agent tag.toNat .ok [] :: s.sent ∧ memRead t.mem.loc a 128 = data ∧
      (∀ x, x < a ∨ a + 128 ≤ x → t.mem.loc.rd x = s.mem.loc.rd x) ∧ t = { s with sent := t.sent, mem := t.mem, link := { s.link with bursts := t.link.bursts } }) ∧
  (∀ (s : State) (agent : Fin 16) (tag : BitVec 12) (a beats : Nat) (h : beats < 17) (data : List Byte) (st : Status), s.attached = true →
    s.memoryWaits = false → s.badBurst a (128 * beats) = false → s.hostBar a (128 * beats) = some st →
    exec (.mwr agent tag false a ⟨beats, h⟩ data) s = .next { s with sent := .cmp agent tag.toNat st [] :: s.sent }) ∧
  (∀ (s : State) (agent : Fin 16) (tag : BitVec 12) (a len : Nat) (data : List Byte), s.attached = true →
    exec (.mrd agent tag true a len) s = .next { s with sent := .cmp agent tag.toNat .ok (s.windowRead a len) :: s.sent } ∧
    (1 ≤ data.length → data.length ≤ 64 → ∃ t, exec (.mwrP agent tag true a data) s = .next t ∧
      t.sent = .cmp agent tag.toNat .ok [] :: (s.windowWrite a data).sent)) ∧
  (∀ (s : State) (agent : Fin 16) (tag : BitVec 12) (status : Byte) (a : Nat) (data : List Byte),
    (s.attached = true → status = 0 → data ≠ [] → exec (.cmp agent tag status a data) s = .next
      { s with mem := { s.mem with host := memWrite s.mem.host a data } }) ∧
    (s.attached = false ∨ status ≠ 0 ∨ data = [] → exec (.cmp agent tag status a data) s = .next s))
  ) ∧
  (
  (∀ (s : State) (h : Fin 16), s.attached = true → s.straps.hostLink = true → ∃ t, exec (.agentReset h) s = .next t ∧
    t.link.bursts = s.link.bursts.filter (fun b => b.agent != h.val) ∧ t.link.reads = s.link.reads.filter (fun r => r.agent != h.val) ∧
    (∀ l, Agent.host h ∉ (t.dirLine l).st.holders) ∧ t.mem.loc = s.mem.loc ∧
    t = { s with events := t.events, gaps := t.gaps, sent := t.sent, freeCtr := t.freeCtr, mem := t.mem,
                 link := { s.link with bursts := t.link.bursts, reads := t.link.reads } }) ∧
  (∀ (s : State) (up' : Bool), s.attached = true → s.straps.hostLink = true → ∃ t, exec (.linkReset up') s = .next t ∧
    (∀ b ∈ t.link.bursts, 16 ≤ b.agent) ∧ (∀ r ∈ t.link.reads, 16 ≤ r.agent) ∧ t.start.env.linkUp = up' ∧ t.mem.loc = s.mem.loc) ∧
  (∀ (s : State) (up' : Bool), s.awake = true → ∃ t, exec (.attachReset up') s = .next t ∧
    (∀ b ∈ t.link.bursts, 16 ≤ b.agent) ∧ (∀ r ∈ t.link.reads, 16 ≤ r.agent) ∧ t.start.env.linkUp = up' ∧ t.mem.loc = s.mem.loc ∧
    t.power = (if up' = true then { s.power with wakeOut := false } else s.power)) ∧
  (∀ (s : State) (h : Fin 16) (up' : Bool), s.attached = false ∨ s.straps.hostLink = false →
    exec (.agentReset h) s = .next s ∧ exec (.linkReset up') s = .next s) ∧
  (∀ (s : State) (up' : Bool), s.awake = false → exec (.attachReset up') s = .next s)
  )

/-- PLAT_REQUEST and PLAT_CLEAR_DONE (11 R399-R401; 16 R615-R622). -/
def Obligations.PlatRequestsAreCheckedThenApplied : Prop :=
  (∀ (s : State) (by' : Principal) (data : List Byte), s.serving →
    (by' ≠ .hostk → by' ≠ .surv → exec (.platRequest by' data) s = .next { s with reply := { status := .denied } }) ∧
    (by' = .hostk ∨ by' = .surv →
      (platFieldsOk data = false → exec (.platRequest by' data) s = .next { s with reply := { status := .unsupported } }) ∧
      (platFieldsOk data = true → s.fatal = true ∨ s.svc.state ≠ 0 → exec (.platRequest by' data) s = .next { s with reply := { status := .retired } }) ∧
      (platFieldsOk data = true → s.fatal = false → s.svc.state = 0 → s.plat.waiting ≠ none → exec (.platRequest by' data) s = .next s) ∧
      (platFieldsOk data = true → s.fatal = false → s.svc.state = 0 → s.plat.waiting = none →
        (∀ st, s.platRefusal (platReqOf data) = some st → exec (.platRequest by' data) s = .next { s with
          reply := { status := .ok }
          plat := { s.plat with result := { ready := true, bytes := leBytes 1 st.code ++ leBytes 8 s.plat.epoch.toNat } } }) ∧
        (s.hasJob (platReqOf data).parcel = true → s.platRefusal (platReqOf data) = some .busy) ∧
        (s.hasJob (platReqOf data).parcel = false → (∃ o : Nat, o < 8 ∧ o ≠ (platReqOf data).parcel ∧
            ((s.parcel o).engines &&& (platReqOf data).engines ≠ 0 ∨ (s.parcel o).slices &&& (platReqOf data).slices ≠ 0 ∨
             (s.parcel o).dcWays &&& (platReqOf data).dcWays ≠ 0 ∨ (s.parcel o).controllers &&& (platReqOf data).controllers ≠ 0 ∨
             (s.parcel o).sems &&& (platReqOf data).sems ≠ 0)) → s.platRefusal (platReqOf data) = some .unsupported) ∧
        (s.platRefusal (platReqOf data) = none → s.platRemoved (platReqOf data) = [] → ∃ t, exec (.platRequest by' data) s = .next t ∧
          (let r := platReqOf data
           let x := t.parcel r.parcel
           (x.active, x.sealed, x.tally, x.floor, x.engines, x.slices) = (r.active == 1, r.sealed == 1, r.tally == 1, r.floor, r.engines, r.slices) ∧
           (x.dcWays, x.controllers, x.qFirst, x.qCount, x.linkShare, x.sems) = (r.dcWays, r.controllers, r.qFirst, r.qCount, r.linkShare, r.sems) ∧
           t.te.segments.rd r.parcel = r.segments ∧ t.te.nodeWays.rd r.parcel = r.nodeWays ∧ x.sealKey = none ∧
           (∀ o, o ≠ r.parcel → t.parcel o = s.parcel o)) ∧
          t.plat.epoch = s.plat.epoch + 1 ∧ t.plat.result = { ready := true, bytes := leBytes 1 0 ++ leBytes 8 t.plat.epoch.toNat } ∧
          t.reply = { status := .ok } ∧ t.mem.loc = s.mem.loc ∧
          t = { s with reply := t.reply, slc := t.slc, mem := t.mem, te := t.te, parcels := t.parcels, plat := t.plat }) ∧
        (s.platRefusal (platReqOf data) = none → s.platRemoved (platReqOf data) ≠ [] → exec (.platRequest by' data) s = .next { s with
          reply := { status := .ok }, plat := { s.plat with result := {}, waiting := some data } })))) ∧
  (∀ s : State, (s.plat.waiting = none → exec .platClearDone s = .next s) ∧
    (∀ d, s.plat.waiting = some d → ∃ t, exec .platClearDone s = .next t ∧ t.plat.waiting = none ∧ t.plat.epoch = s.plat.epoch + 1 ∧
      (t.parcel (platReqOf d).parcel).controllers = (platReqOf d).controllers ∧
      (∀ c ∈ s.platRemoved (platReqOf d), ∀ x ∈ t.mem.loc, x.1 / mcWindow ≠ c) ∧ (∀ x ∈ t.mem.loc, x ∈ s.mem.loc)))

/-- What JOB_RESULT shows. -/
def Sys2Proof.Machine.State.shows (t : State) (st : Status) (id : Nat) (acct : List Byte) : Prop :=
  t.jobResult = { ready := true, bytes := leBytes 1 st.code ++ leBytes 4 id ++ acct } ∧ t.reply = { status := .ok }

/-- JOB_CREATE, JOB_DESTROY, JOB_SUSPEND, JOB_RESUME and JOB_FAULT (11 R402-R408, R425; 15 R574). -/
def Obligations.JobControlChecksAndActs : Prop :=
  ∀ (s : State) (by' : Principal) (pb sb rb : Byte) (qf qc : U16) (img sv svb : U64), s.serving →
    let p := pb.toNat
    let k := sb.toNat
    let ctl := [Instr.jobDestroy by' pb sb rb, .jobSuspend by' pb sb rb, .jobResume by' pb sb rb, .jobFault by' pb sb rb]
    let create := Instr.jobCreate by' pb sb rb qf qc img sv svb
    (by' ≠ .hostk → by' ≠ .rtp → ∀ c ∈ create :: ctl, exec c s = .next { s with reply := { status := .denied } }) ∧
    (by' = .hostk ∨ by' = .rtp →
      (7 < p ∨ 15 < k ∨ rb ≠ 0 → ∀ c ∈ create :: ctl, exec c s = .next { s with reply := { status := .unsupported } }) ∧
      (p ≤ 7 → k ≤ 15 → rb = 0 → s.fatal = true → ∀ c ∈ create :: ctl, exec c s = .next { s with reply := { status := .retired } }) ∧
      (p ≤ 7 → k ≤ 15 → rb = 0 → s.fatal = false →
        (s.svc.state ≠ 0 ∨ s.queuesRetired = true → exec create s = .next { s with reply := { status := .retired } }) ∧
        (s.svc.state = 0 → s.queuesRetired = false → s.plat.waiting = none →
          ((s.job p k).st ≠ .ended → ∃ t, exec create s = .next t ∧ t.shows .busy 0 [] ∧ t = { s with reply := t.reply, jobResult := t.jobResult }) ∧
          ((s.job p k).st = .ended → (∃ i, i < qc.toNat ∧ s.queueParcel (qf.toNat + i) ≠ some p) →
            ∃ t, exec create s = .next t ∧ t.shows .denied 0 [] ∧ t = { s with reply := t.reply, jobResult := t.jobResult }) ∧
          (∀ es u h v fs w tb x, (s.job p k).st = .ended → (∀ i, i < qc.toNat → s.queueParcel (qf.toNat + i) = some p) →
            s.gatherOf (.image p k) = none →
            trRegion { s with jobResult := {} } p (s.xlat.cfg.rd p) true false 64 { dva := img.toNat, len := 64, r := true, mis := img.toNat % 128 ≠ 0 } = .ok es u →
            u.fetch p k 0 [] ((runPieces es img.toNat 64).getD []) 64 = .ok h v → field h 18 2 ≤ 1024 → field h 20 4 % 32 = 0 →
            trRegion v p (v.xlat.cfg.rd p) true false 64 { dva := img.toNat + field h 20 4, len := 32 * field h 18 2, r := true } = .ok fs w →
            w.fetch p k 1 (memWrite [] (2 ^ 20) h) ((runPieces fs (img.toNat + field h 20 4) (32 * field h 18 2)).getD []) (32 * field h 18 2) = .ok tb x →
            exec create s = .next ((x.dropGather (.image p k)).createChecked p k qf.toNat qc.toNat img.toNat sv.toNat svb.toNat h tb))) ∧
        ((s.job p k).st = .ended → ∀ c ∈ ctl, ∃ t i, exec c s = .next t ∧ t.shows .unsupported i [] ∧ t = { s with reply := t.reply, jobResult := t.jobResult }) ∧
        ((s.job p k).st ≠ .ended → (s.job p k).st ≠ .switching → (s.parcel p).holder ≠ some k → ∃ t, exec (.jobDestroy by' pb sb rb) s = .next t ∧
          t.shows .ok (s.job p k).id.toNat (if (s.parcel p).tally = true then [] else (s.job p k).acct.bytes) ∧ (t.job p k).st = .ended) ∧
        ((s.job p k).st = .waiting ∨ (s.job p k).st = .ready → ∃ t, exec (.jobSuspend by' pb sb rb) s = .next t ∧
          (t.job p k).st = .suspended ∧ (t.job p k).suspendReq = false ∧ t.shows .ok (s.job p k).id.toNat [] ∧ t.mem = s.mem) ∧
        ((s.job p k).st = .suspended → ∃ t, exec (.jobResume by' pb sb rb) s = .next t ∧ ((t.job p k).st = .waiting ∨ (t.job p k).st = .ready ∨ (t.job p k).st = .switching) ∧
          t.shows .ok (s.job p k).id.toNat [] ∧ t.mem = s.mem) ∧
        ((s.job p k).st ≠ .suspended → ∃ t, exec (.jobResume by' pb sb rb) s = .next t ∧ t.shows .unsupported (s.job p k).id.toNat [] ∧
          t = { s with reply := t.reply, jobResult := t.jobResult }) ∧
        ((s.job p k).st ≠ .ended → ∃ t, exec (.jobFault by' pb sb rb) s = .next t ∧ t.shows .ok (s.job p k).id.toNat [] ∧
          (t.job p k).st = .faulted ∧ t.mem.loc = s.mem.loc) ∧
        ((s.job p k).st = .holding → (s.parcel p).holder = some k → s.jobBusy p k = true → ∀ c ∈ [Instr.jobDestroy by' pb sb rb, .jobSuspend by' pb sb rb],
          ∃ t, exec c s = .next t ∧ (t.parcel p).graceOver = true ∧ (t.job p k).st = .holding ∧ t.jobResult = {} ∧ t.reply = { status := .ok } ∧
            t = { s with reply := t.reply, jobResult := t.jobResult, jobs := t.jobs, parcels := t.parcels })))

/-- SLICE_EXPIRY, GRACE_EXPIRY, JOB_BOUNDARY and SWITCH_IN_COMPLETE (11 R410-R424). -/
def Obligations.TimeSlicesExpireAndSwitch : Prop :=
  (∀ (s : State) (p : Fin 8), (s.parcel p).holder = none ∨ (s.parcel p).switch ≠ none ∨ (s.parcel p).expired ≠ none ∨ s.leads p = false →
    exec (.sliceExpiry p) s = .next s) ∧
  (∀ (s : State) (p : Fin 8) (h : Nat), (s.parcel p).holder = some h → (s.parcel p).switch = none → (s.parcel p).expired = none → s.leads p = true →
    (s.job p h).st = .holding → (s.job p h).suspendReq = false → (s.job p h).ending = false →
    (s.follower p h = none → ∃ t, exec (.sliceExpiry p) s = .next t ∧ t.now = Nat.max s.now ((s.parcel p).sliceEnd.getD s.now) ∧
      t.parcel p = { s.parcel p with sliceEnd := some (t.now + msNs (s.parcel p).quantumMs) } ∧ (∀ o : Nat, o ≠ p.val → t.parcel o = s.parcel o) ∧
      t = { s with now := t.now, parcels := t.parcels }) ∧
    (s.follower p h ≠ none → ∃ t, exec (.sliceExpiry p) s = .next t ∧ (t.parcel p).expired = some t.now ∧ (t.parcel p).holder = some h ∧
      t.now = (if s.runnable p h = false ∧ s.jobBusy p h = false then s.now else Nat.max s.now ((s.parcel p).sliceEnd.getD s.now)) ∧
      t = { s with now := t.now, jobs := t.jobs, parcels := t.parcels })) ∧
  (∀ (s : State) (p : Fin 8),
    ((s.parcel p).expired = none ∨ (s.parcel p).graceOver = true → exec (.graceExpiry p) s = .next s) ∧
    (∀ e, (s.parcel p).expired = some e → (s.parcel p).graceOver = false → ∃ t, exec (.graceExpiry p) s = .next t ∧
      t.now = Nat.max s.now (e + msNs (s.parcel p).graceMs) ∧ t.parcel p = { s.parcel p with graceOver := true } ∧
      (∀ o : Nat, o ≠ p.val → t.parcel o = s.parcel o) ∧ t = { s with now := t.now, parcels := t.parcels })) ∧
  (∀ (s : State) (p : Fin 8) (h : Nat), s.endsDue p = none → (s.parcel p).holder = some h → (s.parcel p).switch = none → (s.parcel p).ordered = none →
    (s.job p h).st = .holding → s.jobBusy p h = false → (s.job p h).suspendReq = false → (s.job p h).ending = false →
    let cheap := s.liveCount p h ≤ (s.job p h).liveBudget
    ((s.parcel p).expired = none → exec (.jobBoundary p) s = .next s) ∧
    ((s.parcel p).expired ≠ none → ¬cheap → (s.parcel p).graceOver = false → exec (.jobBoundary p) s = .next s) ∧
    (∀ e, (s.parcel p).expired = some e → s.now ≤ e + msNs (s.parcel p).quantumMs → cheap ∨ (s.parcel p).graceOver = true →
      (s.follower p h = none → ∃ t, exec (.jobBoundary p) s = .next t ∧ (t.parcel p).holder = some h ∧ (t.job p h).st = .holding ∧
        (t.parcel p).expired = none ∧ (t.parcel p).sliceEnd = some (s.now + msNs (s.parcel p).quantumMs) ∧ t = { s with jobs := t.jobs, parcels := t.parcels }) ∧
      (∀ k, s.follower p h = some k → cheap → exec (.jobBoundary p) s = .next ((s.judgeJobs p).switchOut p h k)) ∧
      (∀ k, (s.emit 57 0x351 p (s.liveCount p h)).follower p h = some k → s.follower p h = some k → ¬cheap →
        exec (.jobBoundary p) s = .next (((s.emit 57 0x351 p (s.liveCount p h)).judgeJobs p).switchOut p h k))) ∧
    (∀ e, (s.parcel p).expired = some e → e + msNs (s.parcel p).quantumMs < s.now → cheap → s.follower p h = none →
      ∃ t, exec (.jobBoundary p) s = .next t ∧ (t.parcel p).holder = some h ∧
        t.events = (s.emit 57 0x350 p ((s.now - e - msNs (s.parcel p).quantumMs) / 1000000)).events)) ∧
  (∀ (s : State) (p : Fin 8), (s.parcel p).switch = none ∨ (∃ w, (s.parcel p).switch = some w ∧ (w.saving = true ∨ w.done = true)) →
    exec (.switchInComplete p) s = .next s) ∧
  (∀ (s : State) (p : Fin 8) (w : Switch), (s.parcel p).switch = some w → w.saving = false → w.done = false → w.incoming < 16 → w.entry = 0 →
    s.gatherOf (.image p w.incoming) = none → (s.job p w.incoming).residents = [] → (s.job p w.incoming).forestOff = 0 →
    (s.job p w.incoming).saved = false → (s.parcel p).fabricId = 0 → ∃ t, exec (.switchInComplete p) s = .next t ∧
      t.xlat.cfg.rd p = (s.job p w.incoming).cfg ∧ (∀ e ∈ t.xlat.cache.rd p, 2 ^ 48 ≤ e.start ∨ e.start + e.len = 0) ∧
      (t.parcel p).holder = some w.incoming ∧ (t.job p w.incoming).st = .holding ∧ (t.parcel p).switch = none ∧
      (t.parcel p).sliceEnd = some (s.now + msNs (s.parcel p).quantumMs) ∧ t.mem = s.mem ∧
      t = { s with xlat := t.xlat, parcels := t.parcels, jobs := t.jobs, fab := t.fab })

/-- What a sequence command starts from: its head command, on the job's step queue, with nothing on another die (12 R436). -/
def Sys2Proof.Machine.State.startsSeq (s : State) (q op p slot : Nat) (c : Cmd) (u : State) : Prop :=
  s.starts q op p slot c u ∧ u.stepQueue p slot q = true ∧ remoteExts (c.record.flatMap Prod.snd) = false

/-- CADDY_QUOTA_WRITE, CADDY_BIND, SEQ_OPEN, SEQ_APPEND, SEQ_FEED, SEQ_CLOSE and CADDY_UNBIND (12 R431-R441, R454, R455). -/
def Obligations.CaddyCommandsKeepTheirSequences : Prop :=
  (∀ (s : State) (by' : Principal) (p : Fin 8) (v : U16), s.serving →
    let others := (List.range 8).foldl (fun n o => if o = p.val then n else n + s.caddy.quota.rd o) 0
    (by' ≠ .hostk → by' ≠ .rtp → exec (.caddyQuotaWrite by' p v) s = .next { s with reply := { status := .denied } }) ∧
    (by' = .hostk ∨ by' = .rtp →
      (1024 < others + v.toNat → exec (.caddyQuotaWrite by' p v) s = .next { s with reply := { status := .unsupported } }) ∧
      (others + v.toNat ≤ 1024 → v.toNat < s.caddyInUse p → exec (.caddyQuotaWrite by' p v) s = .next { s with reply := { status := .busy } }) ∧
      (others + v.toNat ≤ 1024 → s.caddyInUse p ≤ v.toNat → exec (.caddyQuotaWrite by' p v) s = .next
        { s with reply := { status := .ok }, caddy := { s.caddy with quota := s.caddy.quota.wr p v.toNat } }))) ∧
  (∀ (s u : State) (q : Fin 1024) (p slot : Nat) (c : Cmd), s.starts q 0x10 p slot c u → remoteExts (c.record.flatMap Prod.snd) = false →
    ((u.caddy.bind.rd (p * 16 + slot)).bound = true → exec (.caddyBind q) s = .next (u.endCmd q c.serial .unsupported .none)) ∧
    (∀ h v imgs w, (u.caddy.bind.rd (p * 16 + slot)).bound = false →
      u.readDva (.parcel p) (recOf c.record 0) (field c.bytes 32 8) (16 * field c.bytes 56 1) = .ok h v →
      let bk := templateBuckets (field c.bytes 56 1) h
      (templateOk (field c.bytes 56 1) h = false → exec (.caddyBind q) s = .next (v.endCmd q c.serial .unsupported .none)) ∧
      (templateOk (field c.bytes 56 1) h = true → readImages (.parcel p) (recOf c.record 0) (field c.bytes 32 8) bk v = .ok imgs w →
        ∃ t, exec (.caddyBind q) s = .next t ∧
          ((bk.zip imgs).all (fun x => imageOk x.1.2.1 x.2.bytes) = false ∨ maxRows bk < field c.bytes 24 2 ∨ field c.bytes 24 2 < field c.bytes 26 2 →
            t = w.endCmd q c.serial .unsupported .none) ∧
          ((bk.zip imgs).all (fun x => imageOk x.1.2.1 x.2.bytes) = true → field c.bytes 24 2 ≤ maxRows bk → field c.bytes 26 2 ≤ field c.bytes 24 2 →
            (scrOperand (field c.bytes 58 4)).slice = 0 → 64 * (scrOperand (field c.bytes 58 4)).off64 + 16 * maxRows bk ≤ sliceBytes →
            (let b := t.caddy.bind.rd (p * 16 + slot);
              (b.bound = true ∧ b.queue = q.val ∧ b.rowBudget = field c.bytes 24 2 ∧ b.chunk = field c.bytes 26 2 ∧ b.share = field c.bytes 28 1 ∧
                b.buckets = imgs ∧ b.stepNo = 0)) ∧
            t = State.endCmd { w with caddy := { w.caddy with bind := t.caddy.bind } } q c.serial .ok .none)))) ∧
  (∀ (s u : State) (q : Fin 1024) (p slot : Nat) (c : Cmd) (i : Instr) (op : Nat), (i, op) ∈ [(Instr.seqOpen q, 0x11), (.seqAppend q, 0x12),
      (.seqFeed q, 0x13), (.seqClose q, 0x14), (.caddyUnbind q, 0x15)] → s.starts q op p slot c u → u.stepQueue p slot q = false →
    exec i s = .next (u.endCmd q c.serial .unsupported .none)) ∧
  (∀ (s u : State) (q : Fin 1024) (p slot : Nat) (c : Cmd), s.startsSeq q 0x11 p slot c u →
    let id := field c.bytes 24 4
    let len := field c.bytes 40 4
    (u.seqBy p slot id ≠ none ∨ (len = 0 ∧ bitAt (field c.bytes 29 1) 0 = false) ∨ field c.bytes 56 8 = 0 →
      exec (.seqOpen q) s = .next (u.endCmd q c.serial .unsupported .none)) ∧
    (u.seqBy p slot id = none → len ≠ 0 ∨ bitAt (field c.bytes 29 1) 0 = true → field c.bytes 56 8 ≠ 0 → (recOf c.record 1).length ≤ 4 →
      (∀ i, u.caddyInUse p < u.caddy.quota.rd p → u.freeEntry = some i → ∃ t, exec (.seqOpen q) s = .next t ∧
        (let e := t.caddy.seqs.rd i;
          (e.st = (if 0 < len then .prefill else .feedWait) ∧ e.parcel = p ∧ e.job = slot ∧ e.id = id ∧ e.prio = field c.bytes 28 1 ∧
            e.promptLeft = len ∧ e.pos = field c.bytes 44 4 ∧ e.state = field c.bytes 48 8 ∧ e.maxNew = field c.bytes 72 4 ∧
            (field c.bytes 44 4 = 0 → e.count = 0))) ∧
        (∀ j, j ≠ i → t.caddy.seqs.rd j = u.caddy.seqs.rd j) ∧
        t = State.endCmd { u with caddy := { u.caddy with seqs := t.caddy.seqs, order := u.caddy.order + 1 }, freeCtr := u.freeCtr + 1 } q c.serial .ok .none) ∧
      (u.caddy.quota.rd p ≤ u.caddyInUse p → u.evictVictim p slot (field c.bytes 28 1) = none → exec (.seqOpen q) s = .next
        (((u.emit 57 0x361 p p).updCmd q c.serial (fun c => { c with faultSeq := 1 })).endCmd q c.serial .busy .none)))) ∧
  (∀ (s u : State) (q : Fin 1024) (p slot : Nat) (c : Cmd) (i : Instr) (op : Nat), (i, op) ∈ [(Instr.seqAppend q, 0x12), (.seqFeed q, 0x13),
      (.seqClose q, 0x14)] → s.startsSeq q op p slot c u → u.seqBy p slot (field c.bytes 24 4) = none →
    exec i s = .next (u.endCmd q c.serial .unsupported .none)) ∧
  (∀ (s u : State) (q : Fin 1024) (p slot : Nat) (c : Cmd) (i : Nat) (e : Seq), u.seqBy p slot (field c.bytes 24 4) = some (i, e) →
      u.caddy.seqs.rd i = e →
    (s.startsSeq q 0x12 p slot c u → (e.st ≠ .done → exec (.seqAppend q) s = .next (u.endCmd q c.serial .unsupported .none)) ∧
      (e.st = .done → ∃ t, exec (.seqAppend q) s = .next t ∧ t.caddy.seqs.rd i = { e with
          st := .prefill, prompt := field c.bytes 32 8, promptLeft := field c.bytes 28 4, promptExts := recOf c.record 0, out := field c.bytes 40 8,
          outExts := recOf c.record 1, maxNew := field c.bytes 48 4, outs := 0, order := u.caddy.order, fedWait := false } ∧
        (∀ j, j ≠ i → t.caddy.seqs.rd j = u.caddy.seqs.rd j) ∧
        t = State.endCmd { u with caddy := { u.caddy with seqs := t.caddy.seqs, order := u.caddy.order + 1 } } q c.serial .ok .none)) ∧
    (s.startsSeq q 0x13 p slot c u → (e.st ≠ .feedWait → exec (.seqFeed q) s = .next (u.endCmd q c.serial .unsupported .none)) ∧
      (e.st = .feedWait → e.fedWait = false → ∃ t, exec (.seqFeed q) s = .next t ∧ t.caddy.seqs.rd i = { e with
          st := if bitAt (field c.bytes 32 1) 0 = true then .done else .ready, token := field c.bytes 28 4 } ∧
        (∀ j, j ≠ i → t.caddy.seqs.rd j = u.caddy.seqs.rd j) ∧
        t = State.endCmd { u with caddy := { u.caddy with seqs := t.caddy.seqs } } q c.serial .ok .none)) ∧
    (s.startsSeq q 0x14 p slot c u → ∃ t, exec (.seqClose q) s = .next t ∧
      match u.writeDva (.parcel p) e.stampExts e.stamp (seqStamp e .ok (e.doneFlag + 4)) with
      | .ok _ w => t = State.endCmd { w with caddy := { w.caddy with seqs := w.caddy.seqs.wr i {} } } q c.serial .ok .none
      | .wait w => t = w
      | _ => t = State.endCmd { u with caddy := { u.caddy with seqs := u.caddy.seqs.wr i {} } } q c.serial .ok .none)) ∧
  (∀ (s u : State) (q : Fin 1024) (p slot : Nat) (c : Cmd), s.startsSeq q 0x15 p slot c u → u.seqsOf p slot = [] →
    exec (.caddyUnbind q) s = .next (State.endCmd { u with caddy := { u.caddy with bind := u.caddy.bind.wr (p * 16 + slot) {} } } q c.serial .ok .none))

/-- CADDY_STEP_DISPATCH and CADDY_STEP_RESULTS (12 R442-R454). -/
def Obligations.GeneratedStepsAreBuiltAndSettled : Prop :=
  (∀ (s : State) (q : Fin 1024) (p slot : Nat), s.jobOf q = some (p, slot) →
    s.stepQueue p slot q = false ∨ (s.queue q).st ≠ .opened ∨ (s.queue q).consumed ≠ [] ∨ s.mayStart p slot = false ∨ s.xlatShut p = true ∨
      s.caddyPending p slot = false → exec (.caddyStepDispatch q) s = .next s) ∧
  (∀ (s u v : State) (q : Fin 1024) (p slot sl off : Nat) (rows : List WlRow) (k : Bucket), s.jobOf q = some (p, slot) →
    s.stepQueue p slot q = true → (s.queue q).st = .opened → (s.queue q).consumed = [] → s.mayStart p slot = true → s.xlatShut p = false →
    s.caddyPending p slot = true → retransSeqs q p slot (s.job p slot).cfg (s.seqsOf p slot) s = (u, true) →
    let b := s.caddy.bind.rd (p * 16 + slot)
    stepPlan b (u.seqsOf p slot) ≠ [] → planRows p (stepPlan b (u.seqsOf p slot)) 0 u = .ok rows v →
    b.buckets.find? (fun k => decide (rows.length ≤ k.rows)) = some k → v.wlPlace p b = some (sl, off) →
    let bytes := (rows ++ List.replicate (k.rows - rows.length) (default : WlRow)).flatMap WlRow.bytes
    (v.canClaim sl (granules off bytes.length) = false → exec (.caddyStepDispatch q) s = .next v) ∧
    (∀ w, v.canClaim sl (granules off bytes.length) = true → v.writeDva (.parcel p) b.wlExts b.worklist bytes = .ok () w →
      ∃ t c cs, exec (.caddyStepDispatch q) s = .next t ∧ (t.queue q).consumed = c :: cs ∧ c.bytes = k.bytes ∧ c.gen = some (b.stepNo + 1) ∧
        c.rows = rows ++ List.replicate (k.rows - rows.length) (default : WlRow) ∧ c.started = false ∧ cs = (w.queue q).consumed ∧
        (t.caddy.bind.rd (p * 16 + slot)).stepNo = (w.caddy.bind.rd (p * 16 + slot)).stepNo + 1 ∧
        (t.slc.rd sl).bytes = memWrite (w.slc.rd sl).bytes off bytes ∧ (∀ n, n ≠ sl → t.slc.rd n = w.slc.rd n) ∧
        t = { w with serial := w.serial + 1, slc := t.slc, caddy := t.caddy, queues := t.queues })) ∧
  (∀ (s : State) (q : Fin 1024), (s.queue q).consumed = [] ∨ s.jobOf q = none ∨ (∃ c cs, (s.queue q).consumed = c :: cs ∧
      (c.gen = none ∨ c.isOver = false ∨ c.resultsDone = true ∨ c.outcome.1 ≠ .ok)) → exec (.caddyStepResults q) s = .next s) ∧
  (∀ (s v : State) (q : Fin 1024) (p slot : Nat) (c : Cmd) (cs : List Cmd) (r : List Byte), (s.queue q).consumed = c :: cs → s.jobOf q = some (p, slot) →
    c.gen ≠ none → c.isOver = true → c.resultsDone = false → c.outcome.1 = .ok →
    let b := s.caddy.bind.rd (p * 16 + slot)
    s.readDva (.parcel p) b.resExts b.result (16 * c.rows.length) = .ok r v → c.rows.all (fun x => x.kind == 0 || x.kind == 2) = true →
    ∃ t, exec (.caddyStepResults q) s = .next t ∧
      (∀ i, (∃ x ∈ c.rows, x.kind ≠ 0 ∧ x.entry = i) → t.caddy.seqs.rd i =
        (advanceSeq (c.gen.getD 0) (v.caddy.seqs.rd i) (c.rows.filter (fun x => x.kind != 0 && x.entry == i)) none).1) ∧
      (∀ i, (∀ x ∈ c.rows, x.kind = 0 ∨ x.entry ≠ i) → t.caddy.seqs.rd i = v.caddy.seqs.rd i) ∧
      t = State.updCmd { v with caddy := t.caddy } q c.serial (fun c => { c with resultsDone := true })) ∧
  (∀ (step : Nat) (e : Seq) (rows : List WlRow) (token : Nat) (fin : Bool),
    let a := advanceSeq step e rows (some (token, fin))
    a.1.pos = e.pos + rows.length ∧ (advanceSeq step e rows none).1.pos = e.pos + rows.length ∧ (advanceSeq step e rows none).2 = none ∧
    (e.external = true → a.1.st = .feedWait ∧ a.2 = none ∧ a.1.outs = e.outs) ∧
    (e.external = false → a.1.token = token ∧ a.1.outs = e.outs + 1 ∧ a.1.count = e.count + 1 ∧
      a.1.st = (if fin = true ∨ e.maxNew ≤ e.outs + 1 then .done else .ready) ∧
      a.2 = some (e.out + 8 * e.outs, leBytes 4 token ++ leBytes 4 (e.pos + rows.length))))

/-- STREAM_CONFIG_WRITE, STREAM_OPEN, STREAM_CLOSE and SRC_TAIL_WRITE (13 R463-R465, R475). -/
def Obligations.StreamsAreConfiguredOpenedAndRung : Prop :=
  (∀ (s : State) (by' : Principal) (n : Fin 16) (parcel source kind log2 : Byte) (jobId entryBytes r1 : U32) (ring src : U64) (srcLog2 weight : Byte)
      (r2 : BitVec 112), s.serving →
    let c : StreamCfg := { parcel := parcel.toNat, source := source.toNat, ringKind := kind.toNat, log2 := log2.toNat, jobId := jobId.toNat,
                           entryBytes := entryBytes.toNat, ring := ring.toNat, srcRing := src.toNat, srcLog2 := srcLog2.toNat, weight := weight.toNat }
    let w := Instr.streamConfigWrite by' n parcel source kind log2 jobId entryBytes r1 ring src srcLog2 weight r2
    (by' ≠ .hostk → by' ≠ .rtp → exec w s = .next { s with reply := { status := .denied } }) ∧
    (by' = .hostk ∨ by' = .rtp →
      (c.ok = false ∨ r1 ≠ 0 ∨ r2 ≠ 0 → exec w s = .next { s with reply := { status := .unsupported } }) ∧
      (c.ok = true → r1 = 0 → r2 = 0 → s.fatal = true → exec w s = .next { s with reply := { status := .retired } }) ∧
      (c.ok = true → r1 = 0 → r2 = 0 → s.fatal = false → (s.streams.rd n).st ≠ .closed → exec w s = .next { s with reply := { status := .busy } }) ∧
      (c.ok = true → r1 = 0 → r2 = 0 → s.fatal = false → (s.streams.rd n).st = .closed → c.source = 0 → ∃ t, exec w s = .next t ∧
        t.streams.rd n = { s.streams.rd n with cfg := c } ∧ (∀ m : Nat, m ≠ n.val → t.streams.rd m = s.streams.rd m) ∧
        t = { s with reply := { status := .ok }, streams := t.streams }) ∧
      (c.ok = true → r1 = 0 → r2 = 0 → s.fatal = false → (s.streams.rd n).st = .closed → c.source ≠ 0 → s.kettle.image = [] →
        ((∃ m : Nat, m < 16 ∧ m ≠ n.val ∧ (s.streams.rd m).cfg.jobId ≠ 0 ∧ (s.streams.rd m).cfg.source = c.source) ∨ c.parcel ≠ s.kettle.target →
          exec w s = .next { s with reply := { status := .denied } })))) ∧
  (∀ (s : State) (by' : Principal) (n : Fin 16), s.serving →
    (by' ≠ .hostk → by' ≠ .rtp → exec (.streamOpen by' n) s = .next { s with reply := { status := .denied } } ∧
      exec (.streamClose by' n) s = .next { s with reply := { status := .denied } }) ∧
    (by' = .hostk ∨ by' = .rtp →
      (s.fatal = true ∨ s.svc.state ≠ 0 ∨ bitAt s.start.retiredFlags 1 = true → exec (.streamOpen by' n) s = .next { s with reply := { status := .retired } }) ∧
      (s.fatal = false → s.svc.state = 0 → bitAt s.start.retiredFlags 1 = false →
        ((s.streams.rd n).st ≠ .closed → exec (.streamOpen by' n) s = .next { s with reply := { status := .busy } }) ∧
        ((s.streams.rd n).st = .closed → s.streamSlot (s.streams.rd n).cfg = none → exec (.streamOpen by' n) s = .next { s with reply := { status := .denied } }) ∧
        (∀ slot rec w, (s.streams.rd n).st = .closed → s.streamSlot (s.streams.rd n).cfg = some slot → (s.streams.rd n).cfg.ringKind = 0 →
          (s.streams.rd n).cfg.source = 0 → s.streamRings (s.streams.rd n).cfg slot = .ok rec w → (w.parcel (s.streams.rd n).cfg.parcel).sealed = false →
          ∃ t, exec (.streamOpen by' n) s = .next t ∧ (t.streams.rd n).st = .opened ∧ (t.streams.rd n).seq = 0 ∧ (t.streams.rd n).cons = 0 ∧
            (t.streams.rd n).entry = none ∧ (t.streams.rd n).ringExts = recOf rec 0 ∧ (∀ m : Nat, m ≠ n.val → t.streams.rd m = w.streams.rd m) ∧
            t = { w with reply := { status := .ok }, streams := t.streams })) ∧
      ((s.streams.rd n).st ≠ .opened ∨ (s.streams.rd n).entry = none → ∃ t, exec (.streamClose by' n) s = .next t ∧ (t.streams.rd n).st = .closed ∧
        (t.streams.rd n).entry = none ∧ t.reply = { status := .ok } ∧ (∀ m : Nat, m ≠ n.val → t.streams.rd m = s.streams.rd m) ∧
        t = { s with reply := t.reply, streams := t.streams, fab := t.fab }) ∧
      ((s.streams.rd n).st = .opened → (s.streams.rd n).entry ≠ none → s.streamHeld (s.streams.rd n) = false → ∃ t, exec (.streamClose by' n) s = .next t ∧
        t.streams.rd n = { s.streams.rd n with closing := true } ∧ t = { s with streams := t.streams }))) ∧
  (∀ (s : State) (n : Fin 16) (v : U32), s.awake = true →
    let x := s.streams.rd n
    (x.st ≠ .opened ∨ x.cfg.source ≠ 0 ∨ (v - x.srcHead).toNat ≤ (x.srcTail - x.srcHead).toNat →
      exec (.srcTailWrite n v) s = .next (s.emit 62 0x372 x.cfg.parcel n)) ∧
    (x.st = .opened → x.cfg.source = 0 → (x.srcTail - x.srcHead).toNat < (v - x.srcHead).toNat →
      ((v - x.srcHead).toNat ≤ 2 ^ x.cfg.srcLog2 → ∃ t, exec (.srcTailWrite n v) s = .next t ∧ t.streams.rd n = { x with srcTail := v } ∧
        (∀ m : Nat, m ≠ n.val → t.streams.rd m = s.streams.rd m) ∧ t = { s with streams := t.streams }) ∧
      (2 ^ x.cfg.srcLog2 < (v - x.srcHead).toNat → ∃ t, exec (.srcTailWrite n v) s = .next t ∧ (t.streams.rd n).st = .faulted ∧
        (t.streams.rd n).entry = none ∧ (∀ m : Nat, m ≠ n.val → t.streams.rd m = s.streams.rd m) ∧
        t = { s with events := t.events, gaps := t.gaps, streams := t.streams, fab := t.fab })))

/-- STREAM_ENTRY_DELIVERY and CONS_RECHECK (13 R469-R479). -/
def Obligations.StreamEntriesReachTheirRings : Prop :=
  (∀ (s : State) (n : Fin 16), (s.streams.rd n).st ≠ .opened ∨ s.streamHeld (s.streams.rd n) = true ∨ s.fatal = true ∨ s.awake = false →
    exec (.streamEntryDelivery n) s = .next s) ∧
  (∀ (s : State) (n : Fin 16), (s.streams.rd n).cfg.source = 0 → (s.streams.rd n).entry = none → (s.streams.rd n).srcHead = (s.streams.rd n).srcTail →
    exec (.streamEntryDelivery n) s = .next s) ∧
  (∀ (s : State) (n : Fin 16) (b : List Byte) (sl base : Nat), (s.streams.rd n).st = .opened → s.streamHeld (s.streams.rd n) = false → s.fatal = false →
    s.awake = true → (s.streams.rd n).entry = some b → (s.streams.rd n).cfg.ringKind = 1 →
    (s.parcel (s.streams.rd n).cfg.parcel).resolve (scrOperand (s.streams.rd n).cfg.ring) 0
      (2 ^ (s.streams.rd n).cfg.log2 * (s.streams.rd n).cfg.entryBytes) = some (sl, base) →
    let off := base + (s.streams.rd n).seq.toNat % 2 ^ (s.streams.rd n).cfg.log2 * (s.streams.rd n).cfg.entryBytes
    let gs := granules off (s.streams.rd n).cfg.entryBytes
    ((∃ g ∈ gs, ((s.slc.rd sl).gran.rd g).st ≠ .empty) → exec (.streamEntryDelivery n) s = .next s) ∧
    ((∀ g ∈ gs, ((s.slc.rd sl).gran.rd g).st = .empty) → (s.slc.rd sl).withdrawn = false → (s.slc.rd sl).powered = true →
      (s.streams.rd n).closing = false → ∃ t, exec (.streamEntryDelivery n) s = .next t ∧ (t.slc.rd sl).bytes = memWrite (s.slc.rd sl).bytes off b ∧
      (∀ g ∈ gs, ((t.slc.rd sl).gran.rd g).st = .present) ∧ (t.streams.rd n).seq = (s.streams.rd n).seq + 1 ∧ (t.streams.rd n).entry = none ∧
      (t.streams.rd n).srcHead = (if (s.streams.rd n).cfg.source = 0 then (s.streams.rd n).srcHead + 1 else (s.streams.rd n).srcHead) ∧
      (∀ m : Nat, m ≠ n.val → t.streams.rd m = s.streams.rd m) ∧ t = { s with slc := t.slc, streams := t.streams, fab := t.fab })) ∧
  (∀ (s : State) (n : Nat) (b : List Byte),
    ((s.streams.rd n).cfg.entryBytes - 32 < field b 8 4 ∨ zeros b 13 19 = false → s.takeRecord n b = s.faultStream n) ∧
    (field b 8 4 ≤ (s.streams.rd n).cfg.entryBytes - 32 → field b 12 1 &&& 0xF7 = 0 → zeros b 13 19 = true →
      ((s.takeRecord n b).streams.rd n).entry = some (entryHeader ((s.streams.rd n).seq.toNat + 1) (field b 0 8) s.bench (field b 8 4) 0
        ((if (s.streams.rd n).seq = 0 then 1 else 0) + (if bitAt (field b 12 1) 3 = true then 8 else 0)) 0 ++ b.drop 32))) ∧
  (∀ (s : State) (n : Fin 16), (s.streams.rd n).st ≠ .opened ∨ (s.streams.rd n).cfg.ringKind ≠ 0 ∨
      (s.streams.rd n).seq.toNat - (s.streams.rd n).cons < 2 ^ (s.streams.rd n).cfg.log2 → exec (.consRecheck n) s = .next s) ∧
  (∀ (s w : State) (n : Fin 16) (ps : List Piece) (b : List Byte), (s.streams.rd n).st = .opened → (s.streams.rd n).cfg.ringKind = 0 →
    (s.streams.rd n).phase ≤ 1 → 2 ^ (s.streams.rd n).cfg.log2 ≤ (s.streams.rd n).seq.toNat - (s.streams.rd n).cons → s.gatherOf (.stream n) = none →
    runPieces (s.streams.rd n).ringExts ((s.streams.rd n).cfg.ring + 64) 8 = some ps →
    s.readAll (.parcel (s.streams.rd n).cfg.parcel) 1 (s.parcel (s.streams.rd n).cfg.parcel).fabricId ps = .ok b w →
    (leNat b < (w.streams.rd n).cons ∨ (w.streams.rd n).seq.toNat < leNat b → exec (.consRecheck n) s = .next (w.faultStream n)) ∧
    ((w.streams.rd n).cons ≤ leNat b → leNat b ≤ (w.streams.rd n).seq.toNat → ∃ t, exec (.consRecheck n) s = .next t ∧
      t.streams.rd n = { w.streams.rd n with cons := leNat b } ∧ t = { w with streams := t.streams }))

/-- What an instruction of the vector program leaves beside the elements it writes: the next instruction, and every byte of data memory
outside [d, d + len) as it was. -/
def Sys2Proof.Machine.State.kWrote (s t : State) (p d len : Nat) : Prop :=
  t.kettle.pc = some (p + 1) ∧ (∀ a, a < d ∨ d + len ≤ a → t.kettle.data.rd a = s.kettle.data.rd a) ∧
    t = { s with kettle := { s.kettle with data := t.kettle.data, pc := t.kettle.pc } }

/-- MEL_FRAME, VECTOR_RUN, KETTLE_END, MATVEC, BIAS, REQ, RELU, MAXP, KETTLE_COPY and SCORE (13 R487-R493). -/
def Obligations.KettleVectorProgramComputes : Prop :=
  (∀ (s : State) (xs : List (U16 × U16)),
    (s.kettle.captures = false → exec (.melFrame xs) s = .next s) ∧
    (s.kettle.captures = true → s.kettle.f 11 1 ≤ 64 → ∃ t, exec (.melFrame xs) s = .next t ∧
      t.kettle.histEnd = s.kettle.histEnd + 1000000 / s.kettle.rate * Nat.min (s.kettle.f 12 2) xs.length ∧ t.now = Nat.max s.now t.kettle.histEnd ∧
      (s.kettle.f 11 1 = 0 → t.kettle.data = s.kettle.data ∧ t.kettle.frames = s.kettle.frames) ∧
      (s.kettle.f 11 1 ≠ 0 → t.kettle.frames = s.kettle.frames + 1 ∧ (∀ a, a < 31 * 64 → t.kettle.data.rd a = s.kettle.data.rd (a + 64)) ∧
        (∀ b, b < s.kettle.f 11 1 → t.kettle.data.rd (31 * 64 + b) = Config.mel t.kettle.window s.kettle.rate (s.kettle.f 11 1) b) ∧
        (∀ a, 2048 ≤ a → t.kettle.data.rd a = s.kettle.data.rd a)) ∧
      t = { s with now := t.now, kettle := t.kettle, events := t.events, gaps := t.gaps })) ∧
  (∀ s : State,
    (s.kettle.due = 0 → exec .vectorRun s = .next s) ∧
    (0 < s.kettle.due → s.kettle.pc = none →
      exec .vectorRun s = .next { s with kettle := { s.kettle with due := s.kettle.due - 1, pc := some 0, runs := s.kettle.runs + 1 } }) ∧
    (0 < s.kettle.due → s.kettle.pc ≠ none → exec .vectorRun s = .next (State.emit
      { s with kettle := { s.kettle with due := s.kettle.due - 1, runsSkipped := s.kettle.runsSkipped + 1 } } 63 0x381 s.kettle.target 0))) ∧
  (∀ s : State,
    let ops := [(0, Instr.kettleEnd), (1, .matvec), (2, .bias), (3, .req), (4, .relu), (5, .maxp), (6, .kettleCopy), (7, .score)]
    (s.kettle.current = none → ∀ x ∈ ops, exec x.2 s = .next s) ∧
    (∀ i, s.kettle.current = some i → ∀ x ∈ ops, x.1 ≠ i.op → exec x.2 s = .next s) ∧
    (∀ i, s.kettle.current = some i → i.op = 0 → exec .kettleEnd s = .next { s with kettle := { s.kettle with pc := none } })) ∧
  (∀ (s : State) (i : KInstr) (p : Nat), s.kettle.current = some i → s.kettle.pc = some p →
    (i.op = 1 → ∃ t, exec .matvec s = .next t ∧ s.kWrote t p i.d (4 * i.n) ∧ ∀ n, n < i.n → t.kettle.i32 i.d n = max (-2147483648) (min 2147483647
      (((List.range i.k).map (fun j => s.kettle.i8 i.a j * sext 8 (s.kettle.weight (i.w + n * i.k + j) 1))).sum))) ∧
    (i.op = 2 → ∃ t, exec .bias s = .next t ∧ s.kWrote t p i.d (4 * i.n) ∧ ∀ n, n < i.n → t.kettle.i32 i.d n = max (-2147483648) (min 2147483647
      (s.kettle.i32 i.a n + sext 32 (s.kettle.weight (i.w + 4 * n) 4)))) ∧
    (i.op = 3 → ∃ t, exec .req s = .next t ∧ s.kWrote t p i.d i.n ∧ ∀ n, n < i.n → t.kettle.i8 i.d n =
      max (-128) (min 127 (rneShift (s.kettle.i32 i.a n) i.arg))) ∧
    (i.op = 4 → ∃ t, exec .relu s = .next t ∧ s.kWrote t p i.d i.n ∧ ∀ n, n < i.n → t.kettle.i8 i.d n = max 0 (s.kettle.i8 i.a n)) ∧
    (i.op = 5 → ∃ t, exec .maxp s = .next t ∧ s.kWrote t p i.d i.n ∧ ∀ n, n < i.n → t.kettle.i8 i.d n = max (s.kettle.i8 i.a n) (s.kettle.i8 i.a (n + i.n))) ∧
    (i.op = 6 → ∃ t, exec .kettleCopy s = .next t ∧ s.kWrote t p i.d i.n ∧ ∀ n, n < i.n → t.kettle.data.rd (i.d + n) = s.kettle.data.rd (i.a + n)) ∧
    (i.op = 7 → ∃ t, exec .score s = .next t ∧ t.kettle.pc = some (p + 1) ∧ t.kettle.scores = memRead s.kettle.data i.a (s.kettle.f 15 1) ∧
      t.kettle.data = s.kettle.data ∧
      let thr := fun c lo => s.kettle.f (s.kettle.f 40 4 + 4 * c + lo) 1
      let hits := fun c => if sext 8 (thr c 0) ≤ s.kettle.i8 i.a c then Nat.min 64 ((s.kettle.classes.rd c).hits + 1) else 0
      let decides := fun c => (s.kettle.classes.rd c).refract = 0 ∧ sext 8 (thr c 0) ≤ s.kettle.i8 i.a c ∧ thr c 1 ≤ hits c
      (∀ c, c < s.kettle.f 15 1 → (t.kettle.classes.rd c).hits = hits c ∧
        (decides c → (t.kettle.classes.rd c).refract = thr c 2) ∧ (¬ decides c → (t.kettle.classes.rd c).refract = (s.kettle.classes.rd c).refract - 1)) ∧
      ((∀ c, c < s.kettle.f 15 1 → ¬ decides c) → t = { s with kettle := { s.kettle with pc := t.kettle.pc, scores := t.kettle.scores, classes := t.kettle.classes } }))) ∧
  (∀ (x : Int) (n : Nat), 2 * (x - rneShift x n * 2 ^ n) ≤ 2 ^ n ∧ -(2 ^ n) ≤ 2 * (x - rneShift x n * 2 ^ n) ∧
    ((2 * (x - rneShift x n * 2 ^ n) = 2 ^ n ∨ 2 * (x - rneShift x n * 2 ^ n) = -(2 ^ n)) → rneShift x n % 2 = 0))

/-- KETTLE_PROGRAM_LOAD, KETTLE_TARGET_WRITE, LISTEN, STOP, SENSOR_POLL, SENSOR_IBI, KWAKE_EDGE, DEBOUNCE_EXPIRY and KETTLE_ENTRY_READY
(13 R485, R486, R494-R501). -/
def Obligations.KettleIsLoadedStartedAndWoken : Prop :=
  (∀ (s : State) (by' : Principal) (image : List Byte) (p w : Byte), s.serving →
    (s.kettlePrincipal by' = false → ∀ c ∈ [Instr.kettleProgramLoad by' image, .listen by', .stop by'], exec c s = .next { s with reply := { status := .denied } }) ∧
    (by' ≠ .hostk → by' ≠ .rtp → exec (.kettleTargetWrite by' p w) s = .next { s with reply := { status := .denied } }) ∧
    (by' = .hostk ∨ by' = .rtp →
      (s.kettle.st ≠ .stopped → exec (.kettleTargetWrite by' p w) s = .next { s with reply := { status := .busy } }) ∧
      (s.kettle.st = .stopped → (7 < p.toNat ∧ p ≠ 0xFF) ∨ 16 < w.toNat → exec (.kettleTargetWrite by' p w) s = .next { s with reply := { status := .unsupported } }) ∧
      (s.kettle.st = .stopped → p.toNat ≤ 7 ∨ p = 0xFF → w.toNat ≤ 16 → ∃ t, exec (.kettleTargetWrite by' p w) s = .next t ∧
        t.kettle.target = p.toNat ∧ t.kettle.wakeEngines = w.toNat ∧ t.kettle.hist = [] ∧ t.kettle.data = [] ∧ t.kettle.image = s.kettle.image ∧
        t = { s with reply := { status := .ok }, kettle := t.kettle })) ∧
    (s.kettlePrincipal by' = true →
      (s.kettleRetired = true → exec (.kettleProgramLoad by' image) s = .next { s with reply := { status := .retired } } ∧
        exec (.listen by') s = .next { s with reply := { status := .retired } }) ∧
      (s.kettleRetired = false →
        (s.kettle.st ≠ .stopped → exec (.kettleProgramLoad by' image) s = .next { s with reply := { status := .busy } }) ∧
        (s.kettle.st = .stopped → kImageOk image = false → exec (.kettleProgramLoad by' image) s = .next { s with reply := { status := .unsupported } }) ∧
        (s.kettle.st = .stopped → kImageOk image = true → ∃ t, exec (.kettleProgramLoad by' image) s = .next t ∧ t.kettle.image = image ∧
          t.kettle.digest = Config.sha384 image ∧ t.kettle.hist = [] ∧ t.kettle.data = [] ∧ t.kettle.target = s.kettle.target ∧
          t = { s with reply := { status := .ok }, kettle := t.kettle }) ∧
        (s.kettle.image = [] → exec (.listen by') s = .next { s with reply := { status := .notReady } }) ∧
        (s.kettle.image ≠ [] → s.kettle.st = .stopped → ∃ t, exec (.listen by') s = .next t ∧ t.kettle.st = .listening ∧ t.kettle.histEnd = s.now ∧
          (∀ i : Fin 8, t.kettle.pollAt.rd i = s.now + 1000000 * s.kettle.sensor i 2 2) ∧ t = { s with reply := { status := .ok }, kettle := t.kettle }) ∧
        (s.kettle.image ≠ [] → s.kettle.st = .withdrawn → exec (.listen by') s =
          .next { s with reply := { status := .ok }, kettle := { s.kettle with listenDue := true } }) ∧
        (s.kettle.image ≠ [] → s.kettle.st = .listening ∨ s.kettle.st = .waking → exec (.listen by') s = .next { s with reply := { status := .ok } })) ∧
      (s.kettle.st = .listening → ∃ t, exec (.stop by') s = .next t ∧ t.kettle.st = .stopped ∧ t.kettle.hist = s.kettle.hist ∧ t.kettle.pc = none ∧
        t = { s with reply := { status := .ok }, kettle := t.kettle }) ∧
      (s.kettle.st = .waking → exec (.stop by') s = .next { s with reply := { status := .ok }, kettle := { s.kettle with stopDue := true } }) ∧
      (s.kettle.st = .withdrawn → exec (.stop by') s = .next { s with reply := { status := .ok }, kettle := { s.kettle with listenDue := false } }) ∧
      (s.kettle.st = .stopped → exec (.stop by') s = .next { s with reply := { status := .ok } }))) ∧
  (∀ (s : State) (i : Fin 8) (acked : Bool) (v : U16),
    let period := s.kettle.sensor i 2 2
    let due := Nat.max s.now (s.kettle.pollAt.rd i)
    (s.kettle.captures = false ∨ s.kettle.sensor i 0 1 = 0 ∨ period = 0 → exec (.sensorPoll i acked v) s = .next s) ∧
    (s.kettle.captures = false ∨ s.kettle.sensor i 0 1 = 0 ∨ period ≠ 0 → exec (.sensorIbi i v) s = .next s) ∧
    (s.kettle.captures = true → s.kettle.sensor i 0 1 ≠ 0 → period ≠ 0 → exec (.sensorPoll i false v) s = .next { s with
      now := due
      kettle := { s.kettle with pollAt := s.kettle.pollAt.wr i (due + 1000000 * period), skips := s.kettle.skips.upd i (· + 1) } }) ∧
    (s.kettle.captures = true → s.kettle.sensor i 0 1 ≠ 0 → period ≠ 0 → exec (.sensorPoll i true v) s = .next (State.sensorSample { s with
      now := due, kettle := { s.kettle with pollAt := s.kettle.pollAt.wr i (due + 1000000 * period) } } i v)) ∧
    (s.kettle.captures = true → s.kettle.sensor i 0 1 ≠ 0 → period = 0 → exec (.sensorIbi i v) s = .next (s.sensorSample i v)) ∧
    (s.kettle.sensor i 4 1 = 0 ∨ (s.kettle.sensor i 4 1 = 1 ∧ sext 16 v.toNat < sext 16 (s.kettle.sensor i 6 2)) ∨
      (s.kettle.sensor i 4 1 = 2 ∧ sext 16 (s.kettle.sensor i 6 2) < sext 16 v.toNat) →
      s.sensorSample i v = s.outRecord 2 s.now (leBytes 8 s.bench ++ leBytes 1 i ++ leBytes 5 0 ++ leBytes 2 v.toNat)) ∧
    ((s.kettle.sensor i 4 1 = 1 ∧ sext 16 (s.kettle.sensor i 6 2) ≤ sext 16 v.toNat) ∨ (s.kettle.sensor i 4 1 = 2 ∧ sext 16 v.toNat ≤ sext 16 (s.kettle.sensor i 6 2)) →
      s.sensorSample i v = (s.outRecord 2 s.now (leBytes 8 s.bench ++ leBytes 1 i ++ leBytes 5 0 ++ leBytes 2 v.toNat)).decisions
        [(2 ^ (20 + i.val), s.kettle.sensor i 5 1 == 1)])) ∧
  (∀ (s : State) (pin : Fin 4) (level : Bool),
    let o := s.kettle.f 48 4 + 4 * pin.val
    (∃ t, exec (.kwakeEdge pin level) s = .next t ∧ (t.kettle.pins.rd pin).level = level ∧
      (t.kettle.pins.rd pin).deadline = (if s.kettle.captures = true ∧ pinCond (s.kettle.f o 1) level = true ∧ (s.kettle.pins.rd pin).level ≠ level
        then some (s.now + 1000000 * s.kettle.f (o + 1) 1) else none) ∧
      (∀ m : Nat, m ≠ pin.val → t.kettle.pins.rd m = s.kettle.pins.rd m) ∧ t = { s with kettle := { s.kettle with pins := t.kettle.pins } }) ∧
    ((s.kettle.pins.rd pin).deadline = none ∨ s.kettle.captures = false → exec (.debounceExpiry pin) s = .next s) ∧
    (∀ d, (s.kettle.pins.rd pin).deadline = some d → s.kettle.captures = true → exec (.debounceExpiry pin) s = .next (State.decisions { s with
      now := Nat.max s.now d, kettle := { s.kettle with pins := s.kettle.pins.upd pin (fun p => { p with deadline := none }) } }
      [(2 ^ (16 + pin.val), s.kettle.f (o + 2) 1 == 1)]))) ∧
  (∀ (s : State) (cause : Nat) (wake : Bool),
    let r := s.outRecord 3 s.now (s.kettle.causeBytes s.bench cause)
    (wake = false ∨ cause = 0 → s.decisions [(cause, wake)] = r) ∧ (wake = true → cause ≠ 0 → s.decisions [(cause, wake)] = r.wakeDecision cause)) ∧
  (∀ s : State, (∀ o : Fin 4, o ≠ 0 → s.outStream o = none ∨ (s.kettle.outs.rd o).offer.isSome = true → exec (.kettleEntryReady o) s = .next s) ∧
    (∀ x rest n, s.outStream 3 = some n → (s.kettle.outs.rd 3).offer = none → (s.kettle.outs.rd 3).buf = x :: rest → ∃ t,
      exec (.kettleEntryReady 3) s = .next t ∧ t.kettle.outs.rd 3 = { s.kettle.outs.rd 3 with buf := rest, offer := some x } ∧
      (∀ m : Nat, m ≠ 3 → t.kettle.outs.rd m = s.kettle.outs.rd m) ∧ t = { s with kettle := { s.kettle with outs := t.kettle.outs } }) ∧
    (∀ (o : Fin 4) (m : Nat), o = 1 ∨ o = 2 → s.outStream o ≠ none → (s.kettle.outs.rd o).offer = none → (s.kettle.outs.rd o).mark = some m →
      (s.now < m + s.kettle.entryNs → exec (.kettleEntryReady o) s = .next s) ∧
      (m + s.kettle.entryNs ≤ s.now → ∃ t, exec (.kettleEntryReady o) s = .next t ∧ (t.kettle.outs.rd o).mark = some (m + s.kettle.entryNs) ∧
        (∀ j : Nat, j ≠ o.val → t.kettle.outs.rd j = s.kettle.outs.rd j) ∧ t = { s with kettle := { s.kettle with outs := t.kettle.outs } })))

/-- Nothing but one port, and what was sent, differs. -/
def Sys2Proof.Machine.State.onlyPort (s t : State) (p : Nat) : Prop :=
  (∀ m, m ≠ p → t.port m = s.port m) ∧ t = { s with sent := t.sent, fab := { s.fab with ports := t.fab.ports } }

/-- The number of replayed flits that an acknowledgement frees. -/
def Sys2Proof.Machine.Port.freed (x : Port) (ack : Nat) : Nat := (ack + 1 + 4096 - (x.txSeq + 4096 - x.replay.length) % 4096) % 4096

/-- FLIT_RECEIVE, IDLE, CREDIT, NAK, RECORD_CLOSE_TIMEOUT, CREDIT_SEND_TIMER, KEY_PHASE_SWITCH, AUTH, AUTH_RESEND_TIMER and
LINK_AUTH_TIMEOUT (14 R513-R522; 16 R611, R612). -/
def Obligations.FlitsAreTakenInOrderAndAnswered : Prop :=
  (∀ (s : State) (p : Fin 8) (bytes : List Byte),
    let raw := padTo 64 bytes
    let h := field raw 0 4
    let k := bitsOf h 27 27 + 2 * bitsOf h 26 24
    let good := field raw 60 4 = crc32c (raw.take 60)
    let seen := s.updPort p (fun x => { x with stats := { x.stats with flitsRx := x.stats.flitsRx + 1 } })
    let u := seen.rxAck p (bitsOf h 23 12)
    ((s.port p).st ≠ .linkAuth → (s.port p).st ≠ .active → exec (.flitReceive p bytes) s = .next s) ∧
    ((s.port p).st.receives = true → ¬good → (s.port p).naked = true → exec (.flitReceive p bytes) s = .next seen) ∧
    ((s.port p).st.receives = true → ¬good → (s.port p).naked = false → ∃ t, exec (.flitReceive p bytes) s = .next t ∧ (t.port p).naked = true ∧
      (t.port p).stats.crcRetries = (s.port p).stats.crcRetries + 1 ∧ (t.port p).rxSeq = (s.port p).rxSeq ∧ t.sent.length = s.sent.length + 1 ∧
      (∀ m : Nat, m ≠ p.val → t.port m = s.port m) ∧ t = { s with events := t.events, gaps := t.gaps, sent := t.sent, fab := { s.fab with ports := t.fab.ports } }) ∧
    ((s.port p).st.receives = true → good →
      (bitAt h 30 = true → exec (.flitReceive p bytes) s = .next (u.rxCtrl p raw)) ∧
      (bitAt h 30 = false → (s.port p).st = .linkAuth → (u.port p).st = .linkAuth ∧ exec (.flitReceive p bytes) s = .next u) ∧
      (bitAt h 30 = false → (s.port p).st = .active →
        ((h % 4096 = (u.port p).rxSeq → bitAt h 29 = false → ∃ t, exec (.flitReceive p bytes) s = .next t ∧ u.onlyPort t p ∧ t.port p = { u.port p with
          rxSeq := ((u.port p).rxSeq + 1) % 4096, rxCount := (u.port p).rxCount + 1, naked := false, got := (u.port p).got.upd k (· + 1),
          rxRec := (u.port p).rxRec ++ [raw] }) ∧
         (h % 4096 = (u.port p).rxSeq → bitAt h 29 = true → exec (.flitReceive p bytes) s = .next ((u.updPort p (fun x => { x with
          rxSeq := (x.rxSeq + 1) % 4096, rxCount := x.rxCount + 1, naked := false, got := x.got.upd k (· + 1) })).recordTag p raw)) ∧
         (h % 4096 ≠ (u.port p).rxSeq → (h + 4096 - (u.port p).rxSeq) % 4096 < 2048 → exec (.flitReceive p bytes) s = .next (u.nakOnce p)) ∧
         (h % 4096 ≠ (u.port p).rxSeq → 2048 ≤ (h + 4096 - (u.port p).rxSeq) % 4096 → exec (.flitReceive p bytes) s = .next u))))) ∧
  (∀ (s : State) (p : Nat) (raw : List Byte),
    let x := s.port p
    let seqs := x.rxRec.filter (fun f => !bitAt (field f 0 4) 30)
    let same := bitAt (field raw 0 4) 31 = x.rxPhase
    let tag := fun key => padTo 16 (Config.gcmTag key (if same then x.rxCount - seqs.length - 1 else 0) (recordAad x.rxRec) (recordText x.rxRec))
    (∀ key, (if same then x.rxKey else x.rxNext) = some key → slice raw 4 16 = tag key → field raw 20 2 = (contentFlits x.rxRec).length →
      ((s.recordTag p raw).port p).rxRec = [] ∧ ((s.recordTag p raw).port p).recFails = 0 ∧ ((s.recordTag p raw).port p).credDirty = true) ∧
    (x.recFails ≤ 1 → (∀ key, (if same then x.rxKey else x.rxNext) = some key → slice raw 4 16 ≠ tag key) →
    ((s.recordTag p raw).port p).rxSeq = ((s.port p).rxSeq + 4096 - seqs.length - 1) % 4096 ∧ ((s.recordTag p raw).port p).rxRec = [] ∧
    ((s.recordTag p raw).port p).rxIn = (s.port p).rxIn ∧ ((s.recordTag p raw).port p).recFails = (s.port p).recFails + 1 ∧
    ((s.recordTag p raw).port p).stats.tagFails = (s.port p).stats.tagFails + 1)) ∧
  (∀ (s : State) (p : Fin 8) (ack fseq : Fin 4096) (totals : List U16), totals.length = 16 →
    exec (.idle p ack) s = .next ((s.updPort p (fun x => x.acked ack)).pump p) ∧
    (∃ u, exec (.credit p totals) s = .next (u.pump p) ∧ s.onlyPort u p ∧ ∀ k : Fin 16,
      (u.port p).credBack.rd k = (let n := unwrap16 ((s.port p).credBack.rd k) (totals.getD k 0).toNat
        if n ≤ (s.port p).sent.rd k then n else (s.port p).credBack.rd k)) ∧
    (∃ t, exec (.nak p fseq) s = .next t ∧ t.port p = (s.port p).acked ((fseq.val + 4095) % 4096) ∧
      t.sent = ((t.port p).replay.map (fun f => Sent.flit p f)).reverse ++ s.sent ∧ s.onlyPort t p)) ∧
  (∀ (x : Port) (ack : Nat), (x.freed ack ≤ x.replay.length → x.acked ack = { x with replay := x.replay.drop (x.freed ack) }) ∧
    (x.replay.length < x.freed ack → x.acked ack = x)) ∧
  (∀ known v : Nat, v < 65536 → known ≤ unwrap16 known v ∧ unwrap16 known v < known + 65536 ∧ unwrap16 known v % 65536 = v) ∧
  (∀ (s : State) (p : Nat), (s.port p).st ≠ .active ∨ (∀ k, (s.port p).out.rd k = []) → s.pump p = s) ∧
  (∀ (s : State) (p : Fin 8),
    ((s.port p).st ≠ .active → ∀ c ∈ [Instr.recordCloseTimeout p, .creditSendTimer p, .keyPhaseSwitch p], exec c s = .next s) ∧
    ((s.port p).credDirty = false → exec (.creditSendTimer p) s = .next s) ∧
    ((s.port p).st = .active → (s.port p).credDirty = true → exec (.creditSendTimer p) s = .next ((s.updPort p (fun x => { x with credDirty := false })).sendCtrl p 1
      (leBytes 3 0 ++ (List.range 16).flatMap (fun k => leBytes 2 ((s.port p).credGiven.rd k))))) ∧
    ((s.port p).st = .active → (∀ k, (s.port p).out.rd k = []) → (s.port p).txRec = [] → exec (.recordCloseTimeout p) s = .next s) ∧
    (∀ f, (s.port p).st = .active → (∀ k, (s.port p).out.rd k = []) → (contentFlits (s.port p).txRec).getLast? = some f →
      ∃ t, exec (.recordCloseTimeout p) s = .next t ∧ (t.port p).txRec = [] ∧ (t.port p).txSeq = ((s.port p).txSeq + 1) % 4096 ∧
        (t.port p).replay.length = (s.port p).replay.length + 1 ∧ t.sent.length = s.sent.length + 1 ∧ s.onlyPort t p) ∧
    (∀ key, (s.port p).st = .active → (s.port p).nextKey = some key → (s.port p).txRec = [] → ∃ t, exec (.keyPhaseSwitch p) s = .next t ∧
      t.port p = { s.port p with txKey := some key, nextKey := none, keyPhase := !(s.port p).keyPhase, txCount := 0 } ∧ s.onlyPort t p) ∧
    ((s.port p).st = .active → (s.port p).nextKey = none → (s.port p).auth.running = true → exec (.keyPhaseSwitch p) s = .next s) ∧
    ((s.port p).st = .active → (s.port p).nextKey = none → (s.port p).auth.running = false → ∃ t, exec (.keyPhaseSwitch p) s = .next t ∧
      (t.port p).auth = { running := true, limitAt := s.now + 50000000, hello := s.helloBytes, resendAt := s.now + 20000 } ∧
      t.sent.length = s.sent.length + 7 ∧ t.freeCtr = s.freeCtr + 1)) ∧
  (∀ (s : State) (p : Fin 8) (msg part count : Byte) (data : List Byte) (rcvd : U32),
    ((s.port p).auth.running = false → exec (.auth p msg part count data rcvd) s = .next s ∧ exec (.authResendTimer p) s = .next s) ∧
    ((s.port p).auth.running = true → ∃ t, exec (.auth p msg part count data rcvd) s = .next t ∧ (t.port p).auth.rcvd = rcvd.toNat ∧ s.onlyPort t p ∧
      ((t.port p).auth.peerHello = if msg = 0 ∧ part.toNat < 7 ∧ count = 7 ∧ ((s.port p).auth.peerHello.any (fun e => e.1 == part.toNat)) = false
        then (s.port p).auth.peerHello.ins part.toNat (padTo 48 data) else (s.port p).auth.peerHello) ∧
      (msg = 1 → part.toNat < 2 → count = 2 → ((s.port p).auth.peerFinish.any (fun e => e.1 == part.toNat)) = false →
        (t.port p).auth.peerFinish = (s.port p).auth.peerFinish.ins part.toNat (padTo 48 data))) ∧
    ((s.port p).auth.running = true → (s.port p).auth.finish = [] → ∃ t, exec (.authResendTimer p) s = .next t ∧ t.now = Nat.max s.now (s.port p).auth.resendAt ∧
      (t.port p).auth.resendAt = t.now + 20000 ∧
      t.sent.length = s.sent.length + ((List.range 7).filter (fun k => !bitAt ((s.port p).auth.rcvd % 65536) k)).length) ∧
    ((s.port p).auth.running = true → (s.port p).auth.finish ≠ [] → ∃ t, exec (.authResendTimer p) s = .next t ∧
      (t.port p).auth.resendAt = t.now + 20000 ∧
      t.sent.length = s.sent.length + ((List.range 2).filter (fun k => !bitAt ((s.port p).auth.rcvd / 65536) k)).length) ∧
    ((s.port p).st ≠ .linkAuth ∨ (s.port p).auth.running = false → exec (.linkAuthTimeout p) s = .next s) ∧
    ((s.port p).st = .linkAuth → (s.port p).auth.running = true → ∃ t, exec (.linkAuthTimeout p) s = .next t ∧ (t.port p).st = .down ∧
      (t.port p).auth.running = false ∧ t.now = Nat.max s.now (s.port p).auth.limitAt ∧ (∀ m : Nat, m ≠ p.val → t.port m = s.port m) ∧
      t = { s with now := t.now, events := t.events, gaps := t.gaps, fab := { s.fab with ports := t.fab.ports } }))

/-- PORT_DETECT, PORT_EQUALIZE, LANE_MAP, LINK_INIT, LINK_AUTH_COMPLETE, PORT_RETRAIN, RETRAIN_REQ, RESET_NOTICE, LINK_LOSS and
ROUTE_TABLE_WRITE (14 R526-R533, R545; 16 R612). -/
def Obligations.PortsTrainRouteAndGuard : Prop :=
  (∀ (s : State) (p : Fin 8) (ok found : Bool) (gt gr : Fin 32) (fc fu : U32) (st sr : Fin 5) (speed : Byte) (die fid : U16) (pp : Fin 8) (ep : U64),
    let x := s.port p
    (x.st ≠ .detect → exec (.portDetect p found) s = .next s) ∧ (x.st ≠ .equalize → exec (.portEqualize p ok) s = .next s) ∧
    (x.st ≠ .laneMap → exec (.laneMap p ok gt gr st sr) s = .next s) ∧ (x.st ≠ .linkInit → exec (.linkInit p ok die pp fid ep) s = .next s) ∧
    (x.st ≠ .active → x.st ≠ .retrain → exec (.portRetrain p gt gr fc fu) s = .next s ∧ exec (.resetNotice p) s = .next s ∧ exec (.linkLoss p) s = .next s) ∧
    (x.st ≠ .active ∨ 1 < speed.toNat → exec (.retrainReq p speed) s = .next s) ∧
    (x.st = .detect → ∃ t, exec (.portDetect p true) s = .next t ∧ t.now = Nat.max s.now x.detectAt ∧
      t.port p = { x with st := .equalize, limitAt := t.now + 200000000 } ∧ (∀ m : Nat, m ≠ p.val → t.port m = s.port m) ∧ t = { s with now := t.now, fab := t.fab }) ∧
    (x.st = .detect → ∃ t, exec (.portDetect p false) s = .next t ∧ t.now = Nat.max s.now x.detectAt ∧ (t.port p).st = .detect ∧
      (t.port p).attempts = x.attempts + 1 ∧ t.now + 10000000 * 2 ^ (Nat.min (x.attempts + 1) 5) ≤ (t.port p).detectAt ∧
      (t.port p).detectAt ≤ t.now + 10000000 * 2 ^ (Nat.min (x.attempts + 1) 5) + 10000000 ∧ (∀ m : Nat, m ≠ p.val → t.port m = s.port m)) ∧
    (x.st = .equalize → ∃ t, exec (.portEqualize p true) s = .next t ∧ t.port p = { x with st := .laneMap, limitAt := s.now + 2000000 } ∧ s.onlyPort t p) ∧
    (x.st = .equalize ∨ x.st = .laneMap → x.speed = 0 → x.quarterTried = false →
      ∃ t, exec (if x.st = .equalize then .portEqualize p false else .laneMap p false gt gr st sr) s = .next t ∧
        t.port p = { x with st := .equalize, speed := 1, quarterTried := true, limitAt := s.now + 200000000 } ∧ s.onlyPort t p) ∧
    (x.st = .equalize ∨ x.st = .laneMap → x.speed ≠ 0 ∨ x.quarterTried = true →
      exec (if x.st = .equalize then .portEqualize p false else .laneMap p false gt gr st sr) s = .next (s.portDown p)) ∧
    (x.st = .laneMap → fourLanes gt st = none ∨ fourLanes gr sr = none → exec (.laneMap p true gt gr st sr) s = .next (s.portDown p)) ∧
    (∀ a b, x.st = .laneMap → fourLanes gt st = some a → fourLanes gr sr = some b → ∃ t, exec (.laneMap p true gt gr st sr) s = .next t ∧
      t.port p = { x with st := .linkInit, goodTx := gt, goodRx := gr, txLanes := a, rxLanes := b, limitAt := s.now + 1000000 } ∧ s.onlyPort t p) ∧
    (∀ n a, n < 32 → fourLanes n st = some a → (maskBits 5 a).length = 4 ∧ ∀ l, l < 5 → bitAt a l = true → bitAt n l = true) ∧
    (x.st = .linkInit → ok = false ∨ die.toNat = s.dieId ∨ die = 0xFFFF → exec (.linkInit p ok die pp fid ep) s = .next (s.portDown p)) ∧
    (x.st = .linkInit → die.toNat ≠ s.dieId → die ≠ 0xFFFF → ∃ t, exec (.linkInit p true die pp fid ep) s = .next t ∧ (t.port p).st = .linkAuth ∧
      (t.port p).peer = { die := die.toNat, port := pp, fabric := fid.toNat } ∧ (t.port p).auth.running = true ∧ (t.port p).auth.limitAt = s.now + 50000000 ∧
      (∀ m : Nat, m ≠ p.val → t.port m = s.port m)) ∧
    (x.st = .active → speed.toNat ≤ 1 → ∃ t, exec (.retrainReq p speed) s = .next t ∧ (t.port p).st = .retrain ∧ (t.port p).speed = speed.toNat ∧
      (t.port p).replay = x.replay ∧ (∀ m : Nat, m ≠ p.val → t.port m = s.port m) ∧
      t = { s with events := t.events, gaps := t.gaps, fab := { s.fab with ports := t.fab.ports } }) ∧
    (x.st = .active → ∃ t, exec (.portRetrain p gt gr fc fu) s = .next t ∧ (t.port p).st = .retrain ∧ (t.port p).stats = { x.stats with
      fecCorrected := x.stats.fecCorrected + fc.setWidth 64, fecUncorr := x.stats.fecUncorr + fu.setWidth 64, retrains := x.stats.retrains + 1 } ∧ (t.port p).limitAt = s.now + 2000000 ∧
      (t.port p).replay = x.replay ∧ (∀ m : Nat, m ≠ p.val → t.port m = s.port m) ∧
      t = { s with events := t.events, gaps := t.gaps, fab := { s.fab with ports := t.fab.ports } }) ∧
    (x.st = .retrain → x.txLanes = 15 → x.rxLanes = 15 → x.goodTx = 31 → x.goodRx = 31 → x.out = [] → x.rekeyDue = false → s.fab.waitOut = [] →
      ∃ t, exec (.portRetrain p 1 0 fc fu) s = .next t ∧ (t.port p).st = .active ∧ (t.port p).txLanes = 30 ∧ (t.port p).rxLanes = 15 ∧
        (t.port p).spared = x.spared + 1 ∧ (t.port p).replay = x.replay ∧ (∀ m : Nat, m ≠ p.val → t.port m = s.port m)) ∧
    (x.st = .active ∨ x.st = .retrain →
      exec (.resetNotice p) s = .next ((s.guardPort p).report 0 x.peer.die ((s.agree.neigh.rd p).resetCount + 1)) ∧
      ∃ u, u = (State.portDown (s.guardPort p) p) ∧ exec (.linkLoss p) s = .next (let v : State := { u with agree := { u.agree with neigh := u.agree.neigh.wr p {} } }
        if v.alone = true then (v.applyNotice 0 x.peer.die).elect else v.report 0 x.peer.die 0)) ∧
    ((s.portDown p).port p).st = .down ∧ ((s.portDown p).port p).admitted = false) ∧
  (∀ (s : State) (p : Fin 8),
    let x := s.port p
    let a := x.auth
    (a.helloOf = none ∨ a.finishOf = none ∨ a.running = false ∨ a.finish = [] ∨ a.rcvd / 65536 % 4 ≠ 3 ∨ (x.st ≠ .linkAuth ∧ x.st ≠ .active) →
      exec (.linkAuthComplete p) s = .next s) ∧
    (∀ peer fin, a.helloOf = some peer → a.finishOf = some fin → a.running = true → a.finish ≠ [] → a.rcvd / 65536 % 4 = 3 →
      (x.st = .linkAuth → s.peerOk a.hello peer fin = true → s.agree.adoption = none → s.fab.waitOut = [] → (∀ k, x.out.rd k = []) → ∃ t, exec (.linkAuthComplete p) s = .next t ∧
        (t.port p).st = .active ∧ (t.port p).txKey = some (linkKey a.hello peer s.dieId (field peer 0 2)) ∧
        (t.port p).rxKey = some (linkKey a.hello peer (field peer 0 2) s.dieId) ∧ (t.port p).txSeq = 0 ∧ (t.port p).rxSeq = 0 ∧ s.onlyPort t p) ∧
      (x.st = .active → s.peerOk a.hello peer fin = true → ∃ t, exec (.linkAuthComplete p) s = .next t ∧ (t.port p).st = .active ∧
        (t.port p).txKey = x.txKey ∧ (t.port p).nextKey = some (linkKey a.hello peer s.dieId (field peer 0 2)) ∧
        (t.port p).rxNext = some (linkKey a.hello peer (field peer 0 2) s.dieId) ∧ s.onlyPort t p) ∧
      (x.st = .linkAuth → s.peerOk a.hello peer fin = false → ∃ t, exec (.linkAuthComplete p) s = .next t ∧ (t.port p).st = .down ∧
        t = (s.updPort p (fun x => { x with st := .down, auth := {} })).emit (72 + p) 0x506 0xFF p))) ∧
  (∀ (s : State) (by' : Principal) (first : Fin 65536) (es : List U16), s.serving →
    let bad := (∃ e ∈ es, bitsOf e.toNat 9 8 = 3 ∨ bitsOf e.toNat 15 10 ≠ 0) ∨ 65536 < first.val + es.length
    (by' ≠ .surv → by' ≠ .hostk → by' ≠ .rtp → exec (.routeTableWrite by' first es) s = .next { s with reply := { status := .denied } }) ∧
    (by' = .surv ∨ by' = .hostk ∨ by' = .rtp →
      (bad → exec (.routeTableWrite by' first es) s = .next { s with reply := { status := .unsupported } }) ∧
      (¬ bad → ∃ t, exec (.routeTableWrite by' first es) s = .next t ∧ (∀ i, i < es.length → t.fab.routes.rd (first.val + i) = (es.getD i 0).toNat) ∧
        (∀ d, d < first.val ∨ first.val + es.length ≤ d → t.fab.routes.rd d = s.fab.routes.rd d) ∧
        t = { s with reply := { status := .ok }, fab := { s.fab with routes := t.fab.routes } })))

/-- A line read and a line write with each opcode of its kind. -/
def Sys2Proof.Machine.lineReads (m : Msg) : List Instr := [.rd m, .brd m]
/-- The line writes. -/
def Sys2Proof.Machine.lineWrites (m : Msg) : List Instr := [.wr m, .wrm m, .bwr m, .swr m]

/-- RD, BRD, WR, WRM, BWR, SWR, ATOM, SEM and RING_MESSAGE (14 R538, R541; 08 R271, R272; 09 R342-R354; 10 R371, R380). -/
def Obligations.RemoteRequestsAreServedAtTheTarget : Prop :=
  (∀ (s : State) (m : Msg), Msg.aligned m = false → ∀ c ∈ lineReads m ++ lineWrites m, exec c s = .next (s.replyTo m .unsupported 0 [])) ∧
  (∀ (s : State) (m : Msg),
    let p := bitsOf m.addr 47 45
    (s.agree.standing = .quarantined → s.serveGate p m = some .quarantined) ∧ (s.agree.standing = .fenced → s.serveGate p m = some .denied) ∧
    (s.agree.standing = .admitted → (s.parcel p).active = false ∨ (s.parcel p).fabricId ≠ m.fabric ∨ s.fabricMember m.fabric m.src = false →
      s.serveGate p m = some .denied) ∧
    (s.agree.standing = .admitted → (s.parcel p).active = true → (s.parcel p).fabricId = m.fabric → s.fabricMember m.fabric m.src = true →
      s.serveGate p m = none) ∧
    (∀ st, Msg.aligned m = true → s.serveGate p m = some st → ∀ c ∈ lineReads m ++ lineWrites m, exec c s = .next (s.replyTo m st 0 []))) ∧
  (∀ (s u v : State) (m : Msg) (p : Nat) (ps : List Piece) (bs : List Byte), Msg.aligned m = true →
    s.spot m (128 * (m.ctl % 4 + 1)) true false = .mem p ps u → u.readPieces (.parcel p) ps = .ok bs v →
    ∀ c ∈ lineReads m, exec c s = .next (v.replyTo m .ok 0 bs)) ∧
  (∀ (s u : State) (m : Msg) (p sl off : Nat), Msg.aligned m = true → s.spot m (128 * (m.ctl % 4 + 1)) true false = .slice p sl off u →
    let x := u.slc.rd sl
    let len := 128 * (m.ctl % 4 + 1)
    (x.withdrawn = true ∨ x.powered = false ∨ (∃ g ∈ granules off len, (x.gran.rd g).holdable = false) → ∀ c ∈ lineReads m, exec c s = .next u) ∧
    (x.withdrawn = false → x.powered = true → (∀ g ∈ granules off len, (x.gran.rd g).holdable = true) →
      (x.badRange off len = true → ∀ c ∈ lineReads m, exec c s = .next (u.replyTo m .faulted 0 [])) ∧
      (x.badRange off len = false → ∀ c ∈ lineReads m, exec c s = .next (u.replyTo m .ok 0 (memRead x.bytes off len))))) ∧
  (∀ (s u : State) (m : Msg) (p sl off : Nat), Msg.aligned m = true → s.spot m (128 * (m.ctl % 4 + 1)) false true = .slice p sl off u →
    let gs := granules off (128 * (m.ctl % 4 + 1))
    (u.canClaim sl gs = false → ∀ c ∈ lineWrites m, exec c s = .next u) ∧
    (u.canClaim sl gs = true → ∃ w : State, (∀ c ∈ lineWrites m, exec c s = .next (w.replyTo m .ok 0 [])) ∧
      (∀ i, i < (writeData m).length → (w.slc.rd sl).bytes.rd (off + i) =
        if ((writeData m).getD i (0, false)).2 = true then ((writeData m).getD i (0, false)).1 else (u.slc.rd sl).bytes.rd (off + i)) ∧
      (∀ a, a < off ∨ off + (writeData m).length ≤ a → (w.slc.rd sl).bytes.rd a = (u.slc.rd sl).bytes.rd a) ∧
      (∀ g ∈ gs, ((w.slc.rd sl).gran.rd g).st = .present) ∧ (∀ n, n ≠ sl → w.slc.rd n = u.slc.rd n) ∧ w = { u with slc := w.slc })) ∧
  (∀ (s u v : State) (m : Msg) (p : Nat) (ps : List Piece), Msg.aligned m = true → m.op ≠ 3 → m.kept = none → m.payload.length = 128 * (m.ctl % 4 + 1) →
    s.spot m (128 * (m.ctl % 4 + 1)) false true = .mem p ps u → (∀ x ∈ ps, u.pieceBusy x = false) →
    u.writePieces (.parcel p) (subPieces ps 0 m.payload.length) m.payload = .ok () v →
    ∀ c ∈ lineWrites m, exec c s = .next (v.replyTo m .ok 0 [])) ∧
  (∀ (s : State) (m : Msg),
    let n := if bitAt m.ctl 6 = true then 8 else 4
    (m.addr % n ≠ 0 → exec (.atom m) s = .next (s.replyTo m .faulted 0 [])) ∧
    (∀ st u, m.addr % n = 0 → s.spot m n true true = .refuse st u → exec (.atom m) s = .next (u.replyTo m st 0 [])) ∧
    (∀ p sl off u, m.addr % n = 0 → s.spot m n true true = .slice p sl off u → exec (.atom m) s = .next (u.replyTo m .unsupported 0 [])) ∧
    (∀ p ps u, m.addr % n = 0 → s.spot m n true true = .mem p ps u →
      ((∃ x ∈ ps, u.atomicOffered (bitsOf m.ctl 5 2) x.back = false) → exec (.atom m) s = .next (u.replyTo m .unsupported 0 [])) ∧
      (∀ bs v new w, (∀ x ∈ ps, u.atomicOffered (bitsOf m.ctl 5 2) x.back = true ∧ u.pieceBusy x = false) → u.readPieces (.parcel p) ps = .ok bs v →
        atomicNew (bitsOf m.ctl 5 2) n (leNat bs) (field m.payload 0 n) (field m.payload 8 n) = some new →
        v.writePieces (.parcel p) ps (leBytes n new) = .ok () w → exec (.atom m) s = .next (w.replyTo m .ok 0 (leBytes 8 (leNat bs)))))) ∧
  (∀ (s : State) (m : Msg),
    let k := m.addr % 256
    let o := SemOwner.die m.src (m.addr / 256 % 1024)
    let x := s.sems.rd k
    (s.semParcel k = none ∨ (∃ p, s.semParcel k = some p ∧ s.serveGate p m ≠ none) → exec (.sem m) s = .next (s.replyTo m .denied 0 (leBytes 8 0))) ∧
    (∀ p, s.semParcel k = some p → s.serveGate p m = none →
      (bitAt m.ctl 2 = true → x.st = .held → x.owner = some o → exec (.sem m) s =
        .next ((State.replyTo { s with sems := s.sems.wr k { x with st := .free, owner := none } } m .ok 0 (leBytes 8 0)).semSettle)) ∧
      (bitAt m.ctl 2 = true → ¬(x.st = .held ∧ x.owner = some o) → exec (.sem m) s = .next (s.replyTo m .faulted 0 (leBytes 8 0))) ∧
      (bitAt m.ctl 2 = false → x.st = .free → exec (.sem m) s =
        .next (State.replyTo { s with sems := s.sems.wr k { x with st := .held, owner := some o } } m .ok 0 (leBytes 8 0))) ∧
      (bitAt m.ctl 2 = false → x.st = .abandoned → bitAt m.ctl 3 = true → exec (.sem m) s =
        .next (State.replyTo { s with sems := s.sems.wr k { x with st := .held, owner := some o } } m .ok 0 (leBytes 8 1))) ∧
      (bitAt m.ctl 2 = false → x.st = .abandoned → bitAt m.ctl 3 = false → exec (.sem m) s = .next (s.replyTo m .abandoned 0 (leBytes 8 1))) ∧
      (bitAt m.ctl 2 = false → x.st = .held → x.owner = some o → exec (.sem m) s = .next (s.replyTo m .faulted 0 (leBytes 8 0))) ∧
      (bitAt m.ctl 2 = false → x.st = .held → x.owner ≠ some o → s.remoteWaiters < 64 → exec (.sem m) s = .next (State.take { s with
        sems := s.sems.wr k { x with waiters := x.waiters ++ [{ owner := o, abnOk := bitAt m.ctl 3, tag := m.tag }] } } m)) ∧
      (bitAt m.ctl 2 = false → x.st = .held → x.owner ≠ some o → 64 ≤ s.remoteWaiters →
        exec (.sem m) s = .next ((s.replyTo m .busy 2 (leBytes 8 0)).emit 57 0x331 0xFF k)))) ∧
  (∀ (s : State) (m : Msg),
    let q := m.addr % 1024
    (s.queueParcel q = none ∨ (∃ p, s.queueParcel q = some p ∧ s.serveGate p m ≠ none) → exec (.ringMessage m) s = .next (s.replyTo m .denied 0 [])) ∧
    (∀ p, s.queueParcel q = some p → s.serveGate p m = none →
      exec (.ringMessage m) s = .next ((s.ringTail q (BitVec.ofNat 32 (field m.payload 0 4))).replyTo m .ok 0 [])))

/-- The four responses. -/
def Sys2Proof.Machine.responses (m : Msg) : List Instr := [.rdr m, .slAck m, .atomr m, .semr m]

/-- RDR, SL_ACK, ATOMR, SEMR, TXN_TIMEOUT, TAG_RELEASE_TIMEOUT and SEM_REMOTE_RETRY (14 R540-R543; 09 R354). -/
def Obligations.RemoteResponsesEndTheirTags : Prop :=
  (∀ (s : State) (m : Msg),
    let x := s.fab.txns.rd m.tagNo
    (m.tepoch ≠ s.fab.tepoch % 16 ∨ x.held = false ∨ m.op ≠ responseOp x.req.op → ∀ c ∈ responses m, exec c s = .next ((s.take m).emit 71 0x407 0xFF m.src)) ∧
    (m.tepoch = s.fab.tepoch % 16 → x.held = true → m.op = responseOp x.req.op → x.timedOut = true → s.fab.gathers = [] →
      ∀ c ∈ responses m, ∃ t, exec c s = .next t ∧ t.fab.txns.rd m.tagNo = {} ∧ t.fab.timedOut = s.fab.timedOut + 1 ∧
        (∀ n, n ≠ m.tagNo → t.fab.txns.rd n = s.fab.txns.rd n) ∧ t = { s with events := t.events, gaps := t.gaps, fab := t.fab }) ∧
    (∀ g, m.tepoch = s.fab.tepoch % 16 → x.held = true → m.op = responseOp x.req.op → x.timedOut = false → s.fab.gathers = [g] → g.owner = x.owner → g.todo = [] →
      ∀ c ∈ responses m, (c = .semr m → m.status ≠ 1) → ∃ t, exec c s = .next t ∧ t.fab.txns.rd m.tagNo = {} ∧ t.fab.completed = s.fab.completed + 1 ∧
        (∀ n, n ≠ m.tagNo → t.fab.txns.rd n = s.fab.txns.rd n) ∧
        t.fab.gathers = [{ g with
          outstanding := g.outstanding - 1
          failed := if g.failed.isSome = true then g.failed else respFailure m
          buf := if m.status ≠ 0 then g.buf else memWrite g.buf x.req.off (slice (if c = .slAck m then [] else m.payload) x.req.skip x.req.len) }] ∧
        t = { s with jobs := t.jobs, fab := t.fab }) ∧
    (∀ g, m.tepoch = s.fab.tepoch % 16 → x.held = true → m.op = responseOp x.req.op → x.timedOut = false → s.fab.gathers = [g] → g.owner = x.owner → m.status = 1 →
      ∃ t, exec (.semr m) s = .next t ∧ t.fab.txns.rd m.tagNo = {} ∧
        t.fab.gathers = [{ g with outstanding := g.outstanding - 1, retry := some x.req, retryAt := s.now + 1000 * m.retry }] ∧ t = { s with fab := t.fab })) ∧
  (∀ (s : State) (n : Fin 4096),
    let x := s.fab.txns.rd n
    (x.held = false → exec (.txnTimeout n) s = .next s ∧ exec (.tagReleaseTimeout n) s = .next s) ∧
    (x.timedOut = true → exec (.txnTimeout n) s = .next s) ∧ (x.timedOut = false → exec (.tagReleaseTimeout n) s = .next s) ∧
    (x.held = true → x.timedOut = false → ∃ t, exec (.txnTimeout n) s = .next t ∧ t.now = Nat.max s.now x.deadline ∧ t.fab.txns.rd n = { x with timedOut := true } ∧
      (∀ k : Nat, k ≠ n.val → t.fab.txns.rd k = s.fab.txns.rd k) ∧
      t.fab.gathers = s.fab.gathers.map (fun g => if g.owner = x.owner then { g with
        outstanding := g.outstanding - 1, todo := [], failed := some (g.failed.getD (.truncated, .none)) } else g) ∧
      t = { s with now := t.now, events := t.events, gaps := t.gaps, fab := t.fab }) ∧
    (x.held = true → x.timedOut = true → s.fab.gathers = [] → ∃ t, exec (.tagReleaseTimeout n) s = .next t ∧
      t.now = Nat.max s.now (x.deadline + 1000 * s.fab.txnTimeoutUs) ∧ t.fab.txns.rd n = {} ∧ t.fab.timedOut = s.fab.timedOut + 1 ∧
      (∀ k : Nat, k ≠ n.val → t.fab.txns.rd k = s.fab.txns.rd k) ∧ t = { s with now := t.now, fab := t.fab })) ∧
  (∀ (s : State) (q : Fin 1024),
    ((∀ g ∈ s.fab.gathers, g.retry = none) → exec (.semRemoteRetry q) s = .next s) ∧
    (∀ g r serial i, s.fab.gathers = [g] → g.owner = .step q serial i → g.retry = some r → ∃ u, exec (.semRemoteRetry q) s = .next (issueGo g.owner 8 u) ∧
      u.now = Nat.max s.now g.retryAt ∧ u.fab.gathers = [{ g with todo := [r], retry := none }] ∧ u = { s with now := u.now, fab := u.fab }))

/-- COLL_CONFIG_WRITE, CSEG and CABORT (14 R547-R555). -/
def Obligations.CollectivesCombineUpAndHandDown : Prop :=
  (∀ (s : State) (by' : Principal) (c : Fin 8) (kind op type parcel : Byte) (root reserved : U16) (result length reserved2 : U64), s.serving →
    let w := Instr.collConfigWrite by' c kind op type parcel root reserved result length reserved2
    let bad := 3 < kind.toNat ∨ 2 < op.toNat ∨ 2 < type.toNat ∨ (7 < parcel.toNat ∧ parcel ≠ 0xFF) ∨ reserved ≠ 0 ∨ reserved2 ≠ 0 ∨ result.toNat % 128 ≠ 0 ∨
      2 ^ 48 ≤ result.toNat ∨ length.toNat % 128 ≠ 0
    (by' ≠ .hostk → by' ≠ .rtp → exec w s = .next { s with reply := { status := .denied } }) ∧
    (by' = .hostk ∨ by' = .rtp →
      (bad → exec w s = .next { s with reply := { status := .unsupported } }) ∧
      (¬ bad → (∃ e ∈ (s.coll c).segs, e.own ≠ none) → exec w s = .next { s with reply := { status := .busy } }) ∧
      (¬ bad → (∀ e ∈ (s.coll c).segs, e.own = none) → ∃ t, exec w s = .next t ∧ t.coll c = { kind := kind.toNat, op := op.toNat, type := type.toNat, parcel := parcel.toNat, root := root.toNat, result := result.toNat, length := length.toNat } ∧ (∀ k : Nat, k ≠ c.val → t.coll k = s.coll k) ∧
        t = { s with reply := { status := .ok }, fab := { s.fab with colls := t.fab.colls } }))) ∧
  (∀ (s : State) (m : Msg), ∃ t, exec (.cabort m) s = .next t ∧ (t.coll (m.addr % 256 % 8)).faulted = true ∧ (t.coll (m.addr % 256 % 8)).segs = [] ∧
    (∀ k, k ≠ m.addr % 256 % 8 → t.coll k = s.coll k) ∧ t.fab.arrived = s.fab.arrived.erase m ∧ t.mem = s.mem) ∧
  (∀ (s : State) (m : Msg),
    let c := m.addr % 256 % 8
    let dir := m.addr / 256 % 256
    let seg := m.addr / 65536
    let x := s.coll c
    let place := s.treePlace x
    let mine := x.segs.find? (fun e => e.seg == seg)
    let agrees := x.parcel ≤ 7 ∧ (s.parcel x.parcel).fabricId = m.fabric ∧ ∀ e b, mine = some e → e.own = some b → b.length = m.payload.length
    let up := dir = 0 ∧ (place.2.2.1 = some m.src ∨ place.2.2.2 = some m.src)
    let down := dir = 1 ∧ place.2.1 = some m.src ∧ x.kind ≠ 1
    (x.faulted = true → exec (.cseg m) s = .next (s.take m)) ∧
    (x.faulted = false → ¬(agrees ∧ (up ∨ down)) → exec (.cseg m) s = .next ((s.take m).abortColl c)) ∧
    (x.faulted = false → agrees → up →
      (x.seg + 16 ≤ seg → exec (.cseg m) s = .next s) ∧
      (seg < x.seg + 16 → mine = none → place.2.2.1 = some m.src → ∃ t, exec (.cseg m) s = .next t ∧
        (t.coll c).segs = x.segs ++ [{ seg := seg, kid1 := some m.payload }] ∧ (∀ k, k ≠ c → t.coll k = s.coll k) ∧
        t = { s with fab := { s.fab with arrived := s.fab.arrived.erase m, colls := t.fab.colls } }) ∧
      (∀ e own d, seg < x.seg + 16 → x.kind = 0 → x.segs = [e] → e.seg = seg → e.own = some own → e.kid2 = none → e.sentUp = false → place.1 ≠ 0 → place.2.1 = some d →
        place.2.2.1 = some m.src → place.2.2.2 = none → ∃ u : State, exec (.cseg m) s = .next (State.updColl (u.sendSeg c 0 seg d (x.combineSeg own m.payload)) c
          (fun x => { x with segs := x.segs.map (fun y => if y.seg = seg then { y with sentUp := true } else y) })) ∧
          (u.coll c).segs = [{ e with kid1 := some m.payload }] ∧ u = { s with fab := { s.fab with arrived := s.fab.arrived.erase m, colls := u.fab.colls } })) ∧
    (x.faulted = false → agrees → down →
      (mine = none → exec (.cseg m) s = .next s) ∧
      (∀ e u, mine = some e → s.segDown c e m.payload = (u, true) → exec (.cseg m) s = .next (u.take m)) ∧
      (∀ e u, mine = some e → s.segDown c e m.payload = (u, false) → exec (.cseg m) s = .next u))) ∧
  (∀ a b : Nat, combineElem 0 0 a b = (a + b) % 2 ^ 32 ∧ combineElem 0 1 a b = (if sext 32 a < sext 32 b then b else a) ∧
    combineElem 0 2 a b = (if sext 32 b < sext 32 a then b else a))

/-- BEACON, BEACON_TIMER, BEACON_STALE, DATUM_PROPOSE, DATUM_ADOPTION, NOTICE_REPORT, LOST_PROBE_TIMEOUT, NOTICE, DATUM_ANNOUNCE, JOB_RECORD
and SWITCH_DONE (15 R561-R576). -/
def Obligations.DiesAgreeOnDatumAndStanding : Prop :=
  (∀ (s : State) (p : Fin 8) (b : List Byte),
    let bad := b.length ≠ 80 ∨ 8 ≤ field b 19 1 ∨ field b 28 4 ≠ 0
    (bad → exec (.beacon p b) s = .next { s with reply := { status := .unsupported } }) ∧
    (¬bad → (s.port p).st ≠ .active → exec (.beacon p b) s = .next { s with reply := { status := .denied } }) ∧
    (¬bad → (s.port p).st = .active → ∃ t, exec (.beacon p b) s = .next t ∧ t.reply = { status := .ok } ∧ (t.agree.neigh.rd p).heard = true ∧
      (t.agree.neigh.rd p).at' = s.now ∧ (t.agree.neigh.rd p).epoch = field b 0 8 ∧ (t.agree.neigh.rd p).survDie = field b 16 2 ∧
      (t.agree.neigh.rd p).resetCount = field b 24 4 ∧ (t.agree.neigh.rd p).digest = slice b 32 48 ∧ field b 0 8 ≤ t.agree.maxEpoch ∧
      (∀ m : Nat, m ≠ p.val → t.agree.neigh.rd m = s.agree.neigh.rd m) ∧ t.now = s.now) ∧
    ((s.agree.neigh.rd p).heard = false → exec (.beaconStale p) s = .next s) ∧
    ((s.agree.neigh.rd p).heard = true → ∃ t, exec (.beaconStale p) s = .next t ∧ t.agree.neigh.rd p = { s.agree.neigh.rd p with heard := false } ∧
      (∀ m : Nat, m ≠ p.val → t.agree.neigh.rd m = s.agree.neigh.rd m) ∧ t.agree.datum = s.agree.datum ∧
      t = { s with now := t.now, events := t.events, gaps := t.gaps, agree := t.agree })) ∧
  (∀ s : State, (∃ t, exec .beaconTimer s = .next t ∧ t.now = Nat.max s.now (nextMultiple s.now 1000000) ∧ t.agree.datum = s.agree.datum ∧ t.agree.neigh = s.agree.neigh) ∧
    ((∀ p : Fin 8, (s.port p).st ≠ .active) → exec .beaconTimer s = .next (s.reach (nextMultiple s.now 1000000)).elect) ∧
    (s.alone = true → s.elect.agree.survDie = s.dieId ∧ s.elect.agree.survHops = 0) ∧ nextMultiple s.now 1000000 % 1000000 = 0 ∧ s.now < nextMultiple s.now 1000000 ∧
    nextMultiple s.now 1000000 ≤ s.now + 1000000) ∧
  (∀ (s : State) (by' : Principal) (b : List Byte), s.serving →
    let own := s.agree.datum.epoch
    let shows := fun (t : State) (st : Status) (e : Nat) => t.agree.result = { ready := true, bytes := leBytes 1 st.code ++ leBytes 8 e } ∧ t.reply = { status := .ok }
    (by' ≠ .hostk → by' ≠ .rtp → by' ≠ .board → exec (.datumPropose by' b) s = .next { s with reply := { status := .denied } }) ∧
    (by' = .hostk ∨ by' = .rtp ∨ by' = .board →
      (s.isSurveyor = false → exec (.datumPropose by' b) s =
        .next ((State.writeLong { s with agree := { s.agree with result := {} } } none s.agree.survDie 0x4102 0 b).answer .ok)) ∧
      (s.isSurveyor = true →
        (field b 0 8 ≠ own → ∃ t, exec (.datumPropose by' b) s = .next t ∧ shows t .busy own ∧
          t = { s with reply := t.reply, agree := { s.agree with result := t.agree.result } }) ∧
        (field b 0 8 = own → proposalOf (b.drop 8) = none → ∃ t, exec (.datumPropose by' b) s = .next t ∧ shows t .unsupported own ∧
          t = { s with reply := t.reply, agree := { s.agree with result := t.agree.result } }) ∧
        (∀ d, field b 0 8 = own → proposalOf (b.drop 8) = some d → s.heldParcel d = true → ∃ t, exec (.datumPropose by' b) s = .next t ∧ shows t .busy own ∧
          t = { s with reply := t.reply, agree := { s.agree with result := t.agree.result } }) ∧
        (∀ d, field b 0 8 = own → proposalOf (b.drop 8) = some d → s.heldParcel d = false → ∃ t, exec (.datumPropose by' b) s = .next t ∧ shows t .ok (own + 1) ∧
          t.agree.datum.epoch = own + 1 ∧ t.agree.datum.versions = d.versions ∧ t.agree.datum.plat = d.plat ∧ t.agree.datum.benchDie = d.benchDie ∧
          t.fab.txnTimeoutUs = d.timeoutUs ∧ t.mem = s.mem ∧ t.jobs = s.jobs)))) ∧
  (∀ s : State,
    (s.agree.adoption = none → exec .datumAdoption s = .next s) ∧
    (∀ a, s.agree.adoption = some a →
      let shown := if a.digest = [] then padTo 48 (a.got.rd 3) else a.digest
      let dig := padTo 48 (Config.sha384 (a.got.rd 2 ++ a.got.rd 4 ++ a.got.rd 5 ++ a.got.rd 6))
      let parts := partsOf (a.got.rd 2) (a.got.rd 4) (a.got.rd 5) (a.got.rd 6)
      (a.got.length < 5 → exec .datumAdoption s = .next s) ∧
      (5 ≤ a.got.length → parts = none ∨ dig ≠ shown → a.retried = true → exec .datumAdoption s = .next { s with agree := { s.agree with adoption := none } }) ∧
      (5 ≤ a.got.length → parts = none ∨ dig ≠ shown → a.retried = false → exec .datumAdoption s =
        .next (State.readDatum { s with agree := { s.agree with adoption := some { a with retried := true, got := [] } } } a.die)) ∧
      (∀ d, 5 ≤ a.got.length → parts = some d → dig = shown →
        (s.inWindow d.versions = true → ∃ t, exec .datumAdoption s = .next t ∧ t.agree.adoption = none ∧ t.agree.standing = .admitted ∧
          t.agree.datum.epoch = a.epoch ∧ t.agree.datum.versions = d.versions ∧ t.agree.datum.plat = d.plat ∧ t.fab.txnTimeoutUs = d.timeoutUs ∧ t.jobs = s.jobs) ∧
        (s.inWindow d.versions = false → ∃ t, exec .datumAdoption s = .next t ∧ t.agree.adoption = none ∧ t.agree.standing = .quarantined ∧
          t.agree.datum.epoch = a.epoch ∧ t.agree.datum.digest = shown ∧ t.agree.datum.versions = s.agree.datum.versions ∧ t.parcels = s.parcels)))) ∧
  (∀ (s : State) (src : U16) (b : List Byte),
    let bad := b.length ≠ 8 ∨ 3 < field b 0 1 ∨ field b 1 1 ≠ 0
    (bad → exec (.noticeReport src b) s = .next { s with reply := { status := .unsupported } }) ∧
    (¬bad → s.isSurveyor = false → exec (.noticeReport src b) s = .next { s with reply := { status := .denied } }) ∧
    (¬bad → s.isSurveyor = true → field b 0 1 = 0 → field b 4 4 = 0 → ∃ t, exec (.noticeReport src b) s = .next t ∧
      (field b 2 2, s.now + 5000000) ∈ t.agree.probes ∧ t.agree.notices = s.agree.notices ∧ t.reply = { status := .ok }) ∧
    (¬bad → s.isSurveyor = true → field b 0 1 ≠ 0 ∨ field b 4 4 ≠ 0 → ∃ t, exec (.noticeReport src b) s = .next t ∧ t.reply = { status := .ok } ∧
      t.agree.notices.rd (field b 2 2) = (if field b 0 1 = 3 then 0 else field b 0 1 + 1) ∧
      (∀ d, d ≠ field b 2 2 → t.agree.notices.rd d = s.agree.notices.rd d))) ∧
  (∀ (s : State) (die : U16),
    ((∀ q ∈ s.agree.probes, q.1 ≠ die.toNat) → exec (.lostProbeTimeout die) s = .next s) ∧
    (∀ q, s.agree.probes.find? (fun (q : Nat × Nat) => q.1 == die.toNat) = some q → ∃ t, exec (.lostProbeTimeout die) s = .next t ∧ q.2 ≤ t.now ∧
      t.agree.notices.rd die.toNat = 1 ∧ ∀ r ∈ t.agree.probes, r.1 ≠ die.toNat)) ∧
  (∀ (s : State) (m : Msg),
    let k := field (slice m.payload 16 8) 0 1
    let die := field (slice m.payload 16 8) 2 2
    (m ∉ s.fab.arrived → exec (.notice m) s = .next s ∧ exec (.datumAnnounce m) s = .next s) ∧
    (m ∈ s.fab.arrived → isCast m 0x4108 = true → 3 < k → exec (.notice m) s = .next (s.take m)) ∧
    (m ∈ s.fab.arrived → isCast m 0x4108 = true → k ≤ 3 → ∃ t, exec (.notice m) s = .next t ∧ t = (s.take m).applyNotice k die ∧
      t.agree.notices.rd die = (if k = 3 then 0 else k + 1) ∧ ∀ d, d ≠ die → t.agree.notices.rd d = s.agree.notices.rd d) ∧
    (m ∈ s.fab.arrived → isCast m 0x4100 = true →
      exec (.datumAnnounce m) s = .next ((s.take m).compareDatum m.src none (field m.payload 16 8) (slice m.payload 24 48)))) ∧
  (∀ (s : State) (die epoch : Nat) (digest : List Byte),
    let u : State := { s with agree := { s.agree with maxEpoch := Nat.max s.agree.maxEpoch epoch } }
    (epoch < s.agree.datum.epoch → s.compareDatum die none epoch digest = u) ∧
    (epoch = s.agree.datum.epoch → digest = s.digest → s.compareDatum die none epoch digest = u) ∧
    (epoch = s.agree.datum.epoch → digest ≠ s.digest → s.agree.standing = .admitted → s.isSurveyor = false →
      (s.compareDatum die none epoch digest).agree.standing = .fenced) ∧
    (s.agree.datum.epoch < epoch → s.agree.adoption = none →
      (s.compareDatum die none epoch digest).agree.adoption = some { die := die, epoch := epoch, digest := digest })) ∧
  (∀ (s : State) (src : U16) (slot : Fin 8) (b : List Byte),
    let r := jobRecOf b
    let lead := ∃ e ∈ s.agree.datum.plat, e.fparcel = r.fparcel ∧ e.lead = src.toNat
    let surv := src.toNat = s.agree.survDie
    (b.length ≠ 91 → exec (.jobRecord src slot b) s = .next { s with reply := { status := .unsupported } }) ∧
    (b.length = 91 → ¬lead → ¬surv → exec (.jobRecord src slot b) s = .next { s with reply := { status := .denied } }) ∧
    (b.length = 91 → lead ∨ surv → s.isSurveyor = false → (s.parcel slot).fabricId ≠ r.fparcel →
      exec (.jobRecord src slot b) s = .next { s with reply := { status := .ok } }) ∧
    (b.length = 91 → lead → s.isSurveyor = false → (s.parcel slot).fabricId = r.fparcel → (s.agree.jobRecs.rd slot).epoch < r.epoch →
      (∀ j ∈ r.jobs, j.2 ≠ 4 ∧ j.2 ≠ 6) → s.leads slot = false → (s.parcel slot).switch = none → exec (.jobRecord src slot b) s = .next { s with
        reply := { status := .ok }, agree := { s.agree with jobRecs := s.agree.jobRecs.wr slot r } })) ∧
  (∀ (s : State) (src : U16) (b : List Byte),
    let f := field b 0 2
    (b.length ≠ 10 → exec (.switchDone src b) s = .next { s with reply := { status := .unsupported } }) ∧
    (b.length = 10 → (∀ p : Fin 8, f = 0 ∨ (s.parcel p).fabricId ≠ f ∨ s.leads p = false) → exec (.switchDone src b) s = .next { s with reply := { status := .denied } }) ∧
    (∀ p, b.length = 10 → (List.range 8).find? (fun p => f != 0 && (s.parcel p).fabricId == f && s.leads p) = some p →
      (src.toNat ∉ s.fabricDies f → exec (.switchDone src b) s = .next { s with reply := { status := .denied } }) ∧
      (src.toNat ∈ s.fabricDies f → (s.parcel p).switch = none → exec (.switchDone src b) s = .next { s with reply := { status := .ok } }) ∧
      (src.toNat ∈ s.fabricDies f → (s.parcel p).switch ≠ none → (f, src.toNat) ∉ s.agree.switchDone → exec (.switchDone src b) s =
        .next ((State.leadSwitch { s with agree := { s.agree with switchDone := s.agree.switchDone ++ [(f, src.toNat)] } } p).answer .ok))))

/-- SYNC_TIMER, SYNC_REQ, SYNC_RESP, ANNOUNCE, BENCH_ANNOUNCE_TIMER, BENCH_IMPORT, PARENT_TIMEOUT, ONDIE_CLOSURE_PASS, FABRIC_CLOSURE_PASS, CLOSE
and CLOSURE_LATE (15 R577-R587). -/
def Obligations.BenchmarkTimeAndClosuresKeepCount : Prop :=
  (∀ (s : State) (θ : Int), (s.correct θ).benchQ = s.benchQ + (if 2000 < θ then θ.toNat else 0) ∧ (s.correct θ).now = s.now ∧
    s.correct θ = { s with events := (s.correct θ).events, gaps := (s.correct θ).gaps, agree := { s.agree with bench := (s.correct θ).agree.bench } }) ∧
  (∀ s : State,
    let u := s.reach (nextMultiple s.now 1000000)
    (u.isBenchSource = true → ∃ t, exec .syncTimer s = .next t ∧ t.agree.bench.parent = none ∧ t.agree.bench.depth = 0 ∧ t.agree.bench.source = s.dieId ∧
      t.agree.bench.asked = none ∧ t = { s with now := u.now, agree := { s.agree with bench := t.agree.bench } }) ∧
    (u.isBenchSource = false → u.chooseParent = none → ∃ t, exec .syncTimer s = .next t ∧ t.agree.bench.parent = none ∧ t.agree.bench.depth = 255 ∧
      t = { s with now := u.now, agree := { s.agree with bench := t.agree.bench } }) ∧
    (∀ p, u.isBenchSource = false → u.chooseParent = some p → ∃ t, exec .syncTimer s = .next t ∧ t.agree.bench.parent = some p ∧
      t.agree.bench.asked = some ((s.agree.bench.seq + 1) % 2 ^ 32, u.benchQ) ∧ t.agree.bench.seq = (s.agree.bench.seq + 1) % 2 ^ 32 ∧ s.sent.length < t.sent.length ∧
      t = { s with now := u.now, sent := t.sent, fab := t.fab, agree := { s.agree with bench := t.agree.bench } })) ∧
  (∀ (s : State) (m : Msg),
    let b := m.payload
    (m ∉ s.fab.arrived ∨ m.op ≠ 0x40 → ∀ c ∈ [Instr.syncReq m, .syncResp m, .announce m], exec c s = .next s) ∧
    (m ∈ s.fab.arrived → m.op = 0x40 → field b 0 1 = 0 → ∃ t, exec (.syncReq m) s = .next t ∧ t.fab.arrived = s.fab.arrived.erase m ∧
      (s.portsTo m.src ≠ [] → s.sent.length < t.sent.length) ∧ t.agree.datum = s.agree.datum ∧ t = { s with sent := t.sent, fab := t.fab, agree := t.agree }) ∧
    (m ∈ s.fab.arrived → m.op = 0x40 → field b 0 1 = 2 → ∃ t, exec (.announce m) s = .next t ∧ t.agree.bench.source = field b 2 2 ∧
      t.agree.maxEpoch = Nat.max s.agree.maxEpoch (field b 40 8) ∧ t.fab = { s.fab with arrived := s.fab.arrived.erase m } ∧
      t = { s with fab := t.fab, agree := { s.agree with maxEpoch := t.agree.maxEpoch, bench := { s.agree.bench with source := t.agree.bench.source } } }) ∧
    (m ∈ s.fab.arrived → m.op = 0x40 → field b 0 1 = 1 → s.agree.bench.asked = none → ∃ t, exec (.syncResp m) s = .next t ∧
      t.agree.bench = { s.agree.bench with depths := t.agree.bench.depths } ∧ t = { s with fab := t.fab, agree := t.agree }) ∧
    (∀ seq t1, m ∈ s.fab.arrived → m.op = 0x40 → field b 0 1 = 1 → s.agree.bench.asked = some (seq, t1) → field b 4 4 = seq → m.src = s.agree.bench.parentDie →
      field b 8 8 = t1 →
      let θ := (((field b 16 8 : Int) - t1) - ((s.benchQ : Int) - field b 24 8)) / 2
      ∃ t, exec (.syncResp m) s = .next t ∧ t.agree.bench.theta = θ ∧ t.agree.bench.asked = none ∧ t.agree.bench.lastSync = s.now ∧ t.agree.bench.source = field b 2 2 ∧
        t.agree.bench.delay = (((s.benchQ : Int) - t1) - ((field b 24 8 : Int) - field b 16 8)) / 2 ∧
        t.agree.bench.depth = Nat.min 255 (field b 1 1 + 1) ∧
        (2000 < θ.natAbs ∨ field b 32 1 = 0 → t.agree.bench.leveled = false ∧ t.agree.bench.good = 0) ∧
        (θ.natAbs ≤ 200 → field b 32 1 ≠ 0 → t.agree.bench.good = s.agree.bench.good + 1 ∧
          (t.agree.bench.leveled = true ↔ s.agree.bench.leveled = true ∨ 16 ≤ s.agree.bench.good + 1)) ∧
        (200 < θ.natAbs → θ.natAbs ≤ 2000 → field b 32 1 ≠ 0 → t.agree.bench.good = 0 ∧ t.agree.bench.leveled = s.agree.bench.leveled) ∧
        t = { s with events := t.events, gaps := t.gaps, fab := { s.fab with arrived := s.fab.arrived.erase m }, agree := { s.agree with bench := t.agree.bench } })) ∧
  (∀ s : State,
    let u := s.reach (nextMultiple s.now 100000000)
    (u.isBenchSource = false → exec .benchAnnounceTimer s = .next u) ∧
    (u.isBenchSource = true → u.agree.datum.benchKind ≠ 1 → exec .benchAnnounceTimer s =
      .next (u.broadcast { op := 0x40, payload := benchPayload 2 0 s.dieId s.agree.bench.seq u.benchQ u.benchQ u.benchQ true s.agree.datum.epoch })) ∧
    (s.isBenchSource = true ∨ s.agree.bench.parent = none → exec .parentTimeout s = .next s) ∧
    (s.isBenchSource = false → s.agree.bench.parent ≠ none → ∃ t, exec .parentTimeout s = .next t ∧ t.agree.bench.leveled = false ∧ t.agree.bench.good = 0 ∧
      t.now = Nat.max s.now (s.agree.bench.lastSync + 20000000) ∧
      t = { s with now := t.now, events := t.events, gaps := t.gaps, agree := { s.agree with bench := t.agree.bench } })) ∧
  (∀ (s : State) (by' : Principal) (v : U64), s.serving →
    (by' ≠ .hostk → exec (.benchImport by' v) s = .next { s with reply := { status := .denied } }) ∧
    (by' = .hostk → s.agree.datum.benchKind ≠ 2 ∨ s.isBenchSource = false → exec (.benchImport by' v) s = .next { s with reply := { status := .ok } }) ∧
    (by' = .hostk → s.agree.datum.benchKind = 2 → s.isBenchSource = true →
      exec (.benchImport by' v) s = .next ((s.correct (4 * (v.toNat : Int) - (s.benchQ : Int))).answer .ok))) ∧
  (∀ s : State,
    let w := s.now + (nextMultiple s.bench 10000000 - s.bench)
    let u := s.reach w
    (∃ t, exec (.ondieClosurePass true) s = .next t ∧ t.agree.closure = { s.agree.closure with dieEnd := some (t.now + 1000000) } ∧ t.now = w ∧
      t = { s with now := w, agree := { s.agree with closure := t.agree.closure } }) ∧
    (u.dieFailures = [] → ∃ t, exec (.ondieClosurePass false) s = .next t ∧ t.agree.closure = { s.agree.closure with diePasses := s.agree.closure.diePasses + 1 } ∧
      t = { s with now := w, agree := { s.agree with closure := t.agree.closure } }) ∧
    (u.dieFailures ≠ [] → ∃ t, exec (.ondieClosurePass false) s = .next t ∧ t.fatal = true ∧ t.agree.closure.diePasses = s.agree.closure.diePasses) ∧
    (s.alone = true → exec .fabricClosurePass s = .next s) ∧
    (s.alone = false → s.agree.closure.early = [] → ∃ t, exec .fabricClosurePass s = .next t ∧
      t.agree.closure.marks = (List.range 8).filter (fun p => (s.port p).st == .active && s.carries p 7) ∧
      t.agree.closure.passNo = nextMultiple s.bench 100000000 / 100000000 ∧ t.agree.closure.passEnd = t.now + 10000000 ∧
      t.agree.closure.fabricPasses = s.agree.closure.fabricPasses ∧ t = { s with now := t.now, sent := t.sent, fab := t.fab, agree := { s.agree with closure := t.agree.closure } }) ∧
    (s.agree.closure.marks = [] → exec (.closureLate true) s = .next s) ∧ (s.agree.closure.dieEnd = none → exec (.closureLate false) s = .next s) ∧
    (s.agree.closure.marks ≠ [] → ∃ t, exec (.closureLate true) s = .next t ∧ t.agree.closure = { s.agree.closure with marks := [], late := s.agree.closure.late + 1 } ∧
      t.now = Nat.max s.now s.agree.closure.passEnd ∧ t = { s with now := t.now, events := t.events, gaps := t.gaps, agree := { s.agree with closure := t.agree.closure } }) ∧
    (∀ d, s.agree.closure.dieEnd = some d → ∃ t, exec (.closureLate false) s = .next t ∧
      t.agree.closure = { s.agree.closure with dieEnd := none, late := s.agree.closure.late + 1 } ∧
      t.now = Nat.max s.now d ∧ t = { s with now := t.now, events := t.events, gaps := t.gaps, agree := { s.agree with closure := t.agree.closure } })) ∧
  (∀ (s : State) (m : Msg),
    (m ∉ s.fab.arrived ∨ m.op ≠ 0x50 → exec (.close m) s = .next s) ∧
    (m ∈ s.fab.arrived → m.op = 0x50 → (s.portsTo m.src).find? (fun p => (s.port p).peer.port == field m.payload 9 1) = none → exec (.close m) s = .next (s.take m)) ∧
    (∀ p, m ∈ s.fab.arrived → m.op = 0x50 → (s.portsTo m.src).find? (fun p => (s.port p).peer.port == field m.payload 9 1) = some p →
      let bad := (s.port p).failures ((List.range 16).map (fun k => field m.payload (16 + 4 * k) 4)) ((s.port p).closeGot.headD [])
      (bad = [] → field m.payload 0 8 ≤ s.agree.closure.passNo → ∃ t, exec (.close m) s = .next t ∧
        t.agree.closure.marks = s.agree.closure.marks.filter (· ≠ p) ∧
        t.agree.closure.fabricPasses = (if s.agree.closure.marks = [p] then s.agree.closure.fabricPasses + 1 else s.agree.closure.fabricPasses) ∧
        t.agree.closure.lastError = s.agree.closure.lastError ∧ (t.port p).st = (s.port p).st ∧ t = { s with fab := t.fab, agree := { s.agree with closure := t.agree.closure } }) ∧
      (bad ≠ [] → (s.port p).st = .active → ∃ t, exec (.close m) s = .next t ∧ (t.port p).st = .down)))

/-- The seven challenge requests with their operation codes (16 Table 16.5; 20 R755). -/
def Sys2Proof.Machine.challengeRequests (by' : Principal) (tag : U32) (r : BitVec 24) (arg : List Byte) : List (Nat × Instr) :=
  [(1, .debugOwner by' tag r arg), (2, .debugVendor by' tag r arg), (3, .ownerEnroll by' tag r arg), (4, .keyRevoke by' tag r arg),
   (5, .svnAdvance by' tag r arg), (6, .fuseRepair by' tag r arg), (7, .rma by' tag r arg)]

/-- DEBUG_OWNER, DEBUG_VENDOR, OWNER_ENROLL, KEY_REVOKE, SVN_ADVANCE, FUSE_REPAIR, RMA, ANSWER, CHALLENGE_DEADLINE, FUSE_PROGRAMMING_DONE, DEBUG_LOCK,
SEAL_OFFER, SEAL_KEY_READY, ATTEST_REQUEST and ATTEST_REPORT_READY (16 R604-R633). -/
def Obligations.ChallengesAndAnswersGateEveryChange : Prop :=
  (∀ (s : State) (by' : Principal) (tag : U32) (r : BitVec 24) (arg : List Byte), s.serving → ∀ c ∈ challengeRequests by' tag r arg,
    (by' ≠ .hostk → by' ≠ .board → exec c.2 s = .next { s with reply := { status := .denied } }) ∧
    (by' = .hostk ∨ by' = .board →
      (r ≠ 0 ∨ argOk c.1 arg = false → exec c.2 s = .next { s with reply := { status := .unsupported } }) ∧
      (r = 0 → argOk c.1 arg = true → (∀ k : Fin 8, (s.sec.challenges.rd k).st = .opened ∨ (s.sec.challenges.rd k).st = .burned) →
        exec c.2 s = .next { s with reply := { status := .busy, retryUs := 100000 } }) ∧
      (∀ k, r = 0 → argOk c.1 arg = true → s.freeRecord = some k →
        (s.sec.fuses.refuses c.1 arg = true → exec c.2 s = .next { s with reply := { status := .unsupported } }) ∧
        (s.sec.fuses.refuses c.1 arg = false → 16 ≤ s.sec.invalid → exec c.2 s = .next { s with reply := { status := .denied } }) ∧
        (s.sec.fuses.refuses c.1 arg = false → s.sec.invalid < 16 → ∃ t, exec c.2 s = .next t ∧
          ((t.sec.challenges.rd k).st, (t.sec.challenges.rd k).op, (t.sec.challenges.rd k).tag, (t.sec.challenges.rd k).arg) = (.opened, c.1, tag.toNat, arg) ∧
          (t.sec.challenges.rd k).issued = s.bench ∧ (t.sec.challenges.rd k).nonce = padTo 32 (Config.nonce s.freeCtr) ∧
          (t.sec.challenges.rd k).deadline = s.now + 1000000000 ∧ t.freeCtr = s.freeCtr + 1 ∧ (∀ j, j ≠ k → t.sec.challenges.rd j = s.sec.challenges.rd j) ∧
          t = { s with reply := { status := .ok }, freeCtr := t.freeCtr, sec := { s.sec with challenges := t.sec.challenges, chalOrder := t.sec.chalOrder } })))) ∧
  (∀ (s : State) (by' : Principal) (b : List Byte), s.serving →
    let k := field b 0 1
    let signer := field b 1 1
    let c := s.sec.challenges.rd (k - 1)
    let bad := b.length ≠ 232 ∨ k < 1 ∨ 8 < k ∨ 7 < signer ∨ field b 2 2 ≠ 0 ∨ field b 133 3 ≠ 0
    let valid := s.sec.fuses.signerOk c signer = true ∧ padTo 48 (Config.sha384 (slice b 36 97)) = s.sec.fuses.digest signer ∧
      Config.verify (s.sec.fuses.digest signer) (Config.sha384 (c.nonce ++ leBytes 1 c.op ++ c.arg ++ padTo 16 Config.serial)) (slice b 136 96) = true
    (by' ≠ .hostk → by' ≠ .board → exec (.answer by' b) s = .next { s with reply := { status := .denied } }) ∧
    (by' = .hostk ∨ by' = .board →
      (bad → exec (.answer by' b) s = .next { s with reply := { status := .unsupported } }) ∧
      (¬bad → s.sec.programming ≠ none → exec (.answer by' b) s = .next s) ∧
      (¬bad → s.sec.programming = none → c.st = .closed ∨ c.st = .free ∨ ((c.st = .opened ∨ c.st = .burned) ∧ s.now < c.deadline ∧ slice b 4 32 ≠ c.nonce) →
        exec (.answer by' b) s = .next ((s.emit 65 0x502 0xFF k).answer .replay)) ∧
      (¬bad → s.sec.programming = none → c.st = .opened ∨ c.st = .burned → s.now < c.deadline → slice b 4 32 = c.nonce →
        (¬valid → ∃ t, exec (.answer by' b) s = .next t ∧ (t.sec.challenges.rd (k - 1)).st = .burned ∧ t.sec.invalid = s.sec.invalid + 1 ∧
          ((t.sec.challenges.rd (k - 1)).deadline = if c.st = .opened then s.now + 10000000 else c.deadline) ∧ t.sec.fuses = s.sec.fuses ∧
          t.sec.debug = s.sec.debug ∧ t = { s with reply := { status := .denied }, events := t.events, gaps := t.gaps, sec := t.sec }) ∧
        (valid → c.op = 1 ∨ (c.op = 2 ∧ ∀ p : Fin 8, (s.parcel p).active = false ∨ (s.parcel p).sealed = false) → ∃ t, exec (.answer by' b) s = .next t ∧
          (t.sec.challenges.rd (k - 1)).st = .closed ∧ t.sec.debug = (if s.sec.debug = 3 then 3 else c.op) ∧ t.sec.fuses = s.sec.fuses ∧
          t = { s with reply := { status := .ok }, events := t.events, gaps := t.gaps, sec := t.sec }) ∧
        (valid → c.op = 2 → (∃ p : Fin 8, (s.parcel p).active = true ∧ (s.parcel p).sealed = true) → ∃ t, exec (.answer by' b) s = .next t ∧
          (t.sec.challenges.rd (k - 1)).st = .closed ∧ t.sec.debug = s.sec.debug ∧ t.reply.status = .busy ∧ t = { s with reply := t.reply, sec := t.sec }) ∧
        (valid → 3 ≤ c.op → ∃ t, exec (.answer by' b) s = .next t ∧ (t.sec.challenges.rd (k - 1)).st = .closed ∧ t.sec.programming = some (c.op, c.arg) ∧
          t.sec.fuses = s.sec.fuses ∧ t = { s with sec := t.sec })))) ∧
  (∀ (s : State) (k : Fin 8),
    ((s.sec.challenges.rd k).st = .free ∨ (s.sec.challenges.rd k).st = .closed → exec (.challengeDeadline k) s = .next s) ∧
    ((s.sec.challenges.rd k).st = .opened ∨ (s.sec.challenges.rd k).st = .burned → ∃ t, exec (.challengeDeadline k) s = .next t ∧
      t.sec.challenges.rd k = { s.sec.challenges.rd k with st := .closed } ∧ t.now = Nat.max s.now (s.sec.challenges.rd k).deadline ∧
      (∀ j : Nat, j ≠ k.val → t.sec.challenges.rd j = s.sec.challenges.rd j) ∧ t = { s with now := t.now, sec := { s.sec with challenges := t.sec.challenges } })) ∧
  (∀ s : State,
    (s.sec.programming = none → exec .fuseProgrammingDone s = .next s) ∧
    (∀ op arg, s.sec.programming = some (op, arg) →
      let k := field arg 0 1
      ∃ t, exec .fuseProgrammingDone s = .next t ∧ t.sec.programming = none ∧ t.reply = { status := .ok } ∧
        (t.sec.fuses.rma = if op = 7 then true else s.sec.fuses.rma) ∧ (t.sec.debug = if op = 7 then 3 else s.sec.debug) ∧
        (∀ j, t.sec.fuses.svn.rd j = if op = 5 ∧ j = k then Nat.max (s.sec.fuses.svn.rd j) (field arg 1 1) else s.sec.fuses.svn.rd j) ∧
        (t.sec.fuses.repairs = if op = 6 then s.sec.fuses.repairs ++ [arg.take 3] else s.sec.fuses.repairs) ∧
        (∀ j, (t.sec.fuses.slots.rd j).revoked = if op = 4 ∧ j = k then true else (s.sec.fuses.slots.rd j).revoked) ∧
        (∀ j, (t.sec.fuses.slots.rd j).enrolled = if op = 3 ∧ j = k then true else (s.sec.fuses.slots.rd j).enrolled) ∧
        (∀ j, (t.sec.fuses.slots.rd j).digest = if op = 3 ∧ j = k then slice arg 16 48 else (s.sec.fuses.slots.rd j).digest) ∧
        t = { s with reply := t.reply, events := t.events, gaps := t.gaps, sec := t.sec })) ∧
  (∀ (s : State) (by' : Principal) (v : Byte), s.serving →
    (by' ≠ .hostk → by' ≠ .board → exec (.debugLock by' v) s = .next { s with reply := { status := .denied } }) ∧
    (by' = .hostk ∨ by' = .board →
      (v ≠ 0 → exec (.debugLock by' v) s = .next { s with reply := { status := .unsupported } }) ∧
      (v = 0 → s.sec.debug = 3 → exec (.debugLock by' v) s = .next { s with reply := { status := .denied } }) ∧
      (v = 0 → s.sec.debug ≠ 3 → ∃ t, exec (.debugLock by' v) s = .next t ∧ t.sec = { s.sec with debug := 0 } ∧
        t = { s with reply := { status := .ok }, events := t.events, gaps := t.gaps, sec := t.sec }))) ∧
  (∀ (s : State) (by' : Principal) (p : Fin 8) (d : List Byte), s.serving →
    let bad := d.length ≠ 148 ∨ field d 129 3 ≠ 0 ∨ field d 132 8 % 64 ≠ 0 ∨ field d 140 1 < 4 ∨ 16 < field d 140 1 ∨ ∃ x ∈ slice d 141 7, x ≠ 0#8
    (by' ≠ .parcel p → exec (.sealOffer by' p d) s = .next { s with reply := { status := .denied } }) ∧
    (bad ∨ (s.parcel p).active = false ∨ (s.parcel p).sealed = false → exec (.sealOffer (.parcel p) p d) s = .next { s with reply := { status := .unsupported } }) ∧
    (¬bad → (s.parcel p).active = true → (s.parcel p).sealed = true →
      ((s.parcel p).sealOffered = true → exec (.sealOffer (.parcel p) p d) s = .next { s with reply := { status := .denied } }) ∧
      ((s.parcel p).sealOffered = false → ∃ t, exec (.sealOffer (.parcel p) p d) s = .next t ∧
        t.parcel p = { s.parcel p with sealOffered := true, sealRing := field d 132 8, sealLog2 := field d 140 1 } ∧ t.sec.offers.rd p = d ∧
        t.sec.sealResult.rd p = {} ∧ (∀ o : Nat, o ≠ p.val → t.parcel o = s.parcel o) ∧
        t = { s with reply := { status := .ok }, parcels := t.parcels, sec := { s.sec with offers := t.sec.offers, sealResult := t.sec.sealResult } })) ∧
    ((s.parcel p).sealOffered = false ∨ s.sec.offers.rd p = [] → exec (.sealKeyReady p) s = .next s) ∧
    ((s.parcel p).sealOffered = true → s.sec.offers.rd p ≠ [] → ∃ t, exec (.sealKeyReady p) s = .next t ∧ (t.parcel p).sealKey ≠ none ∧
      (t.parcel p).sealCount = 0 ∧ (t.sec.sealResult.rd p).ready = true ∧ t.sec.offers.rd p = [] ∧ (∀ o : Nat, o ≠ p.val → t.parcel o = s.parcel o) ∧
      t = { s with freeCtr := s.freeCtr + 1, parcels := t.parcels, sec := { s.sec with offers := t.sec.offers, sealResult := t.sec.sealResult } })) ∧
  (∀ (s : State) (by' : Principal) (nonce : List Byte), s.serving →
    (by' ≠ .hostk → by' ≠ .board → by' ≠ .surv → (∀ p, by' ≠ .parcel p) → exec (.attestRequest by' nonce) s = .next { s with reply := { status := .denied } }) ∧
    (by' = .hostk ∨ by' = .board ∨ by' = .surv ∨ (∃ p, by' = .parcel p) →
      (nonce.length ≠ 32 → exec (.attestRequest by' nonce) s = .next { s with reply := { status := .unsupported } }) ∧
      (nonce.length = 32 → bitAt s.start.retiredFlags 5 = true → exec (.attestRequest by' nonce) s = .next { s with reply := { status := .retired } }) ∧
      (nonce.length = 32 → bitAt s.start.retiredFlags 5 = false → s.sec.debug = 3 → exec (.attestRequest by' nonce) s = .next { s with reply := { status := .denied } }) ∧
      (nonce.length = 32 → bitAt s.start.retiredFlags 5 = false → s.sec.debug ≠ 3 → exec (.attestRequest by' nonce) s = .next { s with
        reply := { status := .ok }, sec := { s.sec with attest := {}, report := some (s.reportBytes nonce) } })) ∧
    (s.sec.report = none → exec .attestReportReady s = .next s) ∧
    (∀ b, s.sec.report = some b → exec .attestReportReady s = .next { s with sec := { s.sec with report := none, attest := { ready := true, bytes := signReport b } } }) ∧
    slice (s.reportBytes nonce) 32 32 = padTo 32 nonce)

/-- What an SPDM exchange leaves: its response ready, the exchange at the end of the transcript. -/
def Sys2Proof.Machine.State.spdmGave (s t : State) (req rsp : List Byte) (phase : Nat) : Prop :=
  t.dict.spdm.response = { ready := true, bytes := rsp } ∧ t.dict.spdm.transcript = s.dict.spdm.transcript ++ req ++ rsp ∧ t.dict.spdm.phase = phase ∧
    t = { s with reply := { status := .ok }, freeCtr := t.freeCtr, dict := { s.dict with spdm := t.dict.spdm } }

/-- GET_VERSION, GET_CAPABILITIES, NEGOTIATE_ALGORITHMS, GET_DIGESTS, GET_CERTIFICATE, CHALLENGE, GET_MEASUREMENTS, BYPASS, IDCODE, SAMPLE_PRELOAD, EXTEST
and CLAMP (16 R629, R632-R635; 21 R785; 23 R832). -/
def Obligations.SpdmAndTapAnswer : Prop :=
  (∀ (s : State) (by' : Principal) (m : List Byte), s.serving →
    let requests : List ((Nat × Nat × Nat) × Instr) := [((0x84, 0x10, 0), .getVersion by' m), ((0xE1, 0x12, 1), .getCapabilities by' m), ((0xE3, 0x12, 2), .negotiateAlgorithms by' m),
     ((0x81, 0x12, 3), .getDigests by' m), ((0x82, 0x12, 3), .getCertificate by' m), ((0x83, 0x12, 3), .challenge by' m), ((0xE0, 0x12, 3), .getMeasurements by' m)]
    ∀ c ∈ requests,
    let phase := s.dict.spdm.phase
    (by' ≠ .hostk → exec c.2 s = .next { s with reply := { status := .denied } }) ∧
    (by' = .hostk → m.length < 4 ∨ 4096 < m.length → exec c.2 s = .next { s with reply := { status := .unsupported } }) ∧
    (by' = .hostk → 4 ≤ m.length → m.length ≤ 4096 →
      (bitAt s.start.retiredFlags 5 = true → exec c.2 s = .next { s with reply := { status := .retired } }) ∧
      (bitAt s.start.retiredFlags 5 = false → s.sec.debug = 3 → exec c.2 s = .next { s with reply := { status := .denied } }) ∧
      (bitAt s.start.retiredFlags 5 = false → s.sec.debug ≠ 3 →
        (field m 1 1 ≠ c.1.1 → ∃ t, exec c.2 s = .next t ∧ s.spdmGave t m (spdmError 7) phase) ∧
        (field m 1 1 = c.1.1 → field m 0 1 ≠ c.1.2.1 → ∃ t, exec c.2 s = .next t ∧ s.spdmGave t m (spdmError 0x41) phase) ∧
        (field m 1 1 = c.1.1 → field m 0 1 = c.1.2.1 → phase < c.1.2.2 → ∃ t, exec c.2 s = .next t ∧ s.spdmGave t m (spdmError 4) phase)))) ∧
  (∀ (s : State) (m : List Byte), s.serving → 4 ≤ m.length → m.length ≤ 4096 → bitAt s.start.retiredFlags 5 = false → s.sec.debug ≠ 3 →
    let phase := s.dict.spdm.phase
    (field m 1 1 = 0x84 → field m 0 1 = 0x10 → ∃ t, exec (.getVersion .hostk m) s = .next t ∧ t.dict.spdm.phase = 1 ∧
      t.dict.spdm.transcript = m ++ t.dict.spdm.response.bytes ∧ t.dict.spdm.response.ready = true) ∧
    (field m 0 1 = 0x12 →
      (field m 1 1 = 0xE1 → 1 ≤ phase → ∃ t rsp, exec (.getCapabilities .hostk m) s = .next t ∧ s.spdmGave t m rsp 2) ∧
      (field m 1 1 = 0xE3 → 2 ≤ phase → ∃ t rsp, exec (.negotiateAlgorithms .hostk m) s = .next t ∧ s.spdmGave t m rsp 3) ∧
      (field m 1 1 = 0x81 → 3 ≤ phase → ∃ t, exec (.getDigests .hostk m) s = .next t ∧
        s.spdmGave t m (spdmMsg 0x01 0 1 (padTo 48 (Config.sha384 Config.certChain))) phase) ∧
      (field m 1 1 = 0x82 → 3 ≤ phase → field m 2 1 ≠ 0 ∨ Config.certChain.length ≤ field m 4 2 → ∃ t, exec (.getCertificate .hostk m) s = .next t ∧
        s.spdmGave t m (spdmError 1) phase) ∧
      (field m 1 1 = 0x82 → 3 ≤ phase → field m 2 1 = 0 → field m 4 2 < Config.certChain.length → ∃ t part, exec (.getCertificate .hostk m) s = .next t ∧
        part = (slice Config.certChain (field m 4 2) (field m 6 2)).take 4080 ∧
        s.spdmGave t m (spdmMsg 0x02 0 0 (leBytes 2 part.length ++ leBytes 2 (Config.certChain.length - field m 4 2 - part.length) ++ part)) phase) ∧
      (field m 1 1 = 0x83 → 3 ≤ phase → field m 2 1 ≠ 0 ∨ m.length < 36 → ∃ t, exec (.challenge .hostk m) s = .next t ∧ s.spdmGave t m (spdmError 1) phase) ∧
      (field m 1 1 = 0x83 → 3 ≤ phase → field m 2 1 = 0 → 36 ≤ m.length → ∃ t body, exec (.challenge .hostk m) s = .next t ∧ t.freeCtr = s.freeCtr + 1 ∧
        s.spdmGave t m (body ++ padTo 96 (Config.sign 1 (Config.sha384 (s.dict.spdm.transcript ++ m ++ body)))) phase) ∧
      (field m 1 1 = 0xE0 → 3 ≤ phase → bitAt (field m 2 1) 0 = true → m.length < 37 ∨ field m 36 1 % 16 ≠ 0 → ∃ t, exec (.getMeasurements .hostk m) s = .next t ∧
        s.spdmGave t m (spdmError 1) phase) ∧
      (∀ v, field m 1 1 = 0xE0 → 3 ≤ phase → bitAt (field m 2 1) 0 = true → 37 ≤ m.length → field m 36 1 % 16 = 0 → field m 3 1 ≠ 0 → field m 3 1 ≠ 0xFF →
        s.measurement (field m 3 1) (slice m 4 32) = some v → ∃ t body, exec (.getMeasurements .hostk m) s = .next t ∧
        body = spdmMsg 0x60 0 0 (leBytes 1 1 ++ leBytes 3 (measBlock (field m 3 1) v).length ++ measBlock (field m 3 1) v ++
          padTo 32 (Config.nonce s.freeCtr) ++ leBytes 2 0) ∧
        s.spdmGave t m (body ++ padTo 96 (Config.sign 1 (Config.sha384 (s.dict.spdm.transcript ++ m ++ body)))) phase))) ∧
  (∀ (s : State) (n : Nat) (nonce : List Byte), (1 ≤ n → n ≤ 8 → s.measurement n nonce = some (padTo 48 (s.sec.images.rd n).digest)) ∧
    s.measurement 0x10 nonce = some (signReport (s.reportBytes nonce)) ∧ s.measurement 0xFE nonce = some (leBytes 1 s.sec.debug ++ slice s.sec.fuses.bytes 2 1) ∧
    (n = 0 ∨ (8 < n ∧ n ≠ 0x10 ∧ n ≠ 0xFE) → s.measurement n nonce = none)) ∧
  (∀ (s : State) (sample preload : List Bool),
    let off := s.start.step = 0 ∧ s.start.phase = .starting
    let loads := fun (c : Instr) (r : Reply) (x : Tap) => exec c s = .next { s with reply := r, sec := { s.sec with tap := x } }
    let tap := s.sec.tap
    let none' := loads .bypass s.reply tap.bypassed
    (off → ∀ c ∈ [Instr.bypass, .idcode, .samplePreload sample preload, .extest sample, .clamp], exec c s = .next s) ∧
    (¬off → none' ∧ loads .idcode { data := leBytes 4 0x11648A6F } { tap with instr := .idcode, driven := false, dr := (List.range 32).map (fun k => bitAt 0x11648A6F k) } ∧
      loads (.samplePreload sample preload) s.reply { tap with instr := .samplePreload, driven := false, dr := sample, preload := preload }) ∧
    (¬off → (∀ p : Fin 8, (s.parcel p).active = false) → loads (.extest sample) s.reply { tap with instr := .extest, driven := true, dr := sample } ∧
      loads .clamp s.reply { tap with instr := .clamp, driven := true, dr := [false] }) ∧
    (¬off → (∃ p : Fin 8, (s.parcel p).active = true) → loads (.extest sample) s.reply tap.bypassed ∧ loads .clamp s.reply tap.bypassed))

/-- GOVERNOR_TICK, BOOST_ENABLE_WRITE, JUNCTION_TEMPERATURE_CHANGE, ENGINE_OFF_TIMEOUT, DOMAIN_WAKE_COMPLETE, VREQ_FRAME_REPEAT and
READ_TIMING_DRIFT_LIMIT (17 R638-R654; 20 R753; 23 R815). -/
def Obligations.TheGovernorAndTheSetpointFollowTheirLimits : Prop :=
  (∀ (s : State) (nj : List Nat),
    let avg := nj.sum / 1000
    let top := if s.power.boostEnable = true ∧ s.power.tjMax ≤ 85 ∧ s.power.sagStage = 0 then 1800 else 1600
    let ticks := fun (c : Nat) => ∃ t, exec (.governorTick nj) s = .next t ∧ t.power.capMhz = Nat.min (Nat.max c 200) top ∧ t.power.avgMw = avg ∧
      t.now = Nat.max s.now (nextMultiple s.now 1000000) ∧ (∀ n, n < 16 → (t.engine n).freq ≤ t.engTarget n) ∧
      (∀ n : Nat, t.eng.rd n = { s.eng.rd n with freq := (t.eng.rd n).freq, volt := (t.eng.rd n).volt }) ∧
      t = { s with now := t.now, events := t.events, gaps := t.gaps, eng := t.eng, power := { s.power with domains := t.power.domains, capMhz := t.power.capMhz, avgMw := avg } }
    (s.sagArmed = false → exec (.governorTick nj) s = .next s) ∧
    (s.sagArmed = true → 100 ≤ s.power.tjMax ∨ 5 * s.power.budget < 4 * avg → ticks (s.power.capMhz - 100)) ∧
    (s.sagArmed = true → s.power.tjMax < 100 → 4 * avg ≤ 5 * s.power.budget → s.power.budget < avg → ticks (s.power.capMhz - 25)) ∧
    (s.sagArmed = true → s.power.tjMax < 100 → avg ≤ s.power.budget → 100 * avg < 98 * s.power.budget → ticks (s.power.capMhz + 25)) ∧
    (s.sagArmed = true → s.power.tjMax < 100 → avg ≤ s.power.budget → 98 * s.power.budget ≤ 100 * avg → ticks s.power.capMhz)) ∧
  (∀ (s : State) (by' : Principal) (v : Byte), s.serving →
    let own := by' = .hostk ∨ by' = .rtp ∨ by' = .board
    (¬ own → exec (.boostEnableWrite by' v) s = .next (s.answer .denied)) ∧
    (own → 1 < v.toNat → exec (.boostEnableWrite by' v) s = .next (s.answer .unsupported)) ∧
    (own → v.toNat ≤ 1 → s.start.env.ledgerFail = false → ∃ t, exec (.boostEnableWrite by' v) s = .next t ∧ t.reply = { status := .ok } ∧
      t.power = { s.power with boostEnable := v.toNat == 1, capMhz := if v = 0#8 ∧ s.boostOk = true then Nat.min s.power.capMhz 1600 else s.power.capMhz } ∧
      t.ledger.entries.rd (0x2004 * 256) = [v] ∧ (∀ k, k ≠ 0x2004 * 256 → t.ledger.entries.rd k = s.ledger.entries.rd k) ∧
      t = { s with reply := t.reply, events := t.events, gaps := t.gaps, eng := t.eng, power := t.power, ledger := { s.ledger with entries := t.ledger.entries } })) ∧
  (∀ (s : State) (c : Int),
    (c < 115 ∨ s.sagArmed = false → ∃ t, exec (.junctionTemperatureChange c) s = .next t ∧
      t.power = { s.power with tjMax := c, capMhz := if 85 < c ∧ s.boostOk = true then Nat.min s.power.capMhz 1600 else s.power.capMhz } ∧
      t = { s with events := t.events, gaps := t.gaps, eng := t.eng, power := t.power }) ∧
    (115 ≤ c → s.sagArmed = true → ∃ t, exec (.junctionTemperatureChange c) s = .next t ∧ t.power.sagStage = 7 ∧ t.kettle.frozen = true ∧ t.eng = State.reset.eng)) ∧
  (∀ (s : State) (n : Fin 16),
    let e := s.engine n
    let idle := e.state = .idle ∧ e.inbox = [] ∧ e.reserved = [] ∧ e.half0.drain = none ∧ e.half1.drain = none ∧ e.halted = false
    let x := s.slc.rd n
    let keeps := x.powered = false ∨ x.withdrawn = true ∨ ∃ g ∈ x.gran, g.2.st ≠ .empty
    (s.awake = false → exec (.engineOffTimeout n) s = .next s) ∧
    (s.awake = true → e.powered = true → ¬ idle → exec (.engineOffTimeout n) s = .next s) ∧
    (s.awake = true → (e.powered = true → idle) → ∃ t, exec (.engineOffTimeout n) s = .next t ∧ (t.engine n).powered = false ∧
      (e.powered = true → (t.engine n).block = none ∧ (t.engine n).half0 = {} ∧ (t.engine n).half1 = {}) ∧ (e.powered = false → t.eng = s.eng) ∧
      (keeps → t.slc = s.slc) ∧ (¬ keeps → t.slc.rd n = { x with bytes := [], gran := [], bad := [], powered := false }) ∧
      (∀ k, k ≠ n.val → t.eng.rd k = s.eng.rd k ∧ t.slc.rd k = s.slc.rd k) ∧ t = { s with eng := t.eng, slc := t.slc })) ∧
  (∀ (s : State) (d : Fin 64), (s.awake = false → exec (.domainWakeComplete d) s = .next s)) ∧
  (∀ (s : State) (n : Fin 16) (d : Fin 64), s.awake = true → d.val = 26 + n →
    let stays := (s.engine n).powered = true ∨ (s.engine n).retired = true ∨ s.aboveFloor n = true ∨ s.power.state = .entering
    (stays → exec (.domainWakeComplete d) s = .next s) ∧
    (¬ stays → ∃ t, exec (.domainWakeComplete d) s = .next t ∧ t.now = s.now + (8000 + (s.engVTarget n - 500000) / 25) ∧
      t.engine n = { s.engine n with powered := true, block := none, half0 := {}, half1 := {}, density := 0, reserved := [], freq := s.engTarget n, volt := s.engVTarget n, halted := s.power.sagStage == 6 } ∧
      (∀ k, k ≠ n.val → t.engine k = s.engine k) ∧ (t.power.domains.rd d).wakes = (s.power.domains.rd d).wakes + 1 ∧
      t = { s with now := t.now, eng := t.eng, power := { s.power with domains := t.power.domains } })) ∧
  (∀ (s : State) (n : Fin 16) (d : Fin 64), s.awake = true → d.val = 42 + n →
    let x := s.slc.rd n
    let stays := x.powered = true ∨ x.retired = true ∨ s.power.state = .entering
    (stays → exec (.domainWakeComplete d) s = .next s) ∧
    (¬ stays → ∃ t, exec (.domainWakeComplete d) s = .next t ∧ t.now = s.now + 5000 ∧ t.slc.rd n = { x with bytes := [], gran := [], bad := [], powered := true } ∧
      (∀ k, k ≠ n.val → t.slc.rd k = s.slc.rd k) ∧ (t.power.domains.rd d).wakes = (s.power.domains.rd d).wakes + 1 ∧
      t = { s with now := t.now, slc := t.slc, power := { s.power with domains := t.power.domains } })) ∧
  (∀ (s : State) (d : Fin 64), s.awake = true → d.val < 26 ∨ 58 ≤ d.val →
    let stays := (s.power.domains.rd d).st = .on ∨ s.domainState d ≠ 1
    (stays → exec (.domainWakeComplete d) s = .next s) ∧
    (¬ stays → ∃ t, exec (.domainWakeComplete d) s = .next t ∧ t.now = s.now + s.wakeNs d ∧ (t.power.domains.rd d).st = .on ∧
      (t.power.domains.rd d).wakes = (s.power.domains.rd d).wakes + 1 ∧ t = { s with now := t.now, power := { s.power with domains := t.power.domains } })) ∧
  (∀ s : State,
    let early := s.awake = false ∨ (s.start.phase = .starting ∧ s.start.step ≤ 4)
    let uv := s.setpoint
    (early → exec .vreqFrameRepeat s = .next s) ∧
    (¬ early → ∃ f, exec .vreqFrameRepeat s = .next { s with
        now := Nat.max s.now (nextMultiple s.now 100000), power := { s.power with vreq := f }, sent := .vreq f :: s.sent } ∧
      f / 4096 = 10 ∧ ((f / 16) % 256 = (uv - 500000) / 2500 ∨ (uv % 2500 ≠ 0 ∧ (f / 16) % 256 = (uv - 500000) / 2500 + 1)) ∧ f % 16 = popCount 16 (f / 16 * 16) % 2) ∧
    525000 ≤ uv ∧ uv ≤ 850000 ∧ (∀ n, n < 16 → (s.engine n).powered = true → Nat.min (s.engVTarget n + 25000) 850000 ≤ uv)) ∧
  (∀ (s : State) (c : Fin 4),
    (s.awake = true → (s.mem.mc.rd c).st = .running → exec (.readTimingDriftLimit c) s = .next { s with ledger := { s.ledger with mcPending := s.ledger.mcPending ||| 1 <<< c.val } }) ∧
    (s.awake = false ∨ (s.mem.mc.rd c).st ≠ .running → exec (.readTimingDriftLimit c) s = .next s))

/-- Nothing keeps the entry to the Kettle-only state from completing: no segment, no claimed entry, no holding job, no line that a host agent
holds (17 Table 17.4). -/
def Sys2Proof.Machine.State.mayDrop (s : State) : Prop :=
  s.svc.segs = [] ∧ (∀ x ∈ s.streams, x.2.entry = none) ∧ (∀ p, p < 8 → (s.parcel p).holder = none) ∧
    ∀ d ∈ s.mem.dir, d.2.txn = none ∧ d.2.st.hosts = []

/-- What the Kettle-only state leaves of the rails' side of the die (17 Table 17.1, R648). -/
def Sys2Proof.Machine.State.rested (s t : State) : Prop :=
  t.power.state = .kettleOnly ∧ t.power.railEn = 0 ∧ t.power.resumeImage = true ∧ t.awake = false ∧ t.mem.dir = [] ∧ t.xlat.cache = [] ∧ t.link.bursts = [] ∧
    (∀ n, n < 16 → (t.engine n).powered = false ∧ (t.engine n).block = none ∧ (t.slc.rd n).powered = false ∧ (t.slc.rd n).bytes = [] ∧ (t.slc.rd n).gran = []) ∧
    (∀ p, p < 8 → t.te.ctx.rd p = {}) ∧ (s.fb.spill.enable = false → t.mem.loc = s.mem.loc ∧ t.mem.host = s.mem.host ∧ t.jobs = s.jobs) ∧ t.parcels = s.parcels ∧ t.ledger = s.ledger ∧ t.now = s.now

/-- POWER_REQUEST, HOST_WAKE and KETTLE_WAKE_SEQUENCE (13 R503-R506; 17 R647-R649). -/
def Obligations.TheKettleOnlyStateIsEnteredAndLeft : Prop :=
  (∀ (s : State) (by' : Principal) (v : Byte), s.serving → s.power.state ≠ .entering →
    let own := by' = .hostk ∨ by' = .board
    let bars := (∃ p : Fin 8, (s.port p).st = .active) ∨ s.power.resumeArea = none
    let works := (∃ q ∈ s.queues, q.2.consumed ≠ []) ∨ (∃ j ∈ s.jobs, j.2.st = .switching) ∨
      (∃ x ∈ s.streams, x.2.st = .opened ∧ x.2.cfg.source = 0 ∧ x.2.srcHead ≠ x.2.srcTail) ∨ (∃ c ∈ s.sec.challenges, c.2.st = .opened)
    (¬ own → exec (.powerRequest by' v) s = .next (s.answer .denied)) ∧
    (own → v ≠ 1#8 → exec (.powerRequest by' v) s = .next (s.answer .unsupported)) ∧
    (own → v = 1#8 → bars → exec (.powerRequest by' v) s = .next (s.answer .unsupported)) ∧
    (own → v = 1#8 → ¬ bars → works → exec (.powerRequest by' v) s = .next { s with reply := { status := .busy, retryUs := 1000 } }) ∧
    (own → v = 1#8 → ¬ bars → ¬ works → (s.svc.segs ≠ [] ∨ ∃ x ∈ s.streams, x.2.entry ≠ none) → exec (.powerRequest by' v) s =
      .next { s with reply := { status := .ok }, power := { s.power with state := .entering } }) ∧
    (own → v = 1#8 → ¬ bars → ¬ works → s.mayDrop → ∃ t, exec (.powerRequest by' v) s = .next t ∧ t.reply = { status := .ok } ∧ s.rested t)) ∧
  (∀ (s : State) (by' : Principal) (v : Byte), s.power.state = .entering → s.awake = true →
    (s.svc.segs ≠ [] ∨ (∃ x ∈ s.streams, x.2.entry ≠ none) → exec (.powerRequest by' v) s = .next s) ∧
    (s.mayDrop → ∃ t, exec (.powerRequest by' v) s = .next t ∧ t.reply = s.reply ∧ s.rested t ∧
      (s.power.heldWake = true → t.kettle.st = .waking ∧ t.power.heldWake = false) ∧ (s.power.heldWake = false → t.kettle = s.kettle))) ∧
  (∀ (s : State) (tagOk : Bool) (env : StartEnv),
    (s.power.state = .entering → exec (.hostWake tagOk env) s = .next { s with power := { s.power with heldHostWake := true } }) ∧
    (s.power.state ≠ .entering → s.power.state ≠ .kettleOnly → exec (.hostWake tagOk env) s = .next s) ∧
    (s.power.state = .kettleOnly → exec (.hostWake false env) s =
      .next ((State.beginStart { s with power := { s.power with heldHostWake := false } } 0 env).emit 65 0x508 0xFF 0)) ∧
    (s.power.state = .kettleOnly → (∀ q ∈ s.queues, q.2.st = .closed ∨ q.2.st = .faulted) → ∃ u : State,
      exec (.hostWake true env) s = .next ((List.range 8).foldl State.refreshJobs u) ∧ u.now = s.now + 12000000 ∧
      u.power = { s.power with heldHostWake := false, state := .idle, resumeImage := false, railEn := 15, domains := u.power.domains } ∧
      u = { s with now := u.now, power := u.power, fb := u.fb })) ∧
  (∀ (s : State) (tagOk linkUp : Bool) (env : StartEnv),
    let wakes := if s.kettle.target < 8 then (maskBits 16 (s.parcel s.kettle.target).engines).take s.kettle.wakeEngines else []
    let due := s.power.state = .kettleOnly ∧ s.kettle.st = .waking
    (¬ due → exec (.kettleWakeSequence tagOk linkUp env) s = .next s) ∧
    (due → exec (.kettleWakeSequence false linkUp env) s = .next ((s.beginStart 0 env).emit 65 0x508 0xFF 0)) ∧
    (due → (∀ q ∈ s.queues, q.2.st = .closed ∨ q.2.st = .faulted) → ∃ u : State,
      exec (.kettleWakeSequence true linkUp env) s = .next ((List.range 8).foldl State.refreshJobs u) ∧ u.now = s.now + 11000000 ∧
      u.power = { s.power with state := .idle, resumeImage := false, railEn := 15, domains := u.power.domains, wakeOut := s.power.wakeOut || !(s.straps.hostLink || linkUp) } ∧
      u.kettle.st = (if s.kettle.stopDue = true then .stopped else .listening) ∧ u.sent = (if s.kettle.vector = 0xFFFF then s.sent else .intr s.kettle.vector :: s.sent) ∧
      (∀ n ∈ wakes, (s.engine n).retired = false → s.aboveFloor n = false → (u.engine n).powered = true) ∧ (∀ n, n ∉ wakes → u.engine n = s.engine n ∧ u.slc.rd n = s.slc.rd n) ∧
      u = { s with now := u.now, power := u.power, fb := u.fb, kettle := u.kettle, sent := u.sent, eng := u.eng, slc := u.slc }))

/-- SAG_STAGE_ENTER, SAG_STAGE_EXIT, SAG_START, SAG_N, VREQ_ALERT and RAIL_PG_FALL (17 R657-R670; 23 R814-R818). -/
def Obligations.SagStagesShedAndGiveBack : Prop :=
  (∀ (s : State) (droop ns : Nat),
    let meets := fun n => (s.power.thresh.rd n).thresh ≤ droop ∧ (s.power.thresh.rd n).dwell ≤ ns
    (100 ≤ droop → 100 ≤ ns → s.sagLevel droop ns = 7) ∧
    (droop < 100 ∨ ns < 100 → s.sagLevel droop ns ≤ 6 ∧ (∀ n, 1 ≤ n → n ≤ 6 → meets n → n ≤ s.sagLevel droop ns) ∧
      (s.sagLevel droop ns = 0 ∨ meets (s.sagLevel droop ns)))) ∧
  (∀ (s : State) (droop ns : Nat),
    let n := s.sagLevel droop ns
    (s.sagArmed = false → exec (.sagStageEnter droop ns) s = .next s) ∧
    (s.sagArmed = true → n ≤ s.power.sagStage → exec (.sagStageEnter droop ns) s = .next s) ∧
    (s.sagArmed = true → s.power.sagStage < n → n ≤ 6 → ∃ t, exec (.sagStageEnter droop ns) s = .next t ∧ t.power.sagStage = n ∧ t.power.exitAt = s.now ∧
      (∀ k, t.power.sagCount.rd k = s.power.sagCount.rd k + (if s.power.sagStage < k ∧ k ≤ n then 1 else 0)) ∧ t.svc.segs = [] ∧
      (3 ≤ n → s.power.sagStage < 3 → t.te.paused = true) ∧
      (4 ≤ n → s.power.sagStage < 4 → ∀ k, k < 16 → (s.engine k).powered = true → (∀ p, p < 8 → k ∉ t.floorOf p) → (t.engine k).shed = true) ∧
      (n = 6 → ∀ k, k < 16 → (t.engine k).halted = (t.engine k).powered) ∧
      t.power = { s.power with sagStage := n, exitAt := s.now, sagCount := t.power.sagCount, capMhz := t.power.capMhz, slowed := t.power.slowed } ∧
      t = { s with events := t.events, gaps := t.gaps, sent := t.sent, eng := t.eng, slc := t.slc, power := t.power, te := t.te, queues := t.queues, fab := t.fab, kettle := t.kettle, svc := t.svc }) ∧
    (s.sagArmed = true → n = 7 → exec (.sagStageEnter droop ns) s = .next (s.darken droop))) ∧
  (∀ (s : State) (v : Nat),
    (s.power.sagStage = 7 → s.darken v = s) ∧
    (s.power.sagStage ≠ 7 → (s.darken v).power.sagStage = 7 ∧ (s.darken v).awake = false ∧ (s.darken v).kettle.frozen = true ∧ (s.darken v).power.railEn = s.power.railEn ∧
      (s.darken v).start.powerGood = true ∧ (s.darken v).eng = State.reset.eng ∧ (s.darken v).jobs = [] ∧ (s.darken v).mem.host = s.mem.host ∧
      (s.darken v).sec.fuses = s.sec.fuses ∧ (s.darken v).now = s.now)) ∧
  (∀ (s : State) (peak : Nat),
    let n := s.power.sagStage
    let p := if s.power.alert = true then Nat.max peak 50 else peak
    let stays := s.sagArmed = false ∨ n = 0 ∨ n = 7 ∨ (s.power.thresh.rd n).thresh ≤ p + 10 ∨ (s.power.sagPin = true ∧ n ≤ s.power.pinStage)
    (stays → exec (.sagStageExit peak) s = .next s) ∧
    (¬ stays → ∃ t, exec (.sagStageExit peak) s = .next t ∧ t.power.sagStage = n - 1 ∧ t.now = Nat.max s.now (s.power.exitAt + 100000) ∧ t.power.exitAt = t.now ∧
      (n = 3 → t.te = { s.te with paused := false }) ∧ (n ≠ 3 → t.te = s.te) ∧ (n = 4 → ∀ k, k < 16 → (t.engine k).shed = false) ∧
      (n = 6 → ∀ k, k < 16 → (t.engine k).halted = false) ∧ (n ≠ 4 → t.isl = s.isl) ∧
      t = { s with now := t.now, events := t.events, gaps := t.gaps, sent := t.sent, isl := t.isl, eng := t.eng, power := { s.power with sagStage := n - 1, exitAt := t.now, slowed := t.power.slowed }, te := t.te, queues := t.queues, fab := t.fab })) ∧
  (∀ (s : State) (env : StartEnv),
    (s.power.sagStage ≠ 7 → exec (.sagStart env) s = .next s) ∧
    (s.power.sagStage = 7 → exec (.sagStart env) s = .next (State.beginStart { s with now := s.now + 1000000 } 2 env))) ∧
  (∀ (s : State) (ns droop : Nat),
    let seen : State := { s with power := { s.power with sagPin := true } }
    exec (.sagN false ns droop) s = .next { s with power := { s.power with sagPin := false } } ∧
    (ns < 20 → exec (.sagN true ns droop) s = .next s) ∧
    (50 ≤ ns → s.sagArmed = false → exec (.sagN true ns droop) s = .next seen) ∧
    (50 ≤ ns → s.sagArmed = true → exec (.sagN true ns droop) s = .next (seen.sagTo s.power.pinStage droop)) ∧
    (20 ≤ ns → ns < 50 → exec (.sagN true ns droop) s = .next { s with freeCtr := s.freeCtr + 1 } ∨
      exec (.sagN true ns droop) s = exec (.sagN true 50 droop) { s with freeCtr := s.freeCtr + 1 })) ∧
  (∀ s : State,
    let pulled : State := { s with power := { s.power with alert := true } }
    exec (.vreqAlert false) s = .next { s with power := { s.power with alert := false } } ∧
    (s.sagArmed = false → exec (.vreqAlert true) s = .next pulled) ∧
    (s.sagArmed = true → exec (.vreqAlert true) s = exec (.sagStageEnter 50 1000) pulled)) ∧
  (∀ (s : State) (g : Fin 5),
    (s.awake = true → bitAt s.power.railEn g = true → exec (.railPgFall g) s = .next (s.darken 1000)) ∧
    (s.awake = false ∨ bitAt s.power.railEn g = false → exec (.railPgFall g) s = .next s))

/-- What a whole-die reset leaves (18 Table 18.1). -/
def Sys2Proof.Machine.State.resetOf (s t : State) : Prop :=
  t.sec.fuses = s.sec.fuses ∧ t.mem.host = s.mem.host ∧ t.mem.loc = [] ∧ t.eng = State.reset.eng ∧ t.slc = State.reset.slc ∧ t.jobs = [] ∧ t.queues = [] ∧
    t.parcels = State.reset.parcels ∧ t.sems = State.reset.sems ∧ t.streams = [] ∧ t.xlat.cache = [] ∧ t.pending = s.pending

/-- POWER_ON, PWRGD_FALL, RESET_REQUEST, HOST_RESET_INPUT, START_WATCHDOG, FATAL_AUTO_RESET and LEDGER_CLEAR (18 R675-R701; 23 R814). -/
def Obligations.ResetsKeepFusesAndLedgerAndStartAgain : Prop :=
  (∀ s : State, s.resetOf s.wiped ∧ s.wiped.ledger = s.ledger ∧ s.wiped.bench = 0 ∧ s.wiped.now = s.now ∧ s.wiped.start = {} ∧ s.wiped.power.capMhz = 1600) ∧
  (∀ (s : State) (kind : Nat) (env : StartEnv), env.fails = [] → env.hang = none → env.ms = [] → env.badFuses = [] → env.ledgerBad = false →
    let t := s.beginStart kind env
    let l := s.ledger
    kind ≠ 2 → t.start.powerGood = true ∧ t.start.phase = .starting ∧ t.start.step = 8 ∧ t.start.kind = kind ∧ t.start.began = s.now ∧ t.now = s.now ∧
      t.start.boot.kind = 1 ∧ t.start.boot.reqSeq = 1 ∧ t.start.boot.offset = 0 ∧ t.start.boot.length = 65536 ∧ t.start.boot.waiting = true ∧
      t.ledger.resetCount = (l.resetCount + 1) % 2 ^ 32 ∧ t.ledger.consec = (if l.clearPending = true then 0 else l.consec) + 1 ∧ t.ledger.latest = (if l.latest = 1 then 0 else 1) ∧
      t.ledger.record.st = 1 ∧ t.ledger.record.seq = t.ledger.resetCount ∧ t.ledger.record.kind = kind ∧ t.ledger.record.current = 8 ∧
      t.fab.tepoch = (if kind = 0 then 0 else s.fab.tepoch + 1) ∧
      t.ledger.entries = l.entries ∧ t.ledger.seeds = l.seeds ∧ t.ledger.clearPending = false ∧
      (l.clearPending = true → ∀ k, t.ledger.record.sticky.getD k 0 = 0) ∧ (l.clearPending = true → t.ledger.record.engineFail = 0) ∧ t.mem.host = s.mem.host ∧
      t.eng = State.reset.eng ∧ t.jobs = [] ∧ t.queues = []) ∧
  (∀ (s : State) (env : StartEnv),
    (s.start.powerGood = true → exec (.powerOn env) s = .next s) ∧
    (s.start.powerGood = false → exec (.powerOn env) s = .next (s.beginStart 0 env)) ∧
    (s.start.powerGood = false → exec .pwrgdFall s = .next s) ∧
    (s.start.powerGood = true → ∃ t, exec .pwrgdFall s = .next t ∧ s.resetOf t ∧ t.start.powerGood = false ∧ t.awake = false ∧ t.power.railEn = 0 ∧
      t.ledger = s.interruptStart.ledger)) ∧
  (∀ s : State,
    (s.start.phase ≠ .starting ∨ s.start.step < 3 → s.interruptStart = s) ∧
    (s.start.phase = .starting → 3 ≤ s.start.step → s.interruptStart.ledger.record.outcomes = listSet s.ledger.record.outcomes s.start.step 7 ∧
      s.interruptStart = { s with ledger := s.interruptStart.ledger })) ∧
  (∀ (s : State) (env : StartEnv), s.dieReset env = s.noticeReset.interruptStart.beginStart 1 env) ∧
  (∀ (s : State) (by' : Principal) (v : Byte) (env : StartEnv), s.serving ∨ (s.start.powerGood = true ∧ s.start.phase = .halted) →
    let own := by' = .hostk ∨ by' = .rtp ∨ by' = .board
    let may := by' = .hostk ∨ by' = .board
    (¬ own → exec (.resetRequest by' v env) s = .next (s.answer .denied)) ∧
    (own → v ≠ 1#8 → exec (.resetRequest by' v env) s = .next (s.answer .unsupported)) ∧
    (own → v = 1#8 → exec (.resetRequest by' v env) s = .next ((s.answer .ok).dieReset env)) ∧
    (¬ may → exec (.ledgerClear by' v) s = .next (s.answer .denied)) ∧
    (may → v ≠ 1#8 → exec (.ledgerClear by' v) s = .next (s.answer .unsupported)) ∧
    (may → v = 1#8 → exec (.ledgerClear by' v) s = .next { s with reply := { status := .ok }, ledger := { s.ledger with clearPending := true } })) ∧
  (∀ (s : State) (env : StartEnv),
    let counts := s.start.powerGood = true ∧ s.power.sagStage ≠ 7 ∧ s.start.phase = .starting ∧ s.start.step ≠ 8 ∧ (s.bootStep s.start.step = false ∨ s.start.env.bootHost = true)
    (s.start.powerGood = true → exec (.hostResetInput env) s = .next (s.dieReset env)) ∧ (s.start.powerGood = false → exec (.hostResetInput env) s = .next s) ∧
    (¬ counts → exec (.startWatchdog env) s = .next s) ∧
    (counts → exec (.startWatchdog env) s = .next (State.beginStart (State.noticeReset { s with now := Nat.max s.now (s.start.began + 2000000000) }) 1 env)) ∧
    (∀ at', s.start.autoResetAt = some at' → s.fatal = true → exec (.fatalAutoReset env) s = .next (State.dieReset { s with now := Nat.max s.now at' } env)) ∧
    (s.start.autoResetAt = none ∨ s.fatal = false → exec (.fatalAutoReset env) s = .next s))

/-- BOOT_RESPONSE, BOOT_DATA, BOOT_WAIT_EXPIRY, START_STEP_TIMEOUT and PORT_FINAL_RECORD (16 R594-R597; 18 R683-R695). -/
def Obligations.BootAnswersFeedTheImageSteps : Prop :=
  (∀ (s : State) (seq : U32) (status : Byte) (len : U32) (buf : List Byte),
    let hosted := s.start.env.bootHost = true ∧ s.start.env.farEnd = true ∧ s.start.env.linkUp = true
    (hosted → exec (.bootResponse seq status len buf) s = .next (s.bootAnswer seq status.toNat len.toNat buf)) ∧
    (¬ hosted → exec (.bootResponse seq status len buf) s = .next s)) ∧
  (∀ (s : State) (by' : Principal) (b : List Byte), s.start.powerGood = true → s.start.phase = .starting → 5 < s.start.step → s.start.step ≤ 15 →
    let bad := b.length < 12 ∨ field b 5 3 ≠ 0 ∨ field b 8 4 + 12 ≠ b.length
    (by' ≠ .board → exec (.bootData by' b) s = .next (s.answer .denied)) ∧
    (by' = .board → bad → exec (.bootData by' b) s = .next (s.answer .unsupported)) ∧
    (by' = .board → ¬ bad → s.start.env.bootHost = true → exec (.bootData by' b) s = .next (s.answer .ok)) ∧
    (by' = .board → ¬ bad → s.start.env.bootHost = false → exec (.bootData by' b) s =
      .next ((s.bootAnswer (BitVec.ofNat 32 (field b 0 4)) (field b 4 1) (field b 8 4) (b.drop 12)).answer .ok))) ∧
  (∀ (s : State) (by' : Principal) (b : List Byte), s.serving → by' ≠ .board → exec (.bootData by' b) s = .next (s.answer .denied)) ∧
  (∀ (s : State) (seq : U32) (status len : Nat) (buf : List Byte),
    let b := s.start.boot
    let open' := s.start.phase = .starting ∧ 7 ≤ s.start.step ∧ s.start.step ≤ 15
    let fits := b.waiting = true ∧ seq = b.reqSeq ∧ status ≤ 2 ∧ len ≤ b.length ∧ s.start.hung = false
    let im := b.image ++ padTo len buf
    let whole := status = 2 ∨ (128 ≤ im.length ∧ imageTotal im ≤ im.length)
    let got : State := { s with start := { s.start with boot := { b with image := im, waiting := false } } }
    (¬ open' → s.bootAnswer seq status len buf = s) ∧
    (open' → ¬ fits → s.bootAnswer seq status len buf = { s with start := { s.start with boot := { b with ignored := b.ignored + 1 } } }) ∧
    (open' → fits → s.start.step ≠ 8 → status ≠ 1 → ¬ whole → s.bootAnswer seq status len buf = { s with start := { s.start with boot := { b with
      image := im, waiting := true, reqSeq := b.reqSeq + 1, offset := im.length,
      length := Nat.max 1 (Nat.min 65536 (if im.length < 128 then 65536 else imageTotal im - im.length)) } } }) ∧
    (open' → fits → s.start.step ≠ 8 → status ≠ 1 → whole → s.sec.fuses.imageCheck b.kind im = 0 → s.bootAnswer seq status len buf =
      ((got.acceptImage b.kind im).endStep s.start.step (if b.tried = 0 then 0 else 1) false).go) ∧
    (open' → fits → s.start.step ≠ 8 → status ≠ 1 → whole → s.sec.fuses.imageCheck b.kind im ≠ 0 → s.bootAnswer seq status len buf =
      got.rejectSlot (s.sec.fuses.imageCheck b.kind im)) ∧
    (open' → fits → s.start.step ≠ 8 → status = 1 → b.tried = 0 → ∃ t, s.bootAnswer seq status len buf = t ∧
      t.start.boot = { b with tried := 1, slot := 1 - b.slot, image := [], reqSeq := b.reqSeq + 1, offset := 0, length := 65536, waiting := true } ∧
      t = { s with events := t.events, gaps := t.gaps, start := { s.start with boot := t.start.boot } })) ∧
  (∀ (s : State) (kind : Nat) (b : List Byte),
    let t := s.acceptImage kind b
    let i := t.sec.images.rd kind
    i.kind = kind ∧ i.major = field (slice b 0 128) 5 1 ∧ i.minor = field (slice b 0 128) 6 1 ∧ i.slot = s.start.boot.slot ∧ i.svn = field (slice b 0 128) 8 4 ∧
      (∀ k, k ≠ kind → t.sec.images.rd k = s.sec.images.rd k) ∧ t.sec.fuses = s.sec.fuses ∧ t.mem = s.mem ∧ t.start = s.start) ∧
  (∀ (f : Fuses) (kind : Nat) (b : List Byte),
    let h := slice b 0 128
    let n := field h 12 4
    let e0 := slice b (128 + (n + 127) / 128 * 128) 256
    f.imageCheck kind b = 0 → field h 0 4 = 0x31574644 ∧ field h 4 1 = kind ∧ 128 ≤ n ∧ n ≤ 4194304 ∧ padTo 48 (Config.sha384 (slice b 128 n)) = slice h 16 48 ∧
      f.floor kind ≤ field h 8 4 ∧ field h 8 4 ≤ 32 ∧ field h 64 1 ≤ 3 ∧ f.usable (field h 64 1) = true ∧
      padTo 48 (Config.sha384 (slice e0 0 97)) = f.digest (field h 64 1) ∧ Config.verify (slice e0 0 97) (Config.sha384 h) (slice e0 128 96) = true) ∧
  (∀ s : State,
    let waits := s.start.powerGood = true ∧ s.start.phase = .starting ∧ s.start.step = 8
    (¬ waits → exec .bootWaitExpiry s = .next s) ∧
    (waits → ∃ t, exec .bootWaitExpiry s = .next t ∧ t.start.phase = .recovery ∧ t.start.boot.waiting = false ∧
      s.start.stepAt + 1000000 * s.start.bootWaitMs ≤ t.now ∧ t.ledger.record.outcomes = listSet s.ledger.record.outcomes 8 4 ∧ t = { s with now := t.now, start := t.start, ledger := t.ledger })) ∧
  (∀ s : State,
    let k := s.start.step
    let runs := s.start.powerGood = true ∧ s.power.sagStage ≠ 7 ∧ s.start.phase = .starting ∧ k ≠ 8 ∧ (s.start.hung = true ∨ s.bootStep k = true)
    let late := Nat.max s.now (s.start.stepAt + 1000 * Nat.max (4 * s.stepBoundUs k) 10000)
    (¬ runs → exec .startStepTimeout s = .next s) ∧
    (runs → k = 9 ∨ k = 11 → ∃ t, exec .startStepTimeout s = .next t ∧
      t.start.phase = (if k = 9 then .recovery else .halted) ∧ late ≤ t.now ∧ t.ledger.record.outcomes = listSet s.ledger.record.outcomes k 4 ∧ t.mem = s.mem) ∧
    (runs → s.bootStep k = false → exec .startStepTimeout s = .next (State.go { s with now := late, start := { s.start with
      hung := false, env := { s.start.env with hang := none, fails := (k, (s.start.env.hang.map Prod.snd).getD 0, 4) :: s.start.env.fails } } }))) ∧
  (∀ (s : State) (p : Fin 8),
    let x := s.port p
    let t0 := if x.st = .active ∨ x.st = .down then s.now else Nat.max s.now (s.start.openAt + 5000000000)
    (s.start.phase ≠ .opened ∨ x.finalRecorded = true → exec (.portFinalRecord p) s = .next s) ∧
    (s.start.phase = .opened → x.finalRecorded = false → ∃ t, exec (.portFinalRecord p) s = .next t ∧ t.now = t0 ∧
      t.port p = { x with finalRecorded := true } ∧ (∀ q : Nat, q ≠ p.val → t.port q = s.port q) ∧ t.ledger.record.ports = listSet s.ledger.record.ports p
        { (s.ledger.record.ports.getD p {}) with state := x.st.code, speed := x.speed } ∧
      t = { s with now := t.now, ledger := t.ledger, fab := t.fab }))

/-- EVENT_ENTRY, WINDOW_CLOSE, TOKEN_REFILL, FB_CONFIG_WRITE and FB_SPILL_WRITE (19 R709-R727). -/
def Obligations.TheFieldBookCountsAndRecords : Prop :=
  (∀ s : State,
    (s.events = [] ∨ s.awake = false → exec .eventEntry s = .next s) ∧
    (∀ e rest, s.events = e :: rest → s.awake = true →
      (s.fbRuns = false → exec .eventEntry s = .next { s with events := rest }) ∧
      (s.fbRuns = true → s.fb.spill.enable = false → exec .eventEntry s = .next (State.takeEvent { s with events := rest } e)))) ∧
  (∀ (s : State) (e : Event),
    let c := s.fb.cfg.rd e.code
    let sup := e.parcel < 8 ∧ ((s.parcel e.parcel).sealed = true ∨ (s.parcel e.parcel).tally = true)
    let late := e.time < s.fb.winStart
    (c.enable = false → s.takeEvent e = s) ∧
    (c.enable = true → e.time < s.fb.winStart + 1000000 * s.fb.winMs → e.code ≠ 1 →
      (s.takeEvent e).fb.spans.rd e.code = (s.fb.spans.rd e.code).add s.fb.winStart c.shift (decide sup) e.value e.time ∧
      (∀ k, k ≠ e.code → (s.takeEvent e).fb.spans.rd k = s.fb.spans.rd k) ∧ (s.takeEvent e).fb.events = s.fb.events + 1 ∧
      (s.takeEvent e).fb.late = (if late then s.fb.late + 1 else s.fb.late) ∧
      s.takeEvent e = { s with fb := { s.fb with spans := (s.takeEvent e).fb.spans, events := (s.takeEvent e).fb.events, late := (s.takeEvent e).fb.late } }) ∧
    (c.enable = true → s.fb.winStart + 1000000 * s.fb.winMs ≤ e.time → (s.takeEvent e).fb.spans = s.fb.spans ∧
      (s.takeEvent e).fb.early = s.fb.early ++ [(e.code, e.parcel, decide sup, e.value, e.time)])) ∧
  (∀ (x : Span) (w shift value time : Nat), x.opened = true → x.bins.length = 16 →
    let b := binOf (value >>> shift)
    let y := x.add w shift false value time
    let z := x.add w shift true value time
    y.count = Nat.min (x.count + 1) 0xFFFFFFFF ∧ (∀ k, k ≠ b → y.bins.getD k 0 = x.bins.getD k 0) ∧ y.bins.getD b 0 = Nat.min 4095 (x.bins.getD b 0 + 1) ∧
    (x.binned = true → y.min = Nat.min x.min value ∧ y.max = Nat.max x.max value) ∧ (x.binned = false → y.min = value ∧ y.max = value) ∧
    (time < w → y.late = true) ∧ (w ≤ time → y.late = x.late) ∧ (x.bins.getD b 0 = 4095 → y.clipped = true) ∧
    z = { x with count := Nat.min (x.count + 1) 0xFFFFFFFF, late := z.late, suppressed := true }) ∧
  (binOf 0 = 0 ∧ (∀ v b, 1 ≤ b → b ≤ 14 → 2 ^ (b - 1) ≤ v → v < 2 ^ b → binOf v = b) ∧ ∀ v, 2 ^ 14 ≤ v → binOf v = 15) ∧
  (∀ s : State, let e := s.fb.winStart + 1000000 * s.fb.winMs
    (s.fbRuns = false → exec .windowClose s = .next s) ∧
    (s.fbRuns = true → ∃ t, exec .windowClose s = .next t ∧ t.now = Nat.max s.now (s.now + (e + 200000 - s.bench)) ∧ t.fb.winStart = e ∧ t.fb.winMs = s.fb.windowMs ∧
      t.fb.endSpans = false ∧ (s.fb.spill.enable = false → t.mem = s.mem ∧ t.jobs = s.jobs) ∧
      t = { s with now := t.now, events := t.events, gaps := t.gaps, sent := t.sent, mem := t.mem, jobs := t.jobs, fb := t.fb })) ∧
  (∀ (s : State) (last : Bool) (code : Nat), s.fb.spill.enable = false →
    let x := s.fb.spans.rd code
    let c := s.fb.cfg.rd code
    let t := s.closeSpan last code
    let recorded := t.fb.ring.rd (s.fb.tail % 4096) = x.record code s.fb.tail 0 ∧ t.fb.tail = s.fb.tail + 1 ∧ t.fb.spans.rd code = {} ∧
      (∀ k, k ≠ s.fb.tail % 4096 → t.fb.ring.rd k = s.fb.ring.rd k) ∧ (t.fb.head = s.fb.head ∨ (4096 ≤ s.fb.tail - s.fb.head ∧ t.fb.head = s.fb.head + 1)) ∧
      t.fb.gen = s.fb.gen ∧ t = { s with fb := t.fb }
    (x.opened = false → t = s) ∧
    (x.opened = true → x.count = 0 → t = { s with fb := { s.fb with spans := s.fb.spans.wr code {} } }) ∧
    (∀ seq r, x.opened = true → x.count ≠ 0 → s.fb.lastOf code = some (seq, r) → seq % 4096 ∉ s.fb.bad → s.fb.repeats code x r = true →
      field (t.fb.ring.rd (seq % 4096)) 6 2 = field r 6 2 + 1 ∧ t.fb.gen = s.fb.gen + 1 ∧ t.fb.tail = s.fb.tail ∧ t.fb.used = s.fb.used ∧ t.fb.spans.rd code = {} ∧
      (∀ k, k ≠ seq % 4096 → t.fb.ring.rd k = s.fb.ring.rd k) ∧ t = { s with fb := t.fb }) ∧
    (x.opened = true → x.count ≠ 0 → s.fb.lastOf code = none → last = true ∨ c.rate = 0 → recorded ∧ t.fb.used = s.fb.used) ∧
    (x.opened = true → x.count ≠ 0 → s.fb.lastOf code = none → last = false → c.rate ≠ 0 → s.fb.used.rd code < c.rate →
      recorded ∧ t.fb.used = s.fb.used.upd code (· + 1)) ∧
    (x.opened = true → x.count ≠ 0 → s.fb.lastOf code = none → last = false → c.rate ≠ 0 → c.rate ≤ s.fb.used.rd code → x.windows < 65535 →
      t = { s with fb := { s.fb with spans := s.fb.spans.wr code { x with windows := x.windows + 1 }, deferred := s.fb.deferred + 1 } })) ∧
  (∀ (s : State) (code : Fin 4096), let r := (s.fb.cfg.rd code).rate
    (s.fbRuns = false ∨ r = 0 → exec (.tokenRefill code) s = .next s) ∧
    (s.fbRuns = true → r ≠ 0 → ∃ t, exec (.tokenRefill code) s = .next t ∧ t.now = Nat.max s.now (nextMultiple s.now (60000000000 / r)) ∧
      t.fb.used.rd code = s.fb.used.rd code - 1 ∧ (∀ k, k ≠ code.val → t.fb.used.rd k = s.fb.used.rd k) ∧ t = { s with now := t.now, fb := { s.fb with used := t.fb.used } })) ∧
  (∀ (s : State) (by' : Principal) (ms : U16), s.serving →
    let own := by' = .hostk ∨ by' = .rtp ∨ by' = .board
    (¬ own → exec (.fbConfigWrite by' ms) s = .next (s.answer .denied)) ∧
    (own → ms.toNat < 100 ∨ 60000 < ms.toNat → exec (.fbConfigWrite by' ms) s = .next (s.answer .unsupported)) ∧
    (own → 100 ≤ ms.toNat → ms.toNat ≤ 60000 → bitAt s.start.retiredFlags 3 = true → exec (.fbConfigWrite by' ms) s = .next (s.answer .retired)) ∧
    (own → 100 ≤ ms.toNat → ms.toNat ≤ 60000 → bitAt s.start.retiredFlags 3 = false → exec (.fbConfigWrite by' ms) s =
      .next { s with reply := { status := .ok }, fb := { s.fb with windowMs := ms.toNat, endSpans := true } })) ∧
  (∀ (s : State) (by' : Principal) (en kind log2 : Byte) (res : BitVec 40) (base : U64), s.serving →
    let own := by' = .hostk ∨ by' = .rtp
    let owned := ∃ c : Fin 4, s.mcOwner c ≠ none ∧ base.toNat < (c + 1) * mcWindow ∧ c * mcWindow < base.toNat + 64 * 2 ^ log2.toNat
    let ok := en.toNat ≤ 1 ∧ (kind.toNat = 0 ∨ kind.toNat = 2) ∧ 12 ≤ log2.toNat ∧ log2.toNat ≤ 24 ∧ res = 0 ∧ base.toNat % 64 = 0 ∧ ¬(kind.toNat = 0 ∧ owned)
    (¬ own → exec (.fbSpillWrite by' en kind log2 res base) s = .next (s.answer .denied)) ∧
    (own → ¬ ok → exec (.fbSpillWrite by' en kind log2 res base) s = .next (s.answer .unsupported)) ∧
    (own → ok → bitAt s.start.retiredFlags 3 = true → exec (.fbSpillWrite by' en kind log2 res base) s = .next (s.answer .retired)) ∧
    (own → ok → bitAt s.start.retiredFlags 3 = false → en = 0#8 ∨ s.fb.head = s.fb.tail ∨ 1 ≤ s.power.sagStage → exec (.fbSpillWrite by' en kind log2 res base) s =
      .next { s with reply := { status := .ok }, fb := { s.fb with
        spill := { enable := en == 1#8, kind := kind.toNat, log2 := log2.toNat, base := base.toNat }, spilled := if en = 1#8 then s.fb.head else s.fb.spilled } }))

/-- SELFTEST_REQUEST, SELFTEST_DUE, SELFTEST_SEGMENT_END, CLEAR_SOFT, CLEAR_MC_PENDING, PREPARE_REMOVAL, CANCEL and ROUTER_QUIET
(20 R737-R763). -/
def Obligations.SelfTestAndServiceTakeUnitsOutAndBack : Prop :=
  (∀ (s : State) (by' : Principal) (kind unit sub : Byte), s.serving →
    let own := by' = .hostk ∨ by' = .rtp ∨ by' = .board
    let u := if kind.toNat < 2 then 16 * kind.toNat + unit.toNat else 30 + kind.toNat
    let bad := 3 < kind.toNat ∨ 15 < unit.toNat ∨ 47 < sub.toNat
    let loud := kind.toNat = 3 ∧ s.kettle.st ≠ .stopped ∧ s.kettle.st ≠ .withdrawn
    let out := ∃ g ∈ s.svc.segs, g.unit = u
    let g : Segment := { unit := u, sub := sub.toNat, demand := true }
    let ok : State := { s with reply := { status := .ok }, svc := { s.svc with result := {} } }
    (¬ own → exec (.selftestRequest by' kind unit sub) s = .next (s.answer .denied)) ∧
    (own → bad → exec (.selftestRequest by' kind unit sub) s = .next (s.answer .unsupported)) ∧
    (own → ¬ bad → loud → exec (.selftestRequest by' kind unit sub) s = .next { s with reply := { status := .busy, retryUs := 1000 } }) ∧
    (own → ¬ bad → ¬ loud → out → exec (.selftestRequest by' kind unit sub) s = .next (s.answer .withdrawn)) ∧
    (own → ¬ bad → ¬ loud → ¬ out → s.unitRetired u = true → exec (.selftestRequest by' kind unit sub) s = .next (s.answer .retired)) ∧
    (own → ¬ bad → ¬ loud → ¬ out → s.unitRetired u = false → ok.segmentOk u = true → exec (.selftestRequest by' kind unit sub) s = .next (ok.startSegment g)) ∧
    (own → ¬ bad → ¬ loud → ¬ out → s.unitRetired u = false → ok.segmentOk u = false → exec (.selftestRequest by' kind unit sub) s =
      .next { ok with svc := { ok.svc with requested := some g } })) ∧
  (∀ (s : State) (u : Fin 34),
    let x := s.svc.units.rd u
    let base := s.svc.cfg.enable = true ∧ bitAt s.start.retiredFlags 4 = false
    (s.isOpen = false ∨ s.awake = false → exec (.selftestDue u) s = .next s) ∧
    (∀ g, s.isOpen = true → s.awake = true → s.svc.requested = some g → g.unit ≠ u.val ∨ s.segmentOk u = false → exec (.selftestDue u) s = .next s) ∧
    (∀ g, s.isOpen = true → s.awake = true → s.svc.requested = some g → g.unit = u.val → s.segmentOk u = true → exec (.selftestDue u) s =
      .next (State.startSegment { s with svc := { s.svc with requested := none } } g)) ∧
    (s.isOpen = true → s.awake = true → s.svc.requested = none → ¬ base → exec (.selftestDue u) s = .next s) ∧
    (s.isOpen = true → s.awake = true → s.svc.requested = none → base → x.started = false → s.now < x.periodEnd → s.segmentOk u = false → exec (.selftestDue u) s = .next s) ∧
    (s.isOpen = true → s.awake = true → s.svc.requested = none → base → x.started = false → s.now < x.periodEnd → s.segmentOk u = true → exec (.selftestDue u) s =
      .next ((s.updUnit u (fun x => { x with started := true })).startSegment { unit := u, sub := x.sub })) ∧
    (s.isOpen = true → s.awake = true → s.svc.requested = none → base → x.started = false → x.periodEnd ≤ s.now → s.segmentOk u = false → exec (.selftestDue u) s =
      .next (s.updUnit u (fun x => { x with skips := x.skips + 1, periodEnd := s.now + s.unitPeriod u })))) ∧
  (∀ (s : State) (u : Nat), s.segmentOk u = true → s.svc.segs.length < s.svc.cfg.maxConc ∧ s.power.sagStage = 0 ∧ s.power.state = .idle ∧ s.unitRetired u = false ∧
    (∀ g ∈ s.svc.segs, g.unit ≠ u) ∧ (u < 16 → (s.engine u).powered = true ∧ (s.engine u).halted = false) ∧ (16 ≤ u → u < 32 → (s.slc.rd (u - 16)).powered = true)) ∧
  (∀ (s : State) (g : Segment),
    let free := ∀ i ∈ subGranules g.sub, ((s.slc.rd (g.unit - 16)).gran.rd i).st = .empty ∧ ((s.slc.rd (g.unit - 16)).gran.rd i).readers = 0
    let t := s.startSegment g
    (g.unit < 16 → t.svc = { s.svc with segs := s.svc.segs ++ [g] } ∧ t.eng = s.eng.upd g.unit (fun e => { e with withdrawn := true }) ∧
      t = { s with svc := t.svc, eng := t.eng, queues := t.queues }) ∧
    (16 ≤ g.unit → g.unit < 32 → free → (t.slc.rd (g.unit - 16)).withdrawn = true ∧ (∀ i ∈ subGranules g.sub, ((t.slc.rd (g.unit - 16)).gran.rd i).st = .filling) ∧
      (∀ i, i ∉ subGranules g.sub → (t.slc.rd (g.unit - 16)).gran.rd i = (s.slc.rd (g.unit - 16)).gran.rd i) ∧
      (t.slc.rd (g.unit - 16)).bytes = (s.slc.rd (g.unit - 16)).bytes ∧ t.svc = { s.svc with segs := s.svc.segs ++ [g] } ∧ t = { s with svc := t.svc, slc := t.slc }) ∧
    (16 ≤ g.unit → g.unit < 32 → ¬ free → (t.svc.units.rd g.unit).skips = (s.svc.units.rd g.unit).skips + 1 ∧ (t.svc.units.rd g.unit).lastOutcome = 4 ∧
      (∀ h ∈ t.svc.segs, h.unit ≠ g.unit) ∧ t = { s with svc := t.svc }) ∧
    (g.unit = 32 → t = { s with svc := { s.svc with segs := s.svc.segs ++ [g] }, te := { s.te with withdrawn := true } }) ∧
    (g.unit = 33 → t = { s with svc := { s.svc with segs := s.svc.segs ++ [g] }, kettle := { s.kettle with st := .withdrawn, listenDue := false } })) ∧
  (∀ (s : State) (u : Fin 34) (first confirm : Bool) (lanes : List (Fin 136)),
    let o := if first = true then 0 else if confirm = true then 1 else 2
    ((∀ g ∈ s.svc.segs, g.unit ≠ u.val) → exec (.selftestSegmentEnd u first confirm lanes) s = .next s) ∧
    (∀ g, s.svc.segs.find? (fun g => g.unit == u.val) = some g →
      (o ≠ 2 → exec (.selftestSegmentEnd u first confirm lanes) s = .next ((s.restoreUnit g).countSegment g o 0xFF)) ∧
      (o = 2 → u.val < 16 → ∃ t, exec (.selftestSegmentEnd u first confirm lanes) s = .next t ∧ (t.engine u).retired = true ∧ (t.engine u).inbox = [] ∧
        (t.engine u).withdrawn = false ∧ (∀ h ∈ t.svc.segs, h.unit ≠ u.val) ∧ (t.svc.units.rd u).fails = (s.svc.units.rd u).fails + 1) ∧
      (o = 2 → 16 ≤ u.val → u.val < 32 → 2 ≤ (s.slc.rd (u - 16)).mapped.length → ∃ t, exec (.selftestSegmentEnd u first confirm lanes) s = .next t ∧
        (t.slc.rd (u - 16)).retired = true ∧ (t.engine (u - 16)).retired = true) ∧
      (o = 2 → 16 ≤ u.val → u.val < 32 → (s.slc.rd (u - 16)).mapped.length < 2 → g.sub ∉ (s.slc.rd (u - 16)).mapped →
        ∃ t, exec (.selftestSegmentEnd u first confirm lanes) s = .next t ∧ (t.slc.rd (u - 16)).mapped = (s.slc.rd (u - 16)).mapped ++ [g.sub] ∧
        (t.slc.rd (u - 16)).retired = (s.slc.rd (u - 16)).retired ∧ t.eng = s.eng) ∧
      (o = 2 → u.val = 32 → ∃ t, exec (.selftestSegmentEnd u first confirm lanes) s = .next t ∧ t.te.retired = true ∧ t.te.ctx = [] ∧ bitAt t.start.retiredFlags 0 = true) ∧
      (o = 2 → u.val = 33 → ∃ t, exec (.selftestSegmentEnd u first confirm lanes) s = .next t ∧ bitAt t.start.retiredFlags 2 = true))) ∧
  (∀ (s : State) (g : Segment) (o index : Nat),
    let x := s.svc.units.rd g.unit
    let y := (s.countSegment g o index).svc.units.rd g.unit
    y.passes = x.passes + (if o = 0 then 1 else 0) ∧ y.transients = x.transients + (if o = 1 then 1 else 0) ∧ y.fails = x.fails + (if o = 2 then 1 else 0) ∧
      y.aborts = x.aborts + (if o = 3 then 1 else 0) ∧ y.skips = x.skips + (if o = 4 then 1 else 0) ∧ y.lastOutcome = o ∧
      (∀ k, k ≠ g.unit → (s.countSegment g o index).svc.units.rd k = s.svc.units.rd k) ∧
      (g.demand = true → (s.countSegment g o index).svc.result = { ready := true, bytes := leBytes 1 0 ++ leBytes 1 o ++ leBytes 1 index }) ∧
      s.countSegment g o index = { s with svc := (s.countSegment g o index).svc }) ∧
  (∀ (s : State) (g : Segment), g.unit < 16 →
    ((s.restoreUnit g).engine g.unit).withdrawn = false ∧ (s.restoreUnit g) = { s with eng := s.eng.upd g.unit (fun e => { e with withdrawn := false }), queues := (s.restoreUnit g).queues }) ∧
  (∀ (s : State) (g : Segment), 16 ≤ g.unit → g.unit < 32 → let x := (s.restoreUnit g).slc.rd (g.unit - 16)
    x.withdrawn = false ∧ (∀ i ∈ subGranules g.sub, x.gran.rd i = {}) ∧ (∀ a, 65536 * g.sub ≤ a → a < 65536 * g.sub + 65536 → x.bytes.rd a = 0#8) ∧
      (∀ a, a < 65536 * g.sub ∨ 65536 * g.sub + 65536 ≤ a → x.bytes.rd a = (s.slc.rd (g.unit - 16)).bytes.rd a)) ∧
  (∀ (s : State) (by' : Principal), s.serving →
    let own := by' = .hostk ∨ by' = .rtp ∨ by' = .board
    let may := by' = .hostk ∨ by' = .board ∨ by' = .surv
    let jobs := ∃ j ∈ s.jobs, j.2.st ≠ .ended
    (¬ own → exec (.clearSoft by') s = .next (s.answer .denied) ∧ exec (.clearMcPending by') s = .next (s.answer .denied)) ∧
    (own → exec (.clearSoft by') s = .next { s with reply := { status := .ok }, ledger := { s.ledger with clearSoft := true } } ∧
      exec (.clearMcPending by') s = .next { s with reply := { status := .ok }, ledger := { s.ledger with clearMcPending := true } }) ∧
    (¬ may → exec (.prepareRemoval by') s = .next (s.answer .denied) ∧ exec (.cancel by') s = .next (s.answer .denied)) ∧
    (may → s.straps.packageP = true → exec (.prepareRemoval by') s = .next (s.answer .unsupported) ∧ exec (.cancel by') s = .next (s.answer .unsupported)) ∧
    (may → s.straps.packageP = false → jobs → exec (.prepareRemoval by') s = .next { s with reply := { status := .busy, retryUs := 1000 } }) ∧
    (may → s.straps.packageP = false → ¬ jobs → s.svc.state = 0 → exec (.prepareRemoval by') s =
      .next { s with reply := { status := .ok }, svc := { s.svc with state := 1, drainFrom := s.now } }) ∧
    (may → s.straps.packageP = false → ¬ jobs → s.svc.state ≠ 0 → exec (.prepareRemoval by') s = .next { s with reply := { status := .ok } }) ∧
    (may → s.straps.packageP = false → s.svc.state = 2 → exec (.cancel by') s = .next { s with reply := { status := .busy, retryUs := 1000 } }) ∧
    (may → s.straps.packageP = false → s.svc.state ≠ 2 → exec (.cancel by') s = .next { s with reply := { status := .ok }, svc := { s.svc with state := 0 } })) ∧
  (∀ s : State,
    (s.svc.state ≠ 1 → exec .routerQuiet s = .next s) ∧
    (s.svc.state = 1 → ∃ t, exec .routerQuiet s = .next t ∧ t.svc = { s.svc with state := 2 } ∧ t.now = Nat.max s.now (s.svc.drainFrom + 10000000) ∧
      (∀ p, p < 8 → (t.port p).st = .disabled) ∧ (∀ n, n < 16 → (t.engine n).powered = false ∧ (t.slc.rd n).powered = false ∧ (t.slc.rd n).bytes = []) ∧
      t.te.ctx = [] ∧ t.mem.dc = [] ∧ t.ledger = s.ledger))

/-- The state in which a frame on a path is served, the path as the frame's RELAY bit makes it, and the frame's bytes (21 R771, R772,
R783, R784). -/
def Sys2Proof.Machine.State.frameIn (s : State) (path : Path) (raw : List Byte) : State × Path × List Byte :=
  match path with
  | .window w => ({ s with dict := { s.dict with windows := s.dict.windows.upd w (fun y => { y with req := padTo 128 raw }) } }, .window w, padTo 128 raw)
  | .vc0 die _ => (match s.fab.arrived.find? (fun (m : Msg) => m.op == 0x30 && m.src == die && m.dest == s.dieId && m.payload == padTo 128 raw) with
      | some m => s.take m
      | none => s, .vc0 die (bitAt (frameOf raw).flags 1), padTo 128 raw)
  | .i3c => (s, .i3c, raw)

/-- The die after it has counted a frame (21 Table 21.7, FRAMES). -/
def Sys2Proof.Machine.State.counted (s : State) : State := { s with dict := { s.dict with frames := s.dict.frames + 1 } }

/-- The die after it has counted a frame and given it a place (21 R780). -/
def Sys2Proof.Machine.State.placed (s : State) : State :=
  { s with dict := { s.dict with frames := s.dict.frames + 1, peak := Nat.max s.dict.peak (s.dict.sessions.length + 1) } }

/-- READ, WRITE, WRITE_INIT and DESCRIBE (21 R769-R784). -/
def Obligations.FirstFramesAreCheckedInOrderAndServed : Prop :=
  (∀ (s : State) (path : Path) (raw : List Byte),
    let rows := [(0x10, Instr.read), (0x11, .write), (0x12, .writeInit), (0x13, .writeSeg), (0x14, .readSeg), (0x15, .abort), (0x16, .describe)]
    ∀ x ∈ rows,
      let f := frameOf raw
      let other := s.mute = true ∨ f.isResponse = true ∨ (f.known = true ∧ f.ftype ≠ x.1)
      let i := s.frameIn path raw
      (other → exec (x.2 path raw) s = .next s) ∧
      (∀ w, ¬ other → path = .window w → 15 < w → exec (x.2 path raw) s = .next s) ∧
      (∀ w, ¬ other → path = .window w → w ≤ 15 → (s.dict.windows.rd w).busy = true → exec (x.2 path raw) s = .next { s with
        dict := { s.dict with windows := s.dict.windows.upd w (fun y => { y with stale := y.stale + 1 }) } }) ∧
      (¬ other → (∀ w, path = .window w → w ≤ 15 ∧ (s.dict.windows.rd w).busy = false) → exec (x.2 path raw) s = .next (i.1.serveFrame i.2.1 i.2.2))) ∧
  (∀ (s : State) (path : Path) (raw : List Byte),
    let f := frameOf raw
    let ok := f.known = true ∧ f.wellFormed raw.length (match path with | .vc0 _ _ => true | _ => false) = true
    let first := ok ∧ f.target = s.dieId ∧ f.session = 0
    let reads := f.ftype = 0x10 ∨ f.ftype = 0x16
    let gate := s.gate (decide reads) f.index (if f.ftype = 0x11 then f.data else List.replicate 4 0xFF)
    (¬ ok → s.serveFrame path raw = s.counted.deliverFrame path (f.refuse .unsupported 0)) ∧
    (ok → f.target ≠ s.dieId → path ≠ .window 0 → s.serveFrame path raw = s.counted.deliverFrame path (f.refuse .denied 0)) ∧
    (ok → f.target ≠ s.dieId → path = .window 0 → s.serveFrame path raw = State.mgmt { s.counted with dict := { s.counted.dict with
      windows := s.dict.windows.upd 0 (fun y => { y with busy := true })
      relay := some { frame := raw, target := f.target, deadline := s.now + 10000000 } } } f.target (padTo 128 (raw.set 1 (BitVec.ofNat 8 (f.flags ||| 2))))) ∧
    (∀ r, first → gate = .stop r → s.serveFrame path raw = State.respondWith path (s.counted, f.refuse r.status r.retryUs)) ∧
    (first → gate = .go → s.placeFree path = false → s.serveFrame path raw = State.respondWith path (s.counted, f.refuse .busy 100)) ∧
    (first → gate = .go → s.placeFree path = true →
      (∀ st, f.ftype = 0x10 → s.placed.entryFor path true f.index f.sub = .inl st → s.serveFrame path raw = s.placed.deliverFrame path (f.refuse st 0)) ∧
      (∀ r by' b, f.ftype = 0x10 → s.placed.entryFor path true f.index f.sub = .inr (r, by') → s.placed.readEntry by' f.index f.sub = (.ok, b) →
        (b.length ≤ 8 → s.serveFrame path raw = s.placed.deliverFrame path (f.respond 1 0 .ok 0 b)) ∧
        (8 < b.length → ∃ id, s.serveFrame path raw = State.deliverFrame { s.placed with dict := { s.placed.dict with
            sessions := s.dict.sessions ++ [{ path := path, index := f.index, sub := f.sub, total := b.length, data := b, id := id, at' := s.now }]
            nextId := id % 65535 + 1 } } path (f.respond 0 id .ok b.length []))) ∧
      (∀ r by' st b, f.ftype = 0x10 → s.placed.entryFor path true f.index f.sub = .inr (r, by') → s.placed.readEntry by' f.index f.sub = (st, b) → st ≠ .ok →
        s.serveFrame path raw = State.respondWith path (s.placed, f.refuse st 0)) ∧
      (∀ st, f.ftype = 0x11 ∨ f.ftype = 0x12 → s.placed.entryFor path false f.index f.sub = .inl st → s.serveFrame path raw = s.placed.deliverFrame path (f.refuse st 0)) ∧
      (∀ r by', f.ftype = 0x11 → s.placed.entryFor path false f.index f.sub = .inr (r, by') →
        (f.data.length < r.min ∨ r.size < f.data.length → s.serveFrame path raw = s.placed.deliverFrame path (f.refuse .unsupported 0)) ∧
        (r.min ≤ f.data.length → f.data.length ≤ r.size → s.serveFrame path raw =
          let t := s.placed.applyFrame path by' f.index f.sub f.data
          State.respondWith path (t, t.outcome f 0))) ∧
      (∀ r by', f.ftype = 0x12 → s.placed.entryFor path false f.index f.sub = .inr (r, by') → ∃ id, s.serveFrame path raw = State.deliverFrame { s.placed with
        dict := { s.placed.dict with
          sessions := s.dict.sessions ++ [{ path := path, index := f.index, sub := f.sub, write := true, total := f.param, id := id, at' := s.now }]
          nextId := id % 65535 + 1 } } path (f.respond 0 id .ok 0 [])) ∧
      (f.ftype = 0x16 → dictEntry f.index f.sub = none → s.serveFrame path raw = s.placed.deliverFrame path (f.refuse .unsupported 0)) ∧
      (∀ r by', f.ftype = 0x16 → dictEntry f.index f.sub = some r → s.placed.principalOf path = some by' → s.serveFrame path raw = s.placed.deliverFrame path
        (f.respond 1 0 .ok 0 (leBytes 1 r.type ++ leBytes 1 (if r.ledger = true then 1 else 0) ++ leBytes 1 (s.placed.frameRight path by' r f.index f.sub) ++
          leBytes 1 (if r.rb = true then 1 else 0) ++ leBytes 4 r.size))))) ∧
  (∀ (s : State) (path : Path) (b : List Byte),
    (b = [] → State.respondWith path (s, b) = s) ∧
    (b ≠ [] → field b 7 1 ≠ 1 → State.respondWith path (s, b) = s.deliverFrame path b) ∧
    (b ≠ [] → field b 7 1 = 1 → State.respondWith path (s, b) = State.deliverFrame { s with dict := { s.dict with busy := s.dict.busy + 1 } } path b)) ∧
  (∀ (f : Frame) (flags session param : Nat) (st : Status) (d : List Byte), d.length ≤ 112 → f.known = true →
    let b := f.respond flags session st param d
    b.length = 16 + d.length ∧ field b 0 1 = f.ftype + 0x80 ∧ field b 1 1 = flags % 256 ∧ field b 2 2 = session % 65536 ∧ field b 4 2 = f.index % 65536 ∧
      field b 6 1 = f.sub % 256 ∧ field b 7 1 = st.code ∧ field b 8 4 = param % 2 ^ 32 ∧ field b 12 2 = d.length ∧ b.drop 16 = d) ∧
  (∀ (s : State) (b : List Byte),
    (∀ w, ∃ t, s.deliverFrame (.window w) b = t ∧ (t.dict.windows.rd w) = { s.dict.windows.rd w with rsp := padTo 128 b, rspSeq := (s.dict.windows.rd w).rspSeq + 1, busy := false } ∧
      (∀ v, v ≠ w → t.dict.windows.rd v = s.dict.windows.rd v) ∧
      (let v := if w = 0 then s.dict.mboxVector else (s.dict.windows.rd w).vector; t.sent = if v = 0xFFFF then s.sent else .intr v :: s.sent) ∧
      t = { s with dict := { s.dict with windows := t.dict.windows }, sent := t.sent }) ∧
    s.deliverFrame .i3c b = { s with dict := { s.dict with i3c := { s.dict.i3c with rsp := b, ready := true } }, sent := .ibi 0xD1 :: s.sent } ∧
    (∀ die relay, s.deliverFrame (.vc0 die relay) b = s.mgmt die (padTo 128 b)))

/-- READ_SEG, WRITE_SEG, ABORT, SESSION_IDLE_TIMEOUT and RELAY_TIMEOUT (21 R770, R777-R781). -/
def Obligations.SessionsKeepTheirOrderAndEnd : Prop :=
  (∀ (s : State) (path : Path) (raw : List Byte),
    let f := frameOf raw
    let comes := f.known = true ∧ f.wellFormed raw.length (match path with | .vc0 _ _ => true | _ => false) = true ∧ f.target = s.dieId ∧ f.session ≠ 0
    let u := s.counted
    let without := fun (id : Nat) => ({ u with dict := { u.dict with sessions := s.dict.sessions.filter (fun (y : Session) => y.id != id) } } : State)
    (comes → (∀ x ∈ s.dict.sessions, x.id ≠ f.session) → s.serveFrame path raw = u.deliverFrame path (f.refuse .unsupported 0)) ∧
    (∀ x, comes → s.dict.sessions.find? (fun (x : Session) => x.id == f.session) = some x →
      let mine := x.path = path ∧ u.principalOf path ≠ none
      let here := mine ∧ x.index = f.index ∧ x.sub = f.sub
      let seg := here ∧ ((f.ftype = 0x13 ∧ x.write = true) ∨ (f.ftype = 0x14 ∧ x.write = false))
      let next := fun (y : Session) => ({ u with dict := { u.dict with sessions := s.dict.sessions.map (fun (z : Session) => if z.id = x.id then y else z) } } : State)
      (¬ mine → s.serveFrame path raw = u.deliverFrame path (f.refuse .denied 0)) ∧
      (mine → ¬ here → s.serveFrame path raw = u.deliverFrame path (f.refuse .unsupported 0)) ∧
      (here → f.ftype = 0x15 → s.serveFrame path raw = (without x.id).deliverFrame path (f.respond 1 x.id .ok 0 [])) ∧
      (here → f.ftype ≠ 0x15 → ¬ seg → s.serveFrame path raw = (without x.id).deliverFrame path (f.refuse .unsupported 0)) ∧
      (seg → f.param + 1 ≠ x.next → f.param ≠ x.next → s.serveFrame path raw = (without x.id).deliverFrame path (f.refuse .unsupported 0)) ∧
      (seg → f.param + 1 = x.next → s.serveFrame path raw = State.respondWith path
        ({ u with dict := { u.dict with sessions := s.dict.sessions.map (fun (z : Session) => if z.id = x.id then { z with at' := s.now } else z) } }, x.lastAnswer)) ∧
      (seg → f.ftype = 0x14 → f.param = x.next → x.total ≤ 112 * (f.param + 1) → s.serveFrame path raw =
        (without x.id).deliverFrame path (f.respond 1 x.id .ok f.param (slice x.data (112 * f.param) 112))) ∧
      (seg → f.ftype = 0x14 → f.param = x.next → 112 * (f.param + 1) < x.total → s.serveFrame path raw =
        let b := f.respond 0 x.id .ok f.param (slice x.data (112 * f.param) 112)
        (next { x with next := x.next + 1, lastAnswer := b, at' := s.now }).deliverFrame path b) ∧
      (seg → f.ftype = 0x13 → f.param = x.next → f.last = false → f.len ≠ 112 ∨ x.total ≤ (x.data ++ f.data).length → s.serveFrame path raw =
        (without x.id).deliverFrame path (f.refuse .unsupported 0)) ∧
      (seg → f.ftype = 0x13 → f.param = x.next → f.last = false → f.len = 112 → (x.data ++ f.data).length < x.total → s.serveFrame path raw =
        let b := f.respond 0 x.id .ok f.param []
        (next { x with data := x.data ++ f.data, next := x.next + 1, lastAnswer := b, at' := s.now }).deliverFrame path b) ∧
      (seg → f.ftype = 0x13 → f.param = x.next → f.last = true → (x.data ++ f.data).length ≠ x.total → s.serveFrame path raw =
        (without x.id).deliverFrame path (f.refuse .unsupported 0)) ∧
      (∀ r by', seg → f.ftype = 0x13 → f.param = x.next → f.last = true → (x.data ++ f.data).length = x.total → s.gate false f.index (x.data ++ f.data) = .go →
        (without x.id).entryFor x.path false f.index f.sub = .inr (r, by') → r.min ≤ x.total → x.total ≤ r.size → s.serveFrame path raw =
          let t := (without x.id).applyFrame x.path by' f.index f.sub (x.data ++ f.data)
          State.respondWith path (t, t.outcome f x.id)))) ∧
  (∀ (s : State) (id : U16),
    ((∀ x ∈ s.dict.sessions, x.id ≠ id.toNat) → exec (.sessionIdleTimeout id) s = .next s) ∧
    (∀ x, s.dict.sessions.find? (fun (x : Session) => x.id == id.toNat) = some x → exec (.sessionIdleTimeout id) s = .next { s with
      now := Nat.max s.now (x.at' + 1000000 * s.dict.idleMs)
      dict := { s.dict with sessions := s.dict.sessions.filter (fun (y : Session) => y.id != x.id), timeouts := s.dict.timeouts + 1 } })) ∧
  (∀ s : State,
    (s.dict.relay = none → exec .relayTimeout s = .next s) ∧
    (∀ r, s.dict.relay = some r → exec .relayTimeout s = .next (State.deliverFrame { s with
      now := Nat.max s.now r.deadline, dict := { s.dict with relay := none, relayTrunc := s.dict.relayTrunc + 1 } } (.window 0) ((frameOf r.frame).refuse .truncated 0))))

/-- REGISTER_WRITE, RESPONSE_FRAME, I3C_PRIVATE_READ, ENTDAA, GETMWL, GETMRL, GETPID, GETBCR and GETDCR (21 R766-R784; 23 R828). -/
def Obligations.EntriesResponsesAndTheSideband : Prop :=
  (∀ (s : State) (by' : Principal) (index : U16) (sub : Byte) (data : List Byte),
    let gate := s.gate false index.toNat data
    (gate = .silent → exec (.registerWrite by' index sub data) s = .next s) ∧
    (∀ r, gate = .stop r → exec (.registerWrite by' index sub data) s = .next { s with reply := r }) ∧
    (gate = .go → dictEntry index.toNat sub.toNat = none → exec (.registerWrite by' index sub data) s = .next (s.answer .unsupported)) ∧
    (∀ r, gate = .go → dictEntry index.toNat sub.toNat = some r → writable (s.rightOf by' r index.toNat sub.toNat) = false →
      exec (.registerWrite by' index sub data) s = .next (s.answer .denied)) ∧
    (∀ r, gate = .go → dictEntry index.toNat sub.toNat = some r → writable (s.rightOf by' r index.toNat sub.toNat) = true → data.length < r.min ∨ r.size < data.length →
      exec (.registerWrite by' index sub data) s = .next (s.answer .unsupported)) ∧
    (∀ r, gate = .go → dictEntry index.toNat sub.toNat = some r → writable (s.rightOf by' r index.toNat sub.toNat) = true → r.min ≤ data.length → data.length ≤ r.size →
      exec (.registerWrite by' index sub data) s = .next (s.applyWrite by' index.toNat sub.toNat data))) ∧
  (∀ (s : State) (by' : Principal) (sub : Nat) (data : List Byte), s.start.env.ledgerFail = false →
    let v := leNat data
    let ok : State := { s with reply := { status := .ok } }
    let kept := fun (t : State) (index : Nat) => ({ t with ledger := { s.ledger with entries := s.ledger.entries.wr (index * 256 + sub) data } } : State)
    let th : SagThresh := { thresh := field data 0 2, dwell := field data 2 2 }
    let rises := ∀ k, 1 ≤ k → k ≤ 5 → ((s.power.thresh.wr sub th).rd k).thresh < ((s.power.thresh.wr sub th).rd (k + 1)).thresh
    (500 ≤ v → v ≤ 60000 → s.applyWrite by' 0x2003 sub data = { ok with power := { s.power with budget := v } }) ∧
    (v < 500 ∨ 60000 < v → s.applyWrite by' 0x2003 sub data = s.answer .unsupported) ∧
    (v ≤ 1000000 → s.applyWrite by' 0x2005 sub data = { ok with power := { s.power with engineOffUs := v } }) ∧
    (1000000 < v → s.applyWrite by' 0x2005 sub data = s.answer .unsupported) ∧
    (100 ≤ v → v ≤ 10000 → s.applyWrite by' 0x1101 sub data = { ok with dict := { s.dict with idleMs := v } }) ∧
    (v < 100 ∨ 10000 < v → s.applyWrite by' 0x1101 sub data = s.answer .unsupported) ∧
    (v ≤ 6 → s.applyWrite by' 0x2102 sub data = kept { ok with power := { s.power with pinStage := v } } 0x2102) ∧
    (6 < v → s.applyWrite by' 0x2102 sub data = s.answer .unsupported) ∧
    (10 ≤ th.thresh → th.thresh ≤ 99 → 50 ≤ th.dwell → th.dwell ≤ 10000 → rises → s.applyWrite by' 0x2101 sub data =
      kept { ok with power := { s.power with thresh := s.power.thresh.wr sub th } } 0x2101) ∧
    (th.thresh < 10 ∨ 99 < th.thresh ∨ th.dwell < 50 ∨ 10000 < th.dwell ∨ ¬ rises → s.applyWrite by' 0x2101 sub data = s.answer .unsupported) ∧
    (1 ≤ v → v ≤ 8 → s.applyWrite by' 0x7008 sub data = kept { ok with start := { s.start with startLimit := v } } 0x7008) ∧
    (v < 1 ∨ 8 < v → s.applyWrite by' 0x7008 sub data = s.answer .unsupported)) ∧
  (∀ (s : State) (by' : Principal) (sub : Nat) (data : List Byte), s.start.env.ledgerFail = true → leNat data ≤ 6 →
    (s.applyWrite by' 0x2102 sub data).reply = { status := .ok, notPersisted := true } ∧ (s.applyWrite by' 0x2102 sub data).ledger = s.ledger ∧
    (s.applyWrite by' 0x2102 sub data).power.pinStage = leNat data) ∧
  (∀ (s : State) (src : U16) (raw : List Byte),
    let b := padTo 128 raw
    let f := frameOf b
    let waits := fun (o : Outgoing) => o.dest = src.toNat ∧ o.index = f.index ∧ o.sub = f.sub ∧ (o.session = 0 → answers f 0x12 = true) ∧
      (o.session ≠ 0 → answers f 0x13 = true ∧ f.session = o.session)
    let reads := fun (r : Reading) => r.dest = src.toNat ∧ r.index = f.index ∧ r.sub = f.sub ∧ (r.session = 0 → answers f 0x10 = true) ∧
      (r.session ≠ 0 → answers f 0x14 = true ∧ f.session = r.session)
    let bare := s.mute = false ∧ f.isResponse = true ∧ ∀ m ∈ s.fab.arrived, m.payload ≠ b
    (s.mute = true ∨ f.isResponse = false → exec (.responseFrame src raw) s = .next s) ∧
    (bare → s.dict.relay = none → (∀ o ∈ s.dict.outgoing, ¬ waits o) → (∀ r ∈ s.dict.readings, ¬ reads r) → exec (.responseFrame src raw) s = .next s) ∧
    (∀ r, bare → s.dict.relay = some r → r.target = src.toNat → answers f (frameOf r.frame).ftype = true → f.index = (frameOf r.frame).index → f.sub = (frameOf r.frame).sub →
      (frameOf r.frame).session = 0 ∨ f.session = (frameOf r.frame).session → exec (.responseFrame src raw) s =
        .next (State.deliverFrame { s with dict := { s.dict with relay := none } } (.window 0) b)) ∧
    (∀ o, bare → s.dict.relay = none → s.dict.outgoing = [o] → waits o → exec (.responseFrame src raw) s = .next (s.writeAnswer o f)) ∧
    (∀ r, bare → s.dict.relay = none → s.dict.outgoing = [] → s.dict.readings = [r] → reads r → exec (.responseFrame src raw) s = .next (s.readAnswer r f))) ∧
  (∀ (s : State) (o : Outgoing) (f : Frame),
    let drop : State := { s with dict := { s.dict with outgoing := s.dict.outgoing.filter (fun (x : Outgoing) => x != o) } }
    let goes := fun (y : Outgoing) => State.mgmtBy { drop with dict := { drop.dict with outgoing := drop.dict.outgoing ++ [y] } } o.port o.dest y.segment
    (statusOf f.status = .ok → o.session = 0 → s.writeAnswer o f = goes { o with session := f.session }) ∧
    (statusOf f.status = .ok → o.session ≠ 0 → 112 * (o.next + 1) < o.data.length → s.writeAnswer o f = goes { o with next := o.next + 1 }) ∧
    (statusOf f.status = .ok → o.session ≠ 0 → o.data.length ≤ 112 * (o.next + 1) → o.index ≠ 0x4102 → s.writeAnswer o f = drop) ∧
    (statusOf f.status = .busy → o.index = 0x4104 → s.writeAnswer o f = drop) ∧
    (statusOf f.status = .busy → o.index ≠ 0x4104 → s.writeAnswer o f = drop.writeLong o.port o.dest o.index o.sub o.data) ∧
    (statusOf f.status ≠ .ok → statusOf f.status ≠ .busy → o.index ≠ 0x4102 → s.writeAnswer o f = drop)) ∧
  (∀ s : State,
    let rows := [(Instr.i3cPrivateRead, if s.dict.i3c.ready = true then s.dict.i3c.rsp else [0#8]), (.getmwl, [0x00#8, 0x80#8]), (.getmrl, [0x00#8, 0x80#8]),
      (.getpid, (leBytes 6 (0x2B3B * 2 ^ 33 + 2 ^ 32 + s.serial % 2 ^ 32)).reverse), (.getbcr, [0x06#8]), (.getdcr, [0x00#8])]
    (s.mute = true → ∀ x ∈ rows, exec x.1 s = .next s) ∧
    (s.mute = false → ∀ x ∈ rows, ∃ t, exec x.1 s = .next t ∧ t.reply = { data := x.2 } ∧ t = { s with reply := t.reply, dict := { s.dict with i3c := t.dict.i3c } } ∧
      (x.1 = .i3cPrivateRead → t.dict.i3c.ready = false) ∧ (x.1 ≠ .i3cPrivateRead → t.dict = s.dict)) ∧
    (∀ a : BitVec 7, s.mute = true → exec (.entdaa a) s = .next s) ∧
    (∀ a : BitVec 7, s.mute = false → exec (.entdaa a) s = .next { s with reply := { status := .ok }, dict := { s.dict with i3c := { s.dict.i3c with addr := some a.toNat } } }))

/-- The defaults of the dictionary's tables (17 Table 17.7; 18 Table 18.8; 19 Table 19.3; 20 Table 20.6; 21 Table 21.7; 05 Table 5.2). -/
def Obligations.ResetLeavesTheDefaultsOfTheTables : Prop :=
  let s := State.reset
  s.pending = [] ∧ s.start.powerGood = false ∧ s.awake = false ∧ s.mem.loc = [] ∧ s.mem.host = [] ∧ s.jobs = [] ∧ s.queues = [] ∧
    (∀ n, n < 16 → (s.engine n).powered = false ∧ (s.slc.rd n).bytes = []) ∧
    s.power.capMhz = 1600 ∧ s.power.budget = 38000 ∧ s.power.engineOffUs = 100 ∧ s.power.boostEnable = false ∧ s.power.sagStage = 0 ∧ s.power.pinStage = 4 ∧
    (List.range 6).map (fun k => ((s.power.thresh.rd (k + 1)).thresh, (s.power.thresh.rd (k + 1)).dwell)) =
      [(30, 1000), (40, 1000), (50, 500), (60, 200), (70, 200), (80, 100)] ∧
    s.fb.windowMs = 1000 ∧ s.fb.head = 1 ∧ s.fb.tail = 1 ∧ s.fb.gen = 0 ∧ s.fb.spill.enable = false ∧
    s.dict.idleMs = 1000 ∧ s.dict.relayDie = 0xFFFF ∧ s.dict.mboxVector = 0xFFFF ∧ (∀ w, (s.dict.windows.rd w).bindQ = 0xFFFF) ∧ s.dict.sessions = [] ∧
    s.svc.cfg = { enable := true, engineS := 60, sliceS := 60, teS := 60, kettleS := 600, maxConc := 2 } ∧
    s.start.bootWaitMs = 1000 ∧ s.start.startLimit = 3 ∧ s.start.fatalAutoMs = 0 ∧ s.ledger.entries = [] ∧ s.ledger.resetCount = 0 ∧ s.ledger.soft = [] ∧
    (s.approx.profiles.rd 4).int8T = 6 ∧ (s.approx.profiles.rd 4).int4T = 2 ∧ (s.approx.profiles.rd 4).fpExp = some (-7) ∧ (s.approx.profiles.rd 4).margin = 5 ∧
    (s.approx.profiles.rd 4).limit = 256

/-- The invariants hold at reset. -/
def Obligations.ResetMeetsTheInvariants : Prop :=
  State.reset.memWf ∧ 200 ≤ State.reset.power.capMhz ∧ State.reset.power.capMhz ≤ 1800

/-- No command faults and none is refused by the model: a refusal of the spec is a status (00 Table 0.8; 21 R779). -/
def Obligations.NoCommandStopsTheMachine : Prop :=
  (∀ (c : Instr) (s : State), ∃ t, exec c s = .next t) ∧ ∀ s : State, s.safe

/-- No meaning touches the queue of waiting commands (log 2). -/
def Obligations.StepsTakeTheQueueFirstInFirstOut : Prop :=
  ∀ s t : State, step s = .next t → t.pending = s.pending.tail

/-- The canonical form of every memory is kept by every step (log 5). -/
def Obligations.StepsKeepMemoryCanonical : Prop :=
  ∀ s t : State, s.memWf → step s = .next t → t.memWf

/-- The range of the cap (17 R650) is kept by every step. -/
def Obligations.StepsKeepTheCapInItsRange : Prop :=
  ∀ s t : State, 200 ≤ s.power.capMhz → s.power.capMhz ≤ 1800 → step s = .next t → 200 ≤ t.power.capMhz ∧ t.power.capMhz ≤ 1800
end

