-- ==== Sys2Proof/Laws/State.lean ====
section
/-! SUPPORT. One lemma per field per update of the state: what the shared updates change and what they leave. -/
namespace Sys2Proof.Machine
open Sys2Proof

/-! ## `State.answer` -/

@[simp] theorem State.answer_now (s : State) (st : Status) : (s.answer st).now = s.now := rfl
@[simp] theorem State.answer_reply (s : State) (st : Status) : (s.answer st).reply = { status := st } := rfl
@[simp] theorem State.answer_events (s : State) (st : Status) : (s.answer st).events = s.events := rfl
@[simp] theorem State.answer_gaps (s : State) (st : Status) : (s.answer st).gaps = s.gaps := rfl
@[simp] theorem State.answer_sent (s : State) (st : Status) : (s.answer st).sent = s.sent := rfl
@[simp] theorem State.answer_freeCtr (s : State) (st : Status) : (s.answer st).freeCtr = s.freeCtr := rfl
@[simp] theorem State.answer_serial (s : State) (st : Status) : (s.answer st).serial = s.serial := rfl
@[simp] theorem State.answer_fatal (s : State) (st : Status) : (s.answer st).fatal = s.fatal := rfl
@[simp] theorem State.answer_isl (s : State) (st : Status) : (s.answer st).isl = s.isl := rfl
@[simp] theorem State.answer_chans (s : State) (st : Status) : (s.answer st).chans = s.chans := rfl
@[simp] theorem State.answer_eng (s : State) (st : Status) : (s.answer st).eng = s.eng := rfl
@[simp] theorem State.answer_slc (s : State) (st : Status) : (s.answer st).slc = s.slc := rfl
@[simp] theorem State.answer_approx (s : State) (st : Status) : (s.answer st).approx = s.approx := rfl
@[simp] theorem State.answer_power (s : State) (st : Status) : (s.answer st).power = s.power := rfl
@[simp] theorem State.answer_mem (s : State) (st : Status) : (s.answer st).mem = s.mem := rfl
@[simp] theorem State.answer_xlat (s : State) (st : Status) : (s.answer st).xlat = s.xlat := rfl
@[simp] theorem State.answer_sems (s : State) (st : Status) : (s.answer st).sems = s.sems := rfl
@[simp] theorem State.answer_te (s : State) (st : Status) : (s.answer st).te = s.te := rfl
@[simp] theorem State.answer_caddy (s : State) (st : Status) : (s.answer st).caddy = s.caddy := rfl
@[simp] theorem State.answer_queues (s : State) (st : Status) : (s.answer st).queues = s.queues := rfl
@[simp] theorem State.answer_link (s : State) (st : Status) : (s.answer st).link = s.link := rfl
@[simp] theorem State.answer_parcels (s : State) (st : Status) : (s.answer st).parcels = s.parcels := rfl
@[simp] theorem State.answer_jobs (s : State) (st : Status) : (s.answer st).jobs = s.jobs := rfl
@[simp] theorem State.answer_plat (s : State) (st : Status) : (s.answer st).plat = s.plat := rfl
@[simp] theorem State.answer_jobResult (s : State) (st : Status) : (s.answer st).jobResult = s.jobResult := rfl
@[simp] theorem State.answer_nextJobId (s : State) (st : Status) : (s.answer st).nextJobId = s.nextJobId := rfl
@[simp] theorem State.answer_start (s : State) (st : Status) : (s.answer st).start = s.start := rfl
@[simp] theorem State.answer_ledger (s : State) (st : Status) : (s.answer st).ledger = s.ledger := rfl
@[simp] theorem State.answer_dieId (s : State) (st : Status) : (s.answer st).dieId = s.dieId := rfl
@[simp] theorem State.answer_fab (s : State) (st : Status) : (s.answer st).fab = s.fab := rfl
@[simp] theorem State.answer_agree (s : State) (st : Status) : (s.answer st).agree = s.agree := rfl
@[simp] theorem State.answer_dict (s : State) (st : Status) : (s.answer st).dict = s.dict := rfl
@[simp] theorem State.answer_streams (s : State) (st : Status) : (s.answer st).streams = s.streams := rfl
@[simp] theorem State.answer_kettle (s : State) (st : Status) : (s.answer st).kettle = s.kettle := rfl
@[simp] theorem State.answer_sec (s : State) (st : Status) : (s.answer st).sec = s.sec := rfl
@[simp] theorem State.answer_fb (s : State) (st : Status) : (s.answer st).fb = s.fb := rfl
@[simp] theorem State.answer_svc (s : State) (st : Status) : (s.answer st).svc = s.svc := rfl
@[simp] theorem State.answer_pending (s : State) (st : Status) : (s.answer st).pending = s.pending := rfl

/-! ## `State.busy` -/

@[simp] theorem State.busy_now (s : State) (us : Nat) : (s.busy us).now = s.now := rfl
@[simp] theorem State.busy_reply (s : State) (us : Nat) : (s.busy us).reply = { status := .busy, retryUs := us } := rfl
@[simp] theorem State.busy_events (s : State) (us : Nat) : (s.busy us).events = s.events := rfl
@[simp] theorem State.busy_gaps (s : State) (us : Nat) : (s.busy us).gaps = s.gaps := rfl
@[simp] theorem State.busy_sent (s : State) (us : Nat) : (s.busy us).sent = s.sent := rfl
@[simp] theorem State.busy_freeCtr (s : State) (us : Nat) : (s.busy us).freeCtr = s.freeCtr := rfl
@[simp] theorem State.busy_serial (s : State) (us : Nat) : (s.busy us).serial = s.serial := rfl
@[simp] theorem State.busy_fatal (s : State) (us : Nat) : (s.busy us).fatal = s.fatal := rfl
@[simp] theorem State.busy_isl (s : State) (us : Nat) : (s.busy us).isl = s.isl := rfl
@[simp] theorem State.busy_chans (s : State) (us : Nat) : (s.busy us).chans = s.chans := rfl
@[simp] theorem State.busy_eng (s : State) (us : Nat) : (s.busy us).eng = s.eng := rfl
@[simp] theorem State.busy_slc (s : State) (us : Nat) : (s.busy us).slc = s.slc := rfl
@[simp] theorem State.busy_approx (s : State) (us : Nat) : (s.busy us).approx = s.approx := rfl
@[simp] theorem State.busy_power (s : State) (us : Nat) : (s.busy us).power = s.power := rfl
@[simp] theorem State.busy_mem (s : State) (us : Nat) : (s.busy us).mem = s.mem := rfl
@[simp] theorem State.busy_xlat (s : State) (us : Nat) : (s.busy us).xlat = s.xlat := rfl
@[simp] theorem State.busy_sems (s : State) (us : Nat) : (s.busy us).sems = s.sems := rfl
@[simp] theorem State.busy_te (s : State) (us : Nat) : (s.busy us).te = s.te := rfl
@[simp] theorem State.busy_caddy (s : State) (us : Nat) : (s.busy us).caddy = s.caddy := rfl
@[simp] theorem State.busy_queues (s : State) (us : Nat) : (s.busy us).queues = s.queues := rfl
@[simp] theorem State.busy_link (s : State) (us : Nat) : (s.busy us).link = s.link := rfl
@[simp] theorem State.busy_parcels (s : State) (us : Nat) : (s.busy us).parcels = s.parcels := rfl
@[simp] theorem State.busy_jobs (s : State) (us : Nat) : (s.busy us).jobs = s.jobs := rfl
@[simp] theorem State.busy_plat (s : State) (us : Nat) : (s.busy us).plat = s.plat := rfl
@[simp] theorem State.busy_jobResult (s : State) (us : Nat) : (s.busy us).jobResult = s.jobResult := rfl
@[simp] theorem State.busy_nextJobId (s : State) (us : Nat) : (s.busy us).nextJobId = s.nextJobId := rfl
@[simp] theorem State.busy_start (s : State) (us : Nat) : (s.busy us).start = s.start := rfl
@[simp] theorem State.busy_ledger (s : State) (us : Nat) : (s.busy us).ledger = s.ledger := rfl
@[simp] theorem State.busy_dieId (s : State) (us : Nat) : (s.busy us).dieId = s.dieId := rfl
@[simp] theorem State.busy_fab (s : State) (us : Nat) : (s.busy us).fab = s.fab := rfl
@[simp] theorem State.busy_agree (s : State) (us : Nat) : (s.busy us).agree = s.agree := rfl
@[simp] theorem State.busy_dict (s : State) (us : Nat) : (s.busy us).dict = s.dict := rfl
@[simp] theorem State.busy_streams (s : State) (us : Nat) : (s.busy us).streams = s.streams := rfl
@[simp] theorem State.busy_kettle (s : State) (us : Nat) : (s.busy us).kettle = s.kettle := rfl
@[simp] theorem State.busy_sec (s : State) (us : Nat) : (s.busy us).sec = s.sec := rfl
@[simp] theorem State.busy_fb (s : State) (us : Nat) : (s.busy us).fb = s.fb := rfl
@[simp] theorem State.busy_svc (s : State) (us : Nat) : (s.busy us).svc = s.svc := rfl
@[simp] theorem State.busy_pending (s : State) (us : Nat) : (s.busy us).pending = s.pending := rfl

/-! ## `State.give` -/

@[simp] theorem State.give_now (s : State) (data : List Byte) : (s.give data).now = s.now := rfl
@[simp] theorem State.give_reply (s : State) (data : List Byte) : (s.give data).reply = { data := data } := rfl
@[simp] theorem State.give_events (s : State) (data : List Byte) : (s.give data).events = s.events := rfl
@[simp] theorem State.give_gaps (s : State) (data : List Byte) : (s.give data).gaps = s.gaps := rfl
@[simp] theorem State.give_sent (s : State) (data : List Byte) : (s.give data).sent = s.sent := rfl
@[simp] theorem State.give_freeCtr (s : State) (data : List Byte) : (s.give data).freeCtr = s.freeCtr := rfl
@[simp] theorem State.give_serial (s : State) (data : List Byte) : (s.give data).serial = s.serial := rfl
@[simp] theorem State.give_fatal (s : State) (data : List Byte) : (s.give data).fatal = s.fatal := rfl
@[simp] theorem State.give_isl (s : State) (data : List Byte) : (s.give data).isl = s.isl := rfl
@[simp] theorem State.give_chans (s : State) (data : List Byte) : (s.give data).chans = s.chans := rfl
@[simp] theorem State.give_eng (s : State) (data : List Byte) : (s.give data).eng = s.eng := rfl
@[simp] theorem State.give_slc (s : State) (data : List Byte) : (s.give data).slc = s.slc := rfl
@[simp] theorem State.give_approx (s : State) (data : List Byte) : (s.give data).approx = s.approx := rfl
@[simp] theorem State.give_power (s : State) (data : List Byte) : (s.give data).power = s.power := rfl
@[simp] theorem State.give_mem (s : State) (data : List Byte) : (s.give data).mem = s.mem := rfl
@[simp] theorem State.give_xlat (s : State) (data : List Byte) : (s.give data).xlat = s.xlat := rfl
@[simp] theorem State.give_sems (s : State) (data : List Byte) : (s.give data).sems = s.sems := rfl
@[simp] theorem State.give_te (s : State) (data : List Byte) : (s.give data).te = s.te := rfl
@[simp] theorem State.give_caddy (s : State) (data : List Byte) : (s.give data).caddy = s.caddy := rfl
@[simp] theorem State.give_queues (s : State) (data : List Byte) : (s.give data).queues = s.queues := rfl
@[simp] theorem State.give_link (s : State) (data : List Byte) : (s.give data).link = s.link := rfl
@[simp] theorem State.give_parcels (s : State) (data : List Byte) : (s.give data).parcels = s.parcels := rfl
@[simp] theorem State.give_jobs (s : State) (data : List Byte) : (s.give data).jobs = s.jobs := rfl
@[simp] theorem State.give_plat (s : State) (data : List Byte) : (s.give data).plat = s.plat := rfl
@[simp] theorem State.give_jobResult (s : State) (data : List Byte) : (s.give data).jobResult = s.jobResult := rfl
@[simp] theorem State.give_nextJobId (s : State) (data : List Byte) : (s.give data).nextJobId = s.nextJobId := rfl
@[simp] theorem State.give_start (s : State) (data : List Byte) : (s.give data).start = s.start := rfl
@[simp] theorem State.give_ledger (s : State) (data : List Byte) : (s.give data).ledger = s.ledger := rfl
@[simp] theorem State.give_dieId (s : State) (data : List Byte) : (s.give data).dieId = s.dieId := rfl
@[simp] theorem State.give_fab (s : State) (data : List Byte) : (s.give data).fab = s.fab := rfl
@[simp] theorem State.give_agree (s : State) (data : List Byte) : (s.give data).agree = s.agree := rfl
@[simp] theorem State.give_dict (s : State) (data : List Byte) : (s.give data).dict = s.dict := rfl
@[simp] theorem State.give_streams (s : State) (data : List Byte) : (s.give data).streams = s.streams := rfl
@[simp] theorem State.give_kettle (s : State) (data : List Byte) : (s.give data).kettle = s.kettle := rfl
@[simp] theorem State.give_sec (s : State) (data : List Byte) : (s.give data).sec = s.sec := rfl
@[simp] theorem State.give_fb (s : State) (data : List Byte) : (s.give data).fb = s.fb := rfl
@[simp] theorem State.give_svc (s : State) (data : List Byte) : (s.give data).svc = s.svc := rfl
@[simp] theorem State.give_pending (s : State) (data : List Byte) : (s.give data).pending = s.pending := rfl

/-! ## `State.send` -/

@[simp] theorem State.send_now (s : State) (m : Sent) : (s.send m).now = s.now := rfl
@[simp] theorem State.send_reply (s : State) (m : Sent) : (s.send m).reply = s.reply := rfl
@[simp] theorem State.send_events (s : State) (m : Sent) : (s.send m).events = s.events := rfl
@[simp] theorem State.send_gaps (s : State) (m : Sent) : (s.send m).gaps = s.gaps := rfl
@[simp] theorem State.send_sent (s : State) (m : Sent) : (s.send m).sent = m :: s.sent := rfl
@[simp] theorem State.send_freeCtr (s : State) (m : Sent) : (s.send m).freeCtr = s.freeCtr := rfl
@[simp] theorem State.send_serial (s : State) (m : Sent) : (s.send m).serial = s.serial := rfl
@[simp] theorem State.send_fatal (s : State) (m : Sent) : (s.send m).fatal = s.fatal := rfl
@[simp] theorem State.send_isl (s : State) (m : Sent) : (s.send m).isl = s.isl := rfl
@[simp] theorem State.send_chans (s : State) (m : Sent) : (s.send m).chans = s.chans := rfl
@[simp] theorem State.send_eng (s : State) (m : Sent) : (s.send m).eng = s.eng := rfl
@[simp] theorem State.send_slc (s : State) (m : Sent) : (s.send m).slc = s.slc := rfl
@[simp] theorem State.send_approx (s : State) (m : Sent) : (s.send m).approx = s.approx := rfl
@[simp] theorem State.send_power (s : State) (m : Sent) : (s.send m).power = s.power := rfl
@[simp] theorem State.send_mem (s : State) (m : Sent) : (s.send m).mem = s.mem := rfl
@[simp] theorem State.send_xlat (s : State) (m : Sent) : (s.send m).xlat = s.xlat := rfl
@[simp] theorem State.send_sems (s : State) (m : Sent) : (s.send m).sems = s.sems := rfl
@[simp] theorem State.send_te (s : State) (m : Sent) : (s.send m).te = s.te := rfl
@[simp] theorem State.send_caddy (s : State) (m : Sent) : (s.send m).caddy = s.caddy := rfl
@[simp] theorem State.send_queues (s : State) (m : Sent) : (s.send m).queues = s.queues := rfl
@[simp] theorem State.send_link (s : State) (m : Sent) : (s.send m).link = s.link := rfl
@[simp] theorem State.send_parcels (s : State) (m : Sent) : (s.send m).parcels = s.parcels := rfl
@[simp] theorem State.send_jobs (s : State) (m : Sent) : (s.send m).jobs = s.jobs := rfl
@[simp] theorem State.send_plat (s : State) (m : Sent) : (s.send m).plat = s.plat := rfl
@[simp] theorem State.send_jobResult (s : State) (m : Sent) : (s.send m).jobResult = s.jobResult := rfl
@[simp] theorem State.send_nextJobId (s : State) (m : Sent) : (s.send m).nextJobId = s.nextJobId := rfl
@[simp] theorem State.send_start (s : State) (m : Sent) : (s.send m).start = s.start := rfl
@[simp] theorem State.send_ledger (s : State) (m : Sent) : (s.send m).ledger = s.ledger := rfl
@[simp] theorem State.send_dieId (s : State) (m : Sent) : (s.send m).dieId = s.dieId := rfl
@[simp] theorem State.send_fab (s : State) (m : Sent) : (s.send m).fab = s.fab := rfl
@[simp] theorem State.send_agree (s : State) (m : Sent) : (s.send m).agree = s.agree := rfl
@[simp] theorem State.send_dict (s : State) (m : Sent) : (s.send m).dict = s.dict := rfl
@[simp] theorem State.send_streams (s : State) (m : Sent) : (s.send m).streams = s.streams := rfl
@[simp] theorem State.send_kettle (s : State) (m : Sent) : (s.send m).kettle = s.kettle := rfl
@[simp] theorem State.send_sec (s : State) (m : Sent) : (s.send m).sec = s.sec := rfl
@[simp] theorem State.send_fb (s : State) (m : Sent) : (s.send m).fb = s.fb := rfl
@[simp] theorem State.send_svc (s : State) (m : Sent) : (s.send m).svc = s.svc := rfl
@[simp] theorem State.send_pending (s : State) (m : Sent) : (s.send m).pending = s.pending := rfl

/-! ## `State.reach` -/

@[simp] theorem State.reach_now (s : State) (t : Nat) : (s.reach t).now = Nat.max s.now t := rfl
@[simp] theorem State.reach_reply (s : State) (t : Nat) : (s.reach t).reply = s.reply := rfl
@[simp] theorem State.reach_events (s : State) (t : Nat) : (s.reach t).events = s.events := rfl
@[simp] theorem State.reach_gaps (s : State) (t : Nat) : (s.reach t).gaps = s.gaps := rfl
@[simp] theorem State.reach_sent (s : State) (t : Nat) : (s.reach t).sent = s.sent := rfl
@[simp] theorem State.reach_freeCtr (s : State) (t : Nat) : (s.reach t).freeCtr = s.freeCtr := rfl
@[simp] theorem State.reach_serial (s : State) (t : Nat) : (s.reach t).serial = s.serial := rfl
@[simp] theorem State.reach_fatal (s : State) (t : Nat) : (s.reach t).fatal = s.fatal := rfl
@[simp] theorem State.reach_isl (s : State) (t : Nat) : (s.reach t).isl = s.isl := rfl
@[simp] theorem State.reach_chans (s : State) (t : Nat) : (s.reach t).chans = s.chans := rfl
@[simp] theorem State.reach_eng (s : State) (t : Nat) : (s.reach t).eng = s.eng := rfl
@[simp] theorem State.reach_slc (s : State) (t : Nat) : (s.reach t).slc = s.slc := rfl
@[simp] theorem State.reach_approx (s : State) (t : Nat) : (s.reach t).approx = s.approx := rfl
@[simp] theorem State.reach_power (s : State) (t : Nat) : (s.reach t).power = s.power := rfl
@[simp] theorem State.reach_mem (s : State) (t : Nat) : (s.reach t).mem = s.mem := rfl
@[simp] theorem State.reach_xlat (s : State) (t : Nat) : (s.reach t).xlat = s.xlat := rfl
@[simp] theorem State.reach_sems (s : State) (t : Nat) : (s.reach t).sems = s.sems := rfl
@[simp] theorem State.reach_te (s : State) (t : Nat) : (s.reach t).te = s.te := rfl
@[simp] theorem State.reach_caddy (s : State) (t : Nat) : (s.reach t).caddy = s.caddy := rfl
@[simp] theorem State.reach_queues (s : State) (t : Nat) : (s.reach t).queues = s.queues := rfl
@[simp] theorem State.reach_link (s : State) (t : Nat) : (s.reach t).link = s.link := rfl
@[simp] theorem State.reach_parcels (s : State) (t : Nat) : (s.reach t).parcels = s.parcels := rfl
@[simp] theorem State.reach_jobs (s : State) (t : Nat) : (s.reach t).jobs = s.jobs := rfl
@[simp] theorem State.reach_plat (s : State) (t : Nat) : (s.reach t).plat = s.plat := rfl
@[simp] theorem State.reach_jobResult (s : State) (t : Nat) : (s.reach t).jobResult = s.jobResult := rfl
@[simp] theorem State.reach_nextJobId (s : State) (t : Nat) : (s.reach t).nextJobId = s.nextJobId := rfl
@[simp] theorem State.reach_start (s : State) (t : Nat) : (s.reach t).start = s.start := rfl
@[simp] theorem State.reach_ledger (s : State) (t : Nat) : (s.reach t).ledger = s.ledger := rfl
@[simp] theorem State.reach_dieId (s : State) (t : Nat) : (s.reach t).dieId = s.dieId := rfl
@[simp] theorem State.reach_fab (s : State) (t : Nat) : (s.reach t).fab = s.fab := rfl
@[simp] theorem State.reach_agree (s : State) (t : Nat) : (s.reach t).agree = s.agree := rfl
@[simp] theorem State.reach_dict (s : State) (t : Nat) : (s.reach t).dict = s.dict := rfl
@[simp] theorem State.reach_streams (s : State) (t : Nat) : (s.reach t).streams = s.streams := rfl
@[simp] theorem State.reach_kettle (s : State) (t : Nat) : (s.reach t).kettle = s.kettle := rfl
@[simp] theorem State.reach_sec (s : State) (t : Nat) : (s.reach t).sec = s.sec := rfl
@[simp] theorem State.reach_fb (s : State) (t : Nat) : (s.reach t).fb = s.fb := rfl
@[simp] theorem State.reach_svc (s : State) (t : Nat) : (s.reach t).svc = s.svc := rfl
@[simp] theorem State.reach_pending (s : State) (t : Nat) : (s.reach t).pending = s.pending := rfl

/-! ## `State.updEng` -/

@[simp] theorem State.updEng_now (s : State) (n : Nat) (f : Engine → Engine) : (s.updEng n f).now = s.now := rfl
@[simp] theorem State.updEng_reply (s : State) (n : Nat) (f : Engine → Engine) : (s.updEng n f).reply = s.reply := rfl
@[simp] theorem State.updEng_events (s : State) (n : Nat) (f : Engine → Engine) : (s.updEng n f).events = s.events := rfl
@[simp] theorem State.updEng_gaps (s : State) (n : Nat) (f : Engine → Engine) : (s.updEng n f).gaps = s.gaps := rfl
@[simp] theorem State.updEng_sent (s : State) (n : Nat) (f : Engine → Engine) : (s.updEng n f).sent = s.sent := rfl
@[simp] theorem State.updEng_freeCtr (s : State) (n : Nat) (f : Engine → Engine) : (s.updEng n f).freeCtr = s.freeCtr := rfl
@[simp] theorem State.updEng_serial (s : State) (n : Nat) (f : Engine → Engine) : (s.updEng n f).serial = s.serial := rfl
@[simp] theorem State.updEng_fatal (s : State) (n : Nat) (f : Engine → Engine) : (s.updEng n f).fatal = s.fatal := rfl
@[simp] theorem State.updEng_isl (s : State) (n : Nat) (f : Engine → Engine) : (s.updEng n f).isl = s.isl := rfl
@[simp] theorem State.updEng_chans (s : State) (n : Nat) (f : Engine → Engine) : (s.updEng n f).chans = s.chans := rfl
@[simp] theorem State.updEng_eng (s : State) (n : Nat) (f : Engine → Engine) : (s.updEng n f).eng = s.eng.upd n f := rfl
@[simp] theorem State.updEng_slc (s : State) (n : Nat) (f : Engine → Engine) : (s.updEng n f).slc = s.slc := rfl
@[simp] theorem State.updEng_approx (s : State) (n : Nat) (f : Engine → Engine) : (s.updEng n f).approx = s.approx := rfl
@[simp] theorem State.updEng_power (s : State) (n : Nat) (f : Engine → Engine) : (s.updEng n f).power = s.power := rfl
@[simp] theorem State.updEng_mem (s : State) (n : Nat) (f : Engine → Engine) : (s.updEng n f).mem = s.mem := rfl
@[simp] theorem State.updEng_xlat (s : State) (n : Nat) (f : Engine → Engine) : (s.updEng n f).xlat = s.xlat := rfl
@[simp] theorem State.updEng_sems (s : State) (n : Nat) (f : Engine → Engine) : (s.updEng n f).sems = s.sems := rfl
@[simp] theorem State.updEng_te (s : State) (n : Nat) (f : Engine → Engine) : (s.updEng n f).te = s.te := rfl
@[simp] theorem State.updEng_caddy (s : State) (n : Nat) (f : Engine → Engine) : (s.updEng n f).caddy = s.caddy := rfl
@[simp] theorem State.updEng_queues (s : State) (n : Nat) (f : Engine → Engine) : (s.updEng n f).queues = s.queues := rfl
@[simp] theorem State.updEng_link (s : State) (n : Nat) (f : Engine → Engine) : (s.updEng n f).link = s.link := rfl
@[simp] theorem State.updEng_parcels (s : State) (n : Nat) (f : Engine → Engine) : (s.updEng n f).parcels = s.parcels := rfl
@[simp] theorem State.updEng_jobs (s : State) (n : Nat) (f : Engine → Engine) : (s.updEng n f).jobs = s.jobs := rfl
@[simp] theorem State.updEng_plat (s : State) (n : Nat) (f : Engine → Engine) : (s.updEng n f).plat = s.plat := rfl
@[simp] theorem State.updEng_jobResult (s : State) (n : Nat) (f : Engine → Engine) : (s.updEng n f).jobResult = s.jobResult := rfl
@[simp] theorem State.updEng_nextJobId (s : State) (n : Nat) (f : Engine → Engine) : (s.updEng n f).nextJobId = s.nextJobId := rfl
@[simp] theorem State.updEng_start (s : State) (n : Nat) (f : Engine → Engine) : (s.updEng n f).start = s.start := rfl
@[simp] theorem State.updEng_ledger (s : State) (n : Nat) (f : Engine → Engine) : (s.updEng n f).ledger = s.ledger := rfl
@[simp] theorem State.updEng_dieId (s : State) (n : Nat) (f : Engine → Engine) : (s.updEng n f).dieId = s.dieId := rfl
@[simp] theorem State.updEng_fab (s : State) (n : Nat) (f : Engine → Engine) : (s.updEng n f).fab = s.fab := rfl
@[simp] theorem State.updEng_agree (s : State) (n : Nat) (f : Engine → Engine) : (s.updEng n f).agree = s.agree := rfl
@[simp] theorem State.updEng_dict (s : State) (n : Nat) (f : Engine → Engine) : (s.updEng n f).dict = s.dict := rfl
@[simp] theorem State.updEng_streams (s : State) (n : Nat) (f : Engine → Engine) : (s.updEng n f).streams = s.streams := rfl
@[simp] theorem State.updEng_kettle (s : State) (n : Nat) (f : Engine → Engine) : (s.updEng n f).kettle = s.kettle := rfl
@[simp] theorem State.updEng_sec (s : State) (n : Nat) (f : Engine → Engine) : (s.updEng n f).sec = s.sec := rfl
@[simp] theorem State.updEng_fb (s : State) (n : Nat) (f : Engine → Engine) : (s.updEng n f).fb = s.fb := rfl
@[simp] theorem State.updEng_svc (s : State) (n : Nat) (f : Engine → Engine) : (s.updEng n f).svc = s.svc := rfl
@[simp] theorem State.updEng_pending (s : State) (n : Nat) (f : Engine → Engine) : (s.updEng n f).pending = s.pending := rfl

/-! ## `State.updSlc` -/

@[simp] theorem State.updSlc_now (s : State) (n : Nat) (f : Slice → Slice) : (s.updSlc n f).now = s.now := rfl
@[simp] theorem State.updSlc_reply (s : State) (n : Nat) (f : Slice → Slice) : (s.updSlc n f).reply = s.reply := rfl
@[simp] theorem State.updSlc_events (s : State) (n : Nat) (f : Slice → Slice) : (s.updSlc n f).events = s.events := rfl
@[simp] theorem State.updSlc_gaps (s : State) (n : Nat) (f : Slice → Slice) : (s.updSlc n f).gaps = s.gaps := rfl
@[simp] theorem State.updSlc_sent (s : State) (n : Nat) (f : Slice → Slice) : (s.updSlc n f).sent = s.sent := rfl
@[simp] theorem State.updSlc_freeCtr (s : State) (n : Nat) (f : Slice → Slice) : (s.updSlc n f).freeCtr = s.freeCtr := rfl
@[simp] theorem State.updSlc_serial (s : State) (n : Nat) (f : Slice → Slice) : (s.updSlc n f).serial = s.serial := rfl
@[simp] theorem State.updSlc_fatal (s : State) (n : Nat) (f : Slice → Slice) : (s.updSlc n f).fatal = s.fatal := rfl
@[simp] theorem State.updSlc_isl (s : State) (n : Nat) (f : Slice → Slice) : (s.updSlc n f).isl = s.isl := rfl
@[simp] theorem State.updSlc_chans (s : State) (n : Nat) (f : Slice → Slice) : (s.updSlc n f).chans = s.chans := rfl
@[simp] theorem State.updSlc_eng (s : State) (n : Nat) (f : Slice → Slice) : (s.updSlc n f).eng = s.eng := rfl
@[simp] theorem State.updSlc_slc (s : State) (n : Nat) (f : Slice → Slice) : (s.updSlc n f).slc = s.slc.upd n f := rfl
@[simp] theorem State.updSlc_approx (s : State) (n : Nat) (f : Slice → Slice) : (s.updSlc n f).approx = s.approx := rfl
@[simp] theorem State.updSlc_power (s : State) (n : Nat) (f : Slice → Slice) : (s.updSlc n f).power = s.power := rfl
@[simp] theorem State.updSlc_mem (s : State) (n : Nat) (f : Slice → Slice) : (s.updSlc n f).mem = s.mem := rfl
@[simp] theorem State.updSlc_xlat (s : State) (n : Nat) (f : Slice → Slice) : (s.updSlc n f).xlat = s.xlat := rfl
@[simp] theorem State.updSlc_sems (s : State) (n : Nat) (f : Slice → Slice) : (s.updSlc n f).sems = s.sems := rfl
@[simp] theorem State.updSlc_te (s : State) (n : Nat) (f : Slice → Slice) : (s.updSlc n f).te = s.te := rfl
@[simp] theorem State.updSlc_caddy (s : State) (n : Nat) (f : Slice → Slice) : (s.updSlc n f).caddy = s.caddy := rfl
@[simp] theorem State.updSlc_queues (s : State) (n : Nat) (f : Slice → Slice) : (s.updSlc n f).queues = s.queues := rfl
@[simp] theorem State.updSlc_link (s : State) (n : Nat) (f : Slice → Slice) : (s.updSlc n f).link = s.link := rfl
@[simp] theorem State.updSlc_parcels (s : State) (n : Nat) (f : Slice → Slice) : (s.updSlc n f).parcels = s.parcels := rfl
@[simp] theorem State.updSlc_jobs (s : State) (n : Nat) (f : Slice → Slice) : (s.updSlc n f).jobs = s.jobs := rfl
@[simp] theorem State.updSlc_plat (s : State) (n : Nat) (f : Slice → Slice) : (s.updSlc n f).plat = s.plat := rfl
@[simp] theorem State.updSlc_jobResult (s : State) (n : Nat) (f : Slice → Slice) : (s.updSlc n f).jobResult = s.jobResult := rfl
@[simp] theorem State.updSlc_nextJobId (s : State) (n : Nat) (f : Slice → Slice) : (s.updSlc n f).nextJobId = s.nextJobId := rfl
@[simp] theorem State.updSlc_start (s : State) (n : Nat) (f : Slice → Slice) : (s.updSlc n f).start = s.start := rfl
@[simp] theorem State.updSlc_ledger (s : State) (n : Nat) (f : Slice → Slice) : (s.updSlc n f).ledger = s.ledger := rfl
@[simp] theorem State.updSlc_dieId (s : State) (n : Nat) (f : Slice → Slice) : (s.updSlc n f).dieId = s.dieId := rfl
@[simp] theorem State.updSlc_fab (s : State) (n : Nat) (f : Slice → Slice) : (s.updSlc n f).fab = s.fab := rfl
@[simp] theorem State.updSlc_agree (s : State) (n : Nat) (f : Slice → Slice) : (s.updSlc n f).agree = s.agree := rfl
@[simp] theorem State.updSlc_dict (s : State) (n : Nat) (f : Slice → Slice) : (s.updSlc n f).dict = s.dict := rfl
@[simp] theorem State.updSlc_streams (s : State) (n : Nat) (f : Slice → Slice) : (s.updSlc n f).streams = s.streams := rfl
@[simp] theorem State.updSlc_kettle (s : State) (n : Nat) (f : Slice → Slice) : (s.updSlc n f).kettle = s.kettle := rfl
@[simp] theorem State.updSlc_sec (s : State) (n : Nat) (f : Slice → Slice) : (s.updSlc n f).sec = s.sec := rfl
@[simp] theorem State.updSlc_fb (s : State) (n : Nat) (f : Slice → Slice) : (s.updSlc n f).fb = s.fb := rfl
@[simp] theorem State.updSlc_svc (s : State) (n : Nat) (f : Slice → Slice) : (s.updSlc n f).svc = s.svc := rfl
@[simp] theorem State.updSlc_pending (s : State) (n : Nat) (f : Slice → Slice) : (s.updSlc n f).pending = s.pending := rfl

/-! ## `State.updPar` -/

@[simp] theorem State.updPar_now (s : State) (p : Nat) (f : Parcel → Parcel) : (s.updPar p f).now = s.now := rfl
@[simp] theorem State.updPar_reply (s : State) (p : Nat) (f : Parcel → Parcel) : (s.updPar p f).reply = s.reply := rfl
@[simp] theorem State.updPar_events (s : State) (p : Nat) (f : Parcel → Parcel) : (s.updPar p f).events = s.events := rfl
@[simp] theorem State.updPar_gaps (s : State) (p : Nat) (f : Parcel → Parcel) : (s.updPar p f).gaps = s.gaps := rfl
@[simp] theorem State.updPar_sent (s : State) (p : Nat) (f : Parcel → Parcel) : (s.updPar p f).sent = s.sent := rfl
@[simp] theorem State.updPar_freeCtr (s : State) (p : Nat) (f : Parcel → Parcel) : (s.updPar p f).freeCtr = s.freeCtr := rfl
@[simp] theorem State.updPar_serial (s : State) (p : Nat) (f : Parcel → Parcel) : (s.updPar p f).serial = s.serial := rfl
@[simp] theorem State.updPar_fatal (s : State) (p : Nat) (f : Parcel → Parcel) : (s.updPar p f).fatal = s.fatal := rfl
@[simp] theorem State.updPar_isl (s : State) (p : Nat) (f : Parcel → Parcel) : (s.updPar p f).isl = s.isl := rfl
@[simp] theorem State.updPar_chans (s : State) (p : Nat) (f : Parcel → Parcel) : (s.updPar p f).chans = s.chans := rfl
@[simp] theorem State.updPar_eng (s : State) (p : Nat) (f : Parcel → Parcel) : (s.updPar p f).eng = s.eng := rfl
@[simp] theorem State.updPar_slc (s : State) (p : Nat) (f : Parcel → Parcel) : (s.updPar p f).slc = s.slc := rfl
@[simp] theorem State.updPar_approx (s : State) (p : Nat) (f : Parcel → Parcel) : (s.updPar p f).approx = s.approx := rfl
@[simp] theorem State.updPar_power (s : State) (p : Nat) (f : Parcel → Parcel) : (s.updPar p f).power = s.power := rfl
@[simp] theorem State.updPar_mem (s : State) (p : Nat) (f : Parcel → Parcel) : (s.updPar p f).mem = s.mem := rfl
@[simp] theorem State.updPar_xlat (s : State) (p : Nat) (f : Parcel → Parcel) : (s.updPar p f).xlat = s.xlat := rfl
@[simp] theorem State.updPar_sems (s : State) (p : Nat) (f : Parcel → Parcel) : (s.updPar p f).sems = s.sems := rfl
@[simp] theorem State.updPar_te (s : State) (p : Nat) (f : Parcel → Parcel) : (s.updPar p f).te = s.te := rfl
@[simp] theorem State.updPar_caddy (s : State) (p : Nat) (f : Parcel → Parcel) : (s.updPar p f).caddy = s.caddy := rfl
@[simp] theorem State.updPar_queues (s : State) (p : Nat) (f : Parcel → Parcel) : (s.updPar p f).queues = s.queues := rfl
@[simp] theorem State.updPar_link (s : State) (p : Nat) (f : Parcel → Parcel) : (s.updPar p f).link = s.link := rfl
@[simp] theorem State.updPar_parcels (s : State) (p : Nat) (f : Parcel → Parcel) : (s.updPar p f).parcels = s.parcels.upd p f := rfl
@[simp] theorem State.updPar_jobs (s : State) (p : Nat) (f : Parcel → Parcel) : (s.updPar p f).jobs = s.jobs := rfl
@[simp] theorem State.updPar_plat (s : State) (p : Nat) (f : Parcel → Parcel) : (s.updPar p f).plat = s.plat := rfl
@[simp] theorem State.updPar_jobResult (s : State) (p : Nat) (f : Parcel → Parcel) : (s.updPar p f).jobResult = s.jobResult := rfl
@[simp] theorem State.updPar_nextJobId (s : State) (p : Nat) (f : Parcel → Parcel) : (s.updPar p f).nextJobId = s.nextJobId := rfl
@[simp] theorem State.updPar_start (s : State) (p : Nat) (f : Parcel → Parcel) : (s.updPar p f).start = s.start := rfl
@[simp] theorem State.updPar_ledger (s : State) (p : Nat) (f : Parcel → Parcel) : (s.updPar p f).ledger = s.ledger := rfl
@[simp] theorem State.updPar_dieId (s : State) (p : Nat) (f : Parcel → Parcel) : (s.updPar p f).dieId = s.dieId := rfl
@[simp] theorem State.updPar_fab (s : State) (p : Nat) (f : Parcel → Parcel) : (s.updPar p f).fab = s.fab := rfl
@[simp] theorem State.updPar_agree (s : State) (p : Nat) (f : Parcel → Parcel) : (s.updPar p f).agree = s.agree := rfl
@[simp] theorem State.updPar_dict (s : State) (p : Nat) (f : Parcel → Parcel) : (s.updPar p f).dict = s.dict := rfl
@[simp] theorem State.updPar_streams (s : State) (p : Nat) (f : Parcel → Parcel) : (s.updPar p f).streams = s.streams := rfl
@[simp] theorem State.updPar_kettle (s : State) (p : Nat) (f : Parcel → Parcel) : (s.updPar p f).kettle = s.kettle := rfl
@[simp] theorem State.updPar_sec (s : State) (p : Nat) (f : Parcel → Parcel) : (s.updPar p f).sec = s.sec := rfl
@[simp] theorem State.updPar_fb (s : State) (p : Nat) (f : Parcel → Parcel) : (s.updPar p f).fb = s.fb := rfl
@[simp] theorem State.updPar_svc (s : State) (p : Nat) (f : Parcel → Parcel) : (s.updPar p f).svc = s.svc := rfl
@[simp] theorem State.updPar_pending (s : State) (p : Nat) (f : Parcel → Parcel) : (s.updPar p f).pending = s.pending := rfl

/-! ## `State.updQ` -/

@[simp] theorem State.updQ_now (s : State) (q : Nat) (f : Queue → Queue) : (s.updQ q f).now = s.now := rfl
@[simp] theorem State.updQ_reply (s : State) (q : Nat) (f : Queue → Queue) : (s.updQ q f).reply = s.reply := rfl
@[simp] theorem State.updQ_events (s : State) (q : Nat) (f : Queue → Queue) : (s.updQ q f).events = s.events := rfl
@[simp] theorem State.updQ_gaps (s : State) (q : Nat) (f : Queue → Queue) : (s.updQ q f).gaps = s.gaps := rfl
@[simp] theorem State.updQ_sent (s : State) (q : Nat) (f : Queue → Queue) : (s.updQ q f).sent = s.sent := rfl
@[simp] theorem State.updQ_freeCtr (s : State) (q : Nat) (f : Queue → Queue) : (s.updQ q f).freeCtr = s.freeCtr := rfl
@[simp] theorem State.updQ_serial (s : State) (q : Nat) (f : Queue → Queue) : (s.updQ q f).serial = s.serial := rfl
@[simp] theorem State.updQ_fatal (s : State) (q : Nat) (f : Queue → Queue) : (s.updQ q f).fatal = s.fatal := rfl
@[simp] theorem State.updQ_isl (s : State) (q : Nat) (f : Queue → Queue) : (s.updQ q f).isl = s.isl := rfl
@[simp] theorem State.updQ_chans (s : State) (q : Nat) (f : Queue → Queue) : (s.updQ q f).chans = s.chans := rfl
@[simp] theorem State.updQ_eng (s : State) (q : Nat) (f : Queue → Queue) : (s.updQ q f).eng = s.eng := rfl
@[simp] theorem State.updQ_slc (s : State) (q : Nat) (f : Queue → Queue) : (s.updQ q f).slc = s.slc := rfl
@[simp] theorem State.updQ_approx (s : State) (q : Nat) (f : Queue → Queue) : (s.updQ q f).approx = s.approx := rfl
@[simp] theorem State.updQ_power (s : State) (q : Nat) (f : Queue → Queue) : (s.updQ q f).power = s.power := rfl
@[simp] theorem State.updQ_mem (s : State) (q : Nat) (f : Queue → Queue) : (s.updQ q f).mem = s.mem := rfl
@[simp] theorem State.updQ_xlat (s : State) (q : Nat) (f : Queue → Queue) : (s.updQ q f).xlat = s.xlat := rfl
@[simp] theorem State.updQ_sems (s : State) (q : Nat) (f : Queue → Queue) : (s.updQ q f).sems = s.sems := rfl
@[simp] theorem State.updQ_te (s : State) (q : Nat) (f : Queue → Queue) : (s.updQ q f).te = s.te := rfl
@[simp] theorem State.updQ_caddy (s : State) (q : Nat) (f : Queue → Queue) : (s.updQ q f).caddy = s.caddy := rfl
@[simp] theorem State.updQ_queues (s : State) (q : Nat) (f : Queue → Queue) : (s.updQ q f).queues = s.queues.upd q f := rfl
@[simp] theorem State.updQ_link (s : State) (q : Nat) (f : Queue → Queue) : (s.updQ q f).link = s.link := rfl
@[simp] theorem State.updQ_parcels (s : State) (q : Nat) (f : Queue → Queue) : (s.updQ q f).parcels = s.parcels := rfl
@[simp] theorem State.updQ_jobs (s : State) (q : Nat) (f : Queue → Queue) : (s.updQ q f).jobs = s.jobs := rfl
@[simp] theorem State.updQ_plat (s : State) (q : Nat) (f : Queue → Queue) : (s.updQ q f).plat = s.plat := rfl
@[simp] theorem State.updQ_jobResult (s : State) (q : Nat) (f : Queue → Queue) : (s.updQ q f).jobResult = s.jobResult := rfl
@[simp] theorem State.updQ_nextJobId (s : State) (q : Nat) (f : Queue → Queue) : (s.updQ q f).nextJobId = s.nextJobId := rfl
@[simp] theorem State.updQ_start (s : State) (q : Nat) (f : Queue → Queue) : (s.updQ q f).start = s.start := rfl
@[simp] theorem State.updQ_ledger (s : State) (q : Nat) (f : Queue → Queue) : (s.updQ q f).ledger = s.ledger := rfl
@[simp] theorem State.updQ_dieId (s : State) (q : Nat) (f : Queue → Queue) : (s.updQ q f).dieId = s.dieId := rfl
@[simp] theorem State.updQ_fab (s : State) (q : Nat) (f : Queue → Queue) : (s.updQ q f).fab = s.fab := rfl
@[simp] theorem State.updQ_agree (s : State) (q : Nat) (f : Queue → Queue) : (s.updQ q f).agree = s.agree := rfl
@[simp] theorem State.updQ_dict (s : State) (q : Nat) (f : Queue → Queue) : (s.updQ q f).dict = s.dict := rfl
@[simp] theorem State.updQ_streams (s : State) (q : Nat) (f : Queue → Queue) : (s.updQ q f).streams = s.streams := rfl
@[simp] theorem State.updQ_kettle (s : State) (q : Nat) (f : Queue → Queue) : (s.updQ q f).kettle = s.kettle := rfl
@[simp] theorem State.updQ_sec (s : State) (q : Nat) (f : Queue → Queue) : (s.updQ q f).sec = s.sec := rfl
@[simp] theorem State.updQ_fb (s : State) (q : Nat) (f : Queue → Queue) : (s.updQ q f).fb = s.fb := rfl
@[simp] theorem State.updQ_svc (s : State) (q : Nat) (f : Queue → Queue) : (s.updQ q f).svc = s.svc := rfl
@[simp] theorem State.updQ_pending (s : State) (q : Nat) (f : Queue → Queue) : (s.updQ q f).pending = s.pending := rfl

/-! ## `State.updJob` -/

@[simp] theorem State.updJob_now (s : State) (p : Nat) (slot : Nat) (f : Job → Job) : (s.updJob p slot f).now = s.now := rfl
@[simp] theorem State.updJob_reply (s : State) (p : Nat) (slot : Nat) (f : Job → Job) : (s.updJob p slot f).reply = s.reply := rfl
@[simp] theorem State.updJob_events (s : State) (p : Nat) (slot : Nat) (f : Job → Job) : (s.updJob p slot f).events = s.events := rfl
@[simp] theorem State.updJob_gaps (s : State) (p : Nat) (slot : Nat) (f : Job → Job) : (s.updJob p slot f).gaps = s.gaps := rfl
@[simp] theorem State.updJob_sent (s : State) (p : Nat) (slot : Nat) (f : Job → Job) : (s.updJob p slot f).sent = s.sent := rfl
@[simp] theorem State.updJob_freeCtr (s : State) (p : Nat) (slot : Nat) (f : Job → Job) : (s.updJob p slot f).freeCtr = s.freeCtr := rfl
@[simp] theorem State.updJob_serial (s : State) (p : Nat) (slot : Nat) (f : Job → Job) : (s.updJob p slot f).serial = s.serial := rfl
@[simp] theorem State.updJob_fatal (s : State) (p : Nat) (slot : Nat) (f : Job → Job) : (s.updJob p slot f).fatal = s.fatal := rfl
@[simp] theorem State.updJob_isl (s : State) (p : Nat) (slot : Nat) (f : Job → Job) : (s.updJob p slot f).isl = s.isl := rfl
@[simp] theorem State.updJob_chans (s : State) (p : Nat) (slot : Nat) (f : Job → Job) : (s.updJob p slot f).chans = s.chans := rfl
@[simp] theorem State.updJob_eng (s : State) (p : Nat) (slot : Nat) (f : Job → Job) : (s.updJob p slot f).eng = s.eng := rfl
@[simp] theorem State.updJob_slc (s : State) (p : Nat) (slot : Nat) (f : Job → Job) : (s.updJob p slot f).slc = s.slc := rfl
@[simp] theorem State.updJob_approx (s : State) (p : Nat) (slot : Nat) (f : Job → Job) : (s.updJob p slot f).approx = s.approx := rfl
@[simp] theorem State.updJob_power (s : State) (p : Nat) (slot : Nat) (f : Job → Job) : (s.updJob p slot f).power = s.power := rfl
@[simp] theorem State.updJob_mem (s : State) (p : Nat) (slot : Nat) (f : Job → Job) : (s.updJob p slot f).mem = s.mem := rfl
@[simp] theorem State.updJob_xlat (s : State) (p : Nat) (slot : Nat) (f : Job → Job) : (s.updJob p slot f).xlat = s.xlat := rfl
@[simp] theorem State.updJob_sems (s : State) (p : Nat) (slot : Nat) (f : Job → Job) : (s.updJob p slot f).sems = s.sems := rfl
@[simp] theorem State.updJob_te (s : State) (p : Nat) (slot : Nat) (f : Job → Job) : (s.updJob p slot f).te = s.te := rfl
@[simp] theorem State.updJob_caddy (s : State) (p : Nat) (slot : Nat) (f : Job → Job) : (s.updJob p slot f).caddy = s.caddy := rfl
@[simp] theorem State.updJob_queues (s : State) (p : Nat) (slot : Nat) (f : Job → Job) : (s.updJob p slot f).queues = s.queues := rfl
@[simp] theorem State.updJob_link (s : State) (p : Nat) (slot : Nat) (f : Job → Job) : (s.updJob p slot f).link = s.link := rfl
@[simp] theorem State.updJob_parcels (s : State) (p : Nat) (slot : Nat) (f : Job → Job) : (s.updJob p slot f).parcels = s.parcels := rfl
@[simp] theorem State.updJob_jobs (s : State) (p : Nat) (slot : Nat) (f : Job → Job) : (s.updJob p slot f).jobs = s.jobs.upd (p * 16 + slot) f := rfl
@[simp] theorem State.updJob_plat (s : State) (p : Nat) (slot : Nat) (f : Job → Job) : (s.updJob p slot f).plat = s.plat := rfl
@[simp] theorem State.updJob_jobResult (s : State) (p : Nat) (slot : Nat) (f : Job → Job) : (s.updJob p slot f).jobResult = s.jobResult := rfl
@[simp] theorem State.updJob_nextJobId (s : State) (p : Nat) (slot : Nat) (f : Job → Job) : (s.updJob p slot f).nextJobId = s.nextJobId := rfl
@[simp] theorem State.updJob_start (s : State) (p : Nat) (slot : Nat) (f : Job → Job) : (s.updJob p slot f).start = s.start := rfl
@[simp] theorem State.updJob_ledger (s : State) (p : Nat) (slot : Nat) (f : Job → Job) : (s.updJob p slot f).ledger = s.ledger := rfl
@[simp] theorem State.updJob_dieId (s : State) (p : Nat) (slot : Nat) (f : Job → Job) : (s.updJob p slot f).dieId = s.dieId := rfl
@[simp] theorem State.updJob_fab (s : State) (p : Nat) (slot : Nat) (f : Job → Job) : (s.updJob p slot f).fab = s.fab := rfl
@[simp] theorem State.updJob_agree (s : State) (p : Nat) (slot : Nat) (f : Job → Job) : (s.updJob p slot f).agree = s.agree := rfl
@[simp] theorem State.updJob_dict (s : State) (p : Nat) (slot : Nat) (f : Job → Job) : (s.updJob p slot f).dict = s.dict := rfl
@[simp] theorem State.updJob_streams (s : State) (p : Nat) (slot : Nat) (f : Job → Job) : (s.updJob p slot f).streams = s.streams := rfl
@[simp] theorem State.updJob_kettle (s : State) (p : Nat) (slot : Nat) (f : Job → Job) : (s.updJob p slot f).kettle = s.kettle := rfl
@[simp] theorem State.updJob_sec (s : State) (p : Nat) (slot : Nat) (f : Job → Job) : (s.updJob p slot f).sec = s.sec := rfl
@[simp] theorem State.updJob_fb (s : State) (p : Nat) (slot : Nat) (f : Job → Job) : (s.updJob p slot f).fb = s.fb := rfl
@[simp] theorem State.updJob_svc (s : State) (p : Nat) (slot : Nat) (f : Job → Job) : (s.updJob p slot f).svc = s.svc := rfl
@[simp] theorem State.updJob_pending (s : State) (p : Nat) (slot : Nat) (f : Job → Job) : (s.updJob p slot f).pending = s.pending := rfl

/-! ## `State.updStream` -/

@[simp] theorem State.updStream_now (s : State) (n : Nat) (f : Stream → Stream) : (s.updStream n f).now = s.now := rfl
@[simp] theorem State.updStream_reply (s : State) (n : Nat) (f : Stream → Stream) : (s.updStream n f).reply = s.reply := rfl
@[simp] theorem State.updStream_events (s : State) (n : Nat) (f : Stream → Stream) : (s.updStream n f).events = s.events := rfl
@[simp] theorem State.updStream_gaps (s : State) (n : Nat) (f : Stream → Stream) : (s.updStream n f).gaps = s.gaps := rfl
@[simp] theorem State.updStream_sent (s : State) (n : Nat) (f : Stream → Stream) : (s.updStream n f).sent = s.sent := rfl
@[simp] theorem State.updStream_freeCtr (s : State) (n : Nat) (f : Stream → Stream) : (s.updStream n f).freeCtr = s.freeCtr := rfl
@[simp] theorem State.updStream_serial (s : State) (n : Nat) (f : Stream → Stream) : (s.updStream n f).serial = s.serial := rfl
@[simp] theorem State.updStream_fatal (s : State) (n : Nat) (f : Stream → Stream) : (s.updStream n f).fatal = s.fatal := rfl
@[simp] theorem State.updStream_isl (s : State) (n : Nat) (f : Stream → Stream) : (s.updStream n f).isl = s.isl := rfl
@[simp] theorem State.updStream_chans (s : State) (n : Nat) (f : Stream → Stream) : (s.updStream n f).chans = s.chans := rfl
@[simp] theorem State.updStream_eng (s : State) (n : Nat) (f : Stream → Stream) : (s.updStream n f).eng = s.eng := rfl
@[simp] theorem State.updStream_slc (s : State) (n : Nat) (f : Stream → Stream) : (s.updStream n f).slc = s.slc := rfl
@[simp] theorem State.updStream_approx (s : State) (n : Nat) (f : Stream → Stream) : (s.updStream n f).approx = s.approx := rfl
@[simp] theorem State.updStream_power (s : State) (n : Nat) (f : Stream → Stream) : (s.updStream n f).power = s.power := rfl
@[simp] theorem State.updStream_mem (s : State) (n : Nat) (f : Stream → Stream) : (s.updStream n f).mem = s.mem := rfl
@[simp] theorem State.updStream_xlat (s : State) (n : Nat) (f : Stream → Stream) : (s.updStream n f).xlat = s.xlat := rfl
@[simp] theorem State.updStream_sems (s : State) (n : Nat) (f : Stream → Stream) : (s.updStream n f).sems = s.sems := rfl
@[simp] theorem State.updStream_te (s : State) (n : Nat) (f : Stream → Stream) : (s.updStream n f).te = s.te := rfl
@[simp] theorem State.updStream_caddy (s : State) (n : Nat) (f : Stream → Stream) : (s.updStream n f).caddy = s.caddy := rfl
@[simp] theorem State.updStream_queues (s : State) (n : Nat) (f : Stream → Stream) : (s.updStream n f).queues = s.queues := rfl
@[simp] theorem State.updStream_link (s : State) (n : Nat) (f : Stream → Stream) : (s.updStream n f).link = s.link := rfl
@[simp] theorem State.updStream_parcels (s : State) (n : Nat) (f : Stream → Stream) : (s.updStream n f).parcels = s.parcels := rfl
@[simp] theorem State.updStream_jobs (s : State) (n : Nat) (f : Stream → Stream) : (s.updStream n f).jobs = s.jobs := rfl
@[simp] theorem State.updStream_plat (s : State) (n : Nat) (f : Stream → Stream) : (s.updStream n f).plat = s.plat := rfl
@[simp] theorem State.updStream_jobResult (s : State) (n : Nat) (f : Stream → Stream) : (s.updStream n f).jobResult = s.jobResult := rfl
@[simp] theorem State.updStream_nextJobId (s : State) (n : Nat) (f : Stream → Stream) : (s.updStream n f).nextJobId = s.nextJobId := rfl
@[simp] theorem State.updStream_start (s : State) (n : Nat) (f : Stream → Stream) : (s.updStream n f).start = s.start := rfl
@[simp] theorem State.updStream_ledger (s : State) (n : Nat) (f : Stream → Stream) : (s.updStream n f).ledger = s.ledger := rfl
@[simp] theorem State.updStream_dieId (s : State) (n : Nat) (f : Stream → Stream) : (s.updStream n f).dieId = s.dieId := rfl
@[simp] theorem State.updStream_fab (s : State) (n : Nat) (f : Stream → Stream) : (s.updStream n f).fab = s.fab := rfl
@[simp] theorem State.updStream_agree (s : State) (n : Nat) (f : Stream → Stream) : (s.updStream n f).agree = s.agree := rfl
@[simp] theorem State.updStream_dict (s : State) (n : Nat) (f : Stream → Stream) : (s.updStream n f).dict = s.dict := rfl
@[simp] theorem State.updStream_streams (s : State) (n : Nat) (f : Stream → Stream) : (s.updStream n f).streams = s.streams.upd n f := rfl
@[simp] theorem State.updStream_kettle (s : State) (n : Nat) (f : Stream → Stream) : (s.updStream n f).kettle = s.kettle := rfl
@[simp] theorem State.updStream_sec (s : State) (n : Nat) (f : Stream → Stream) : (s.updStream n f).sec = s.sec := rfl
@[simp] theorem State.updStream_fb (s : State) (n : Nat) (f : Stream → Stream) : (s.updStream n f).fb = s.fb := rfl
@[simp] theorem State.updStream_svc (s : State) (n : Nat) (f : Stream → Stream) : (s.updStream n f).svc = s.svc := rfl
@[simp] theorem State.updStream_pending (s : State) (n : Nat) (f : Stream → Stream) : (s.updStream n f).pending = s.pending := rfl

/-! ## `State.bump` -/

@[simp] theorem State.bump_now (s : State) : (s.bump).now = s.now := rfl
@[simp] theorem State.bump_reply (s : State) : (s.bump).reply = s.reply := rfl
@[simp] theorem State.bump_events (s : State) : (s.bump).events = s.events := rfl
@[simp] theorem State.bump_gaps (s : State) : (s.bump).gaps = s.gaps := rfl
@[simp] theorem State.bump_sent (s : State) : (s.bump).sent = s.sent := rfl
@[simp] theorem State.bump_freeCtr (s : State) : (s.bump).freeCtr = s.freeCtr + 1 := rfl
@[simp] theorem State.bump_serial (s : State) : (s.bump).serial = s.serial := rfl
@[simp] theorem State.bump_fatal (s : State) : (s.bump).fatal = s.fatal := rfl
@[simp] theorem State.bump_isl (s : State) : (s.bump).isl = s.isl := rfl
@[simp] theorem State.bump_chans (s : State) : (s.bump).chans = s.chans := rfl
@[simp] theorem State.bump_eng (s : State) : (s.bump).eng = s.eng := rfl
@[simp] theorem State.bump_slc (s : State) : (s.bump).slc = s.slc := rfl
@[simp] theorem State.bump_approx (s : State) : (s.bump).approx = s.approx := rfl
@[simp] theorem State.bump_power (s : State) : (s.bump).power = s.power := rfl
@[simp] theorem State.bump_mem (s : State) : (s.bump).mem = s.mem := rfl
@[simp] theorem State.bump_xlat (s : State) : (s.bump).xlat = s.xlat := rfl
@[simp] theorem State.bump_sems (s : State) : (s.bump).sems = s.sems := rfl
@[simp] theorem State.bump_te (s : State) : (s.bump).te = s.te := rfl
@[simp] theorem State.bump_caddy (s : State) : (s.bump).caddy = s.caddy := rfl
@[simp] theorem State.bump_queues (s : State) : (s.bump).queues = s.queues := rfl
@[simp] theorem State.bump_link (s : State) : (s.bump).link = s.link := rfl
@[simp] theorem State.bump_parcels (s : State) : (s.bump).parcels = s.parcels := rfl
@[simp] theorem State.bump_jobs (s : State) : (s.bump).jobs = s.jobs := rfl
@[simp] theorem State.bump_plat (s : State) : (s.bump).plat = s.plat := rfl
@[simp] theorem State.bump_jobResult (s : State) : (s.bump).jobResult = s.jobResult := rfl
@[simp] theorem State.bump_nextJobId (s : State) : (s.bump).nextJobId = s.nextJobId := rfl
@[simp] theorem State.bump_start (s : State) : (s.bump).start = s.start := rfl
@[simp] theorem State.bump_ledger (s : State) : (s.bump).ledger = s.ledger := rfl
@[simp] theorem State.bump_dieId (s : State) : (s.bump).dieId = s.dieId := rfl
@[simp] theorem State.bump_fab (s : State) : (s.bump).fab = s.fab := rfl
@[simp] theorem State.bump_agree (s : State) : (s.bump).agree = s.agree := rfl
@[simp] theorem State.bump_dict (s : State) : (s.bump).dict = s.dict := rfl
@[simp] theorem State.bump_streams (s : State) : (s.bump).streams = s.streams := rfl
@[simp] theorem State.bump_kettle (s : State) : (s.bump).kettle = s.kettle := rfl
@[simp] theorem State.bump_sec (s : State) : (s.bump).sec = s.sec := rfl
@[simp] theorem State.bump_fb (s : State) : (s.bump).fb = s.fb := rfl
@[simp] theorem State.bump_svc (s : State) : (s.bump).svc = s.svc := rfl
@[simp] theorem State.bump_pending (s : State) : (s.bump).pending = s.pending := rfl

end Sys2Proof.Machine
end

