-- ==== Sys2Proof/Laws/Frames.lean ====
section
/-! SUPPORT. Frames of the shared operations: for each, every field of the state it leaves as it is. -/
namespace Sys2Proof.Machine
open Sys2Proof

/-- An event adds to the queue of events and to the counts of lost ones alone (02 R46). -/
theorem State.emit_only (s : State) (isl code parcel value : Nat) :
    ∃ e g, s.emit isl code parcel value = { s with events := e, gaps := g } := by
  unfold State.emit
  dsimp only
  (repeat' split) <;> exact ⟨_, _, rfl⟩

/-- What each step of a left fold leaves, the fold leaves. -/
theorem State.foldl_same {γ β : Type} (fld : State → β) (g : State → γ → State) (h : ∀ s a, fld (g s a) = fld s) (l : List γ) (s : State) :
    fld (l.foldl g s) = fld s := by
  induction l generalizing s with
  | nil => rfl
  | cons a l ih => rw [List.foldl_cons, ih, h]

/-- `State.emit` changes nothing but `events`, `gaps`. -/
@[simp] theorem State.emit_frame (s : State) (isl : Nat) (code : Nat) (parcel : Nat) (value : Nat) :
    (s.emit isl code parcel value).now = s.now ∧ (s.emit isl code parcel value).reply = s.reply ∧ (s.emit isl code parcel value).sent = s.sent ∧
    (s.emit isl code parcel value).freeCtr = s.freeCtr ∧ (s.emit isl code parcel value).serial = s.serial ∧
    (s.emit isl code parcel value).fatal = s.fatal ∧ (s.emit isl code parcel value).isl = s.isl ∧ (s.emit isl code parcel value).chans = s.chans ∧
    (s.emit isl code parcel value).eng = s.eng ∧ (s.emit isl code parcel value).slc = s.slc ∧ (s.emit isl code parcel value).approx = s.approx ∧
    (s.emit isl code parcel value).power = s.power ∧ (s.emit isl code parcel value).mem = s.mem ∧ (s.emit isl code parcel value).xlat = s.xlat ∧
    (s.emit isl code parcel value).sems = s.sems ∧ (s.emit isl code parcel value).te = s.te ∧ (s.emit isl code parcel value).caddy = s.caddy ∧
    (s.emit isl code parcel value).queues = s.queues ∧ (s.emit isl code parcel value).link = s.link ∧
    (s.emit isl code parcel value).parcels = s.parcels ∧ (s.emit isl code parcel value).jobs = s.jobs ∧ (s.emit isl code parcel value).plat = s.plat ∧
    (s.emit isl code parcel value).jobResult = s.jobResult ∧ (s.emit isl code parcel value).nextJobId = s.nextJobId ∧
    (s.emit isl code parcel value).start = s.start ∧ (s.emit isl code parcel value).ledger = s.ledger ∧
    (s.emit isl code parcel value).dieId = s.dieId ∧ (s.emit isl code parcel value).fab = s.fab ∧ (s.emit isl code parcel value).agree = s.agree ∧
    (s.emit isl code parcel value).dict = s.dict ∧ (s.emit isl code parcel value).streams = s.streams ∧
    (s.emit isl code parcel value).kettle = s.kettle ∧ (s.emit isl code parcel value).sec = s.sec ∧ (s.emit isl code parcel value).fb = s.fb ∧
    (s.emit isl code parcel value).svc = s.svc ∧ (s.emit isl code parcel value).pending = s.pending := by
  unfold State.emit; dsimp only
  (repeat' split) <;> simp

/-- `State.settleEng` changes nothing but `eng`. -/
@[simp] theorem State.settleEng_frame (s : State) (n : Nat) :
    (s.settleEng n).now = s.now ∧ (s.settleEng n).reply = s.reply ∧ (s.settleEng n).events = s.events ∧ (s.settleEng n).gaps = s.gaps ∧
    (s.settleEng n).sent = s.sent ∧ (s.settleEng n).freeCtr = s.freeCtr ∧ (s.settleEng n).serial = s.serial ∧ (s.settleEng n).fatal = s.fatal ∧
    (s.settleEng n).isl = s.isl ∧ (s.settleEng n).chans = s.chans ∧ (s.settleEng n).slc = s.slc ∧ (s.settleEng n).approx = s.approx ∧
    (s.settleEng n).power = s.power ∧ (s.settleEng n).mem = s.mem ∧ (s.settleEng n).xlat = s.xlat ∧ (s.settleEng n).sems = s.sems ∧
    (s.settleEng n).te = s.te ∧ (s.settleEng n).caddy = s.caddy ∧ (s.settleEng n).queues = s.queues ∧ (s.settleEng n).link = s.link ∧
    (s.settleEng n).parcels = s.parcels ∧ (s.settleEng n).jobs = s.jobs ∧ (s.settleEng n).plat = s.plat ∧ (s.settleEng n).jobResult = s.jobResult ∧
    (s.settleEng n).nextJobId = s.nextJobId ∧ (s.settleEng n).start = s.start ∧ (s.settleEng n).ledger = s.ledger ∧ (s.settleEng n).dieId = s.dieId ∧
    (s.settleEng n).fab = s.fab ∧ (s.settleEng n).agree = s.agree ∧ (s.settleEng n).dict = s.dict ∧ (s.settleEng n).streams = s.streams ∧
    (s.settleEng n).kettle = s.kettle ∧ (s.settleEng n).sec = s.sec ∧ (s.settleEng n).fb = s.fb ∧ (s.settleEng n).svc = s.svc ∧
    (s.settleEng n).pending = s.pending := by
  refine ⟨?_, ?_, ?_, ?_, ?_, ?_, ?_, ?_, ?_, ?_, ?_, ?_, ?_, ?_, ?_, ?_, ?_, ?_, ?_, ?_, ?_, ?_, ?_, ?_, ?_, ?_, ?_, ?_, ?_, ?_, ?_, ?_, ?_, ?_, ?_, ?_, ?_⟩ <;> rfl

/-- `State.release` changes nothing but `slc`. -/
@[simp] theorem State.release_frame (s : State) (hs : List Hold) (flags : Bool) :
    (s.release hs flags).now = s.now ∧ (s.release hs flags).reply = s.reply ∧ (s.release hs flags).events = s.events ∧
    (s.release hs flags).gaps = s.gaps ∧ (s.release hs flags).sent = s.sent ∧ (s.release hs flags).freeCtr = s.freeCtr ∧
    (s.release hs flags).serial = s.serial ∧ (s.release hs flags).fatal = s.fatal ∧ (s.release hs flags).isl = s.isl ∧
    (s.release hs flags).chans = s.chans ∧ (s.release hs flags).eng = s.eng ∧ (s.release hs flags).approx = s.approx ∧
    (s.release hs flags).power = s.power ∧ (s.release hs flags).mem = s.mem ∧ (s.release hs flags).xlat = s.xlat ∧
    (s.release hs flags).sems = s.sems ∧ (s.release hs flags).te = s.te ∧ (s.release hs flags).caddy = s.caddy ∧
    (s.release hs flags).queues = s.queues ∧ (s.release hs flags).link = s.link ∧ (s.release hs flags).parcels = s.parcels ∧
    (s.release hs flags).jobs = s.jobs ∧ (s.release hs flags).plat = s.plat ∧ (s.release hs flags).jobResult = s.jobResult ∧
    (s.release hs flags).nextJobId = s.nextJobId ∧ (s.release hs flags).start = s.start ∧ (s.release hs flags).ledger = s.ledger ∧
    (s.release hs flags).dieId = s.dieId ∧ (s.release hs flags).fab = s.fab ∧ (s.release hs flags).agree = s.agree ∧
    (s.release hs flags).dict = s.dict ∧ (s.release hs flags).streams = s.streams ∧ (s.release hs flags).kettle = s.kettle ∧
    (s.release hs flags).sec = s.sec ∧ (s.release hs flags).fb = s.fb ∧ (s.release hs flags).svc = s.svc ∧ (s.release hs flags).pending = s.pending := by
  unfold State.release
  induction hs generalizing s with
  | nil => simp
  | cons a l ih => simp only [List.foldl_cons, ih]; simp

/-- `State.unclaim` changes nothing but `slc`. -/
@[simp] theorem State.unclaim_frame (s : State) (cs : List Claim) :
    (s.unclaim cs).now = s.now ∧ (s.unclaim cs).reply = s.reply ∧ (s.unclaim cs).events = s.events ∧ (s.unclaim cs).gaps = s.gaps ∧
    (s.unclaim cs).sent = s.sent ∧ (s.unclaim cs).freeCtr = s.freeCtr ∧ (s.unclaim cs).serial = s.serial ∧ (s.unclaim cs).fatal = s.fatal ∧
    (s.unclaim cs).isl = s.isl ∧ (s.unclaim cs).chans = s.chans ∧ (s.unclaim cs).eng = s.eng ∧ (s.unclaim cs).approx = s.approx ∧
    (s.unclaim cs).power = s.power ∧ (s.unclaim cs).mem = s.mem ∧ (s.unclaim cs).xlat = s.xlat ∧ (s.unclaim cs).sems = s.sems ∧
    (s.unclaim cs).te = s.te ∧ (s.unclaim cs).caddy = s.caddy ∧ (s.unclaim cs).queues = s.queues ∧ (s.unclaim cs).link = s.link ∧
    (s.unclaim cs).parcels = s.parcels ∧ (s.unclaim cs).jobs = s.jobs ∧ (s.unclaim cs).plat = s.plat ∧ (s.unclaim cs).jobResult = s.jobResult ∧
    (s.unclaim cs).nextJobId = s.nextJobId ∧ (s.unclaim cs).start = s.start ∧ (s.unclaim cs).ledger = s.ledger ∧ (s.unclaim cs).dieId = s.dieId ∧
    (s.unclaim cs).fab = s.fab ∧ (s.unclaim cs).agree = s.agree ∧ (s.unclaim cs).dict = s.dict ∧ (s.unclaim cs).streams = s.streams ∧
    (s.unclaim cs).kettle = s.kettle ∧ (s.unclaim cs).sec = s.sec ∧ (s.unclaim cs).fb = s.fb ∧ (s.unclaim cs).svc = s.svc ∧
    (s.unclaim cs).pending = s.pending := by
  unfold State.unclaim
  induction cs generalizing s with
  | nil => simp
  | cons a l ih => simp only [List.foldl_cons, ih]; simp

/-- `State.complete` changes nothing but `slc`. -/
@[simp] theorem State.complete_frame (s : State) (cs : List Claim) :
    (s.complete cs).now = s.now ∧ (s.complete cs).reply = s.reply ∧ (s.complete cs).events = s.events ∧ (s.complete cs).gaps = s.gaps ∧
    (s.complete cs).sent = s.sent ∧ (s.complete cs).freeCtr = s.freeCtr ∧ (s.complete cs).serial = s.serial ∧ (s.complete cs).fatal = s.fatal ∧
    (s.complete cs).isl = s.isl ∧ (s.complete cs).chans = s.chans ∧ (s.complete cs).eng = s.eng ∧ (s.complete cs).approx = s.approx ∧
    (s.complete cs).power = s.power ∧ (s.complete cs).mem = s.mem ∧ (s.complete cs).xlat = s.xlat ∧ (s.complete cs).sems = s.sems ∧
    (s.complete cs).te = s.te ∧ (s.complete cs).caddy = s.caddy ∧ (s.complete cs).queues = s.queues ∧ (s.complete cs).link = s.link ∧
    (s.complete cs).parcels = s.parcels ∧ (s.complete cs).jobs = s.jobs ∧ (s.complete cs).plat = s.plat ∧ (s.complete cs).jobResult = s.jobResult ∧
    (s.complete cs).nextJobId = s.nextJobId ∧ (s.complete cs).start = s.start ∧ (s.complete cs).ledger = s.ledger ∧ (s.complete cs).dieId = s.dieId ∧
    (s.complete cs).fab = s.fab ∧ (s.complete cs).agree = s.agree ∧ (s.complete cs).dict = s.dict ∧ (s.complete cs).streams = s.streams ∧
    (s.complete cs).kettle = s.kettle ∧ (s.complete cs).sec = s.sec ∧ (s.complete cs).fb = s.fb ∧ (s.complete cs).svc = s.svc ∧
    (s.complete cs).pending = s.pending := by
  unfold State.complete
  induction cs generalizing s with
  | nil => simp
  | cons a l ih => simp only [List.foldl_cons, ih]; simp

/-- `State.takeHolds` changes nothing but `slc`. -/
@[simp] theorem State.takeHolds_frame (s : State) (hs : List Hold) :
    (s.takeHolds hs).now = s.now ∧ (s.takeHolds hs).reply = s.reply ∧ (s.takeHolds hs).events = s.events ∧ (s.takeHolds hs).gaps = s.gaps ∧
    (s.takeHolds hs).sent = s.sent ∧ (s.takeHolds hs).freeCtr = s.freeCtr ∧ (s.takeHolds hs).serial = s.serial ∧ (s.takeHolds hs).fatal = s.fatal ∧
    (s.takeHolds hs).isl = s.isl ∧ (s.takeHolds hs).chans = s.chans ∧ (s.takeHolds hs).eng = s.eng ∧ (s.takeHolds hs).approx = s.approx ∧
    (s.takeHolds hs).power = s.power ∧ (s.takeHolds hs).mem = s.mem ∧ (s.takeHolds hs).xlat = s.xlat ∧ (s.takeHolds hs).sems = s.sems ∧
    (s.takeHolds hs).te = s.te ∧ (s.takeHolds hs).caddy = s.caddy ∧ (s.takeHolds hs).queues = s.queues ∧ (s.takeHolds hs).link = s.link ∧
    (s.takeHolds hs).parcels = s.parcels ∧ (s.takeHolds hs).jobs = s.jobs ∧ (s.takeHolds hs).plat = s.plat ∧
    (s.takeHolds hs).jobResult = s.jobResult ∧ (s.takeHolds hs).nextJobId = s.nextJobId ∧ (s.takeHolds hs).start = s.start ∧
    (s.takeHolds hs).ledger = s.ledger ∧ (s.takeHolds hs).dieId = s.dieId ∧ (s.takeHolds hs).fab = s.fab ∧ (s.takeHolds hs).agree = s.agree ∧
    (s.takeHolds hs).dict = s.dict ∧ (s.takeHolds hs).streams = s.streams ∧ (s.takeHolds hs).kettle = s.kettle ∧ (s.takeHolds hs).sec = s.sec ∧
    (s.takeHolds hs).fb = s.fb ∧ (s.takeHolds hs).svc = s.svc ∧ (s.takeHolds hs).pending = s.pending := by
  unfold State.takeHolds
  induction hs generalizing s with
  | nil => simp
  | cons a l ih => simp only [List.foldl_cons, ih]; simp

/-- `State.takeClaims` changes nothing but `slc`. -/
@[simp] theorem State.takeClaims_frame (s : State) (sl : Nat) (gs : List Nat) :
    (s.takeClaims sl gs).1.now = s.now ∧ (s.takeClaims sl gs).1.reply = s.reply ∧ (s.takeClaims sl gs).1.events = s.events ∧
    (s.takeClaims sl gs).1.gaps = s.gaps ∧ (s.takeClaims sl gs).1.sent = s.sent ∧ (s.takeClaims sl gs).1.freeCtr = s.freeCtr ∧
    (s.takeClaims sl gs).1.serial = s.serial ∧ (s.takeClaims sl gs).1.fatal = s.fatal ∧ (s.takeClaims sl gs).1.isl = s.isl ∧
    (s.takeClaims sl gs).1.chans = s.chans ∧ (s.takeClaims sl gs).1.eng = s.eng ∧ (s.takeClaims sl gs).1.approx = s.approx ∧
    (s.takeClaims sl gs).1.power = s.power ∧ (s.takeClaims sl gs).1.mem = s.mem ∧ (s.takeClaims sl gs).1.xlat = s.xlat ∧
    (s.takeClaims sl gs).1.sems = s.sems ∧ (s.takeClaims sl gs).1.te = s.te ∧ (s.takeClaims sl gs).1.caddy = s.caddy ∧
    (s.takeClaims sl gs).1.queues = s.queues ∧ (s.takeClaims sl gs).1.link = s.link ∧ (s.takeClaims sl gs).1.parcels = s.parcels ∧
    (s.takeClaims sl gs).1.jobs = s.jobs ∧ (s.takeClaims sl gs).1.plat = s.plat ∧ (s.takeClaims sl gs).1.jobResult = s.jobResult ∧
    (s.takeClaims sl gs).1.nextJobId = s.nextJobId ∧ (s.takeClaims sl gs).1.start = s.start ∧ (s.takeClaims sl gs).1.ledger = s.ledger ∧
    (s.takeClaims sl gs).1.dieId = s.dieId ∧ (s.takeClaims sl gs).1.fab = s.fab ∧ (s.takeClaims sl gs).1.agree = s.agree ∧
    (s.takeClaims sl gs).1.dict = s.dict ∧ (s.takeClaims sl gs).1.streams = s.streams ∧ (s.takeClaims sl gs).1.kettle = s.kettle ∧
    (s.takeClaims sl gs).1.sec = s.sec ∧ (s.takeClaims sl gs).1.fb = s.fb ∧ (s.takeClaims sl gs).1.svc = s.svc ∧
    (s.takeClaims sl gs).1.pending = s.pending := by
  refine ⟨?_, ?_, ?_, ?_, ?_, ?_, ?_, ?_, ?_, ?_, ?_, ?_, ?_, ?_, ?_, ?_, ?_, ?_, ?_, ?_, ?_, ?_, ?_, ?_, ?_, ?_, ?_, ?_, ?_, ?_, ?_, ?_, ?_, ?_, ?_, ?_, ?_⟩ <;> rfl

/-- `State.countEcc` changes nothing but `events`, `gaps`, `mem`, `ledger`. -/
@[simp] theorem State.countEcc_frame (s : State) (isl : Nat) (arr : Nat) (data : Nat) (check : Nat) (uncorr : Nat) (refetch : Nat) :
    (s.countEcc isl arr data check uncorr refetch).now = s.now ∧ (s.countEcc isl arr data check uncorr refetch).reply = s.reply ∧
    (s.countEcc isl arr data check uncorr refetch).sent = s.sent ∧ (s.countEcc isl arr data check uncorr refetch).freeCtr = s.freeCtr ∧
    (s.countEcc isl arr data check uncorr refetch).serial = s.serial ∧ (s.countEcc isl arr data check uncorr refetch).fatal = s.fatal ∧
    (s.countEcc isl arr data check uncorr refetch).isl = s.isl ∧ (s.countEcc isl arr data check uncorr refetch).chans = s.chans ∧
    (s.countEcc isl arr data check uncorr refetch).eng = s.eng ∧ (s.countEcc isl arr data check uncorr refetch).slc = s.slc ∧
    (s.countEcc isl arr data check uncorr refetch).approx = s.approx ∧ (s.countEcc isl arr data check uncorr refetch).power = s.power ∧
    (s.countEcc isl arr data check uncorr refetch).xlat = s.xlat ∧ (s.countEcc isl arr data check uncorr refetch).sems = s.sems ∧
    (s.countEcc isl arr data check uncorr refetch).te = s.te ∧ (s.countEcc isl arr data check uncorr refetch).caddy = s.caddy ∧
    (s.countEcc isl arr data check uncorr refetch).queues = s.queues ∧ (s.countEcc isl arr data check uncorr refetch).link = s.link ∧
    (s.countEcc isl arr data check uncorr refetch).parcels = s.parcels ∧ (s.countEcc isl arr data check uncorr refetch).jobs = s.jobs ∧
    (s.countEcc isl arr data check uncorr refetch).plat = s.plat ∧ (s.countEcc isl arr data check uncorr refetch).jobResult = s.jobResult ∧
    (s.countEcc isl arr data check uncorr refetch).nextJobId = s.nextJobId ∧ (s.countEcc isl arr data check uncorr refetch).start = s.start ∧
    (s.countEcc isl arr data check uncorr refetch).dieId = s.dieId ∧ (s.countEcc isl arr data check uncorr refetch).fab = s.fab ∧
    (s.countEcc isl arr data check uncorr refetch).agree = s.agree ∧ (s.countEcc isl arr data check uncorr refetch).dict = s.dict ∧
    (s.countEcc isl arr data check uncorr refetch).streams = s.streams ∧ (s.countEcc isl arr data check uncorr refetch).kettle = s.kettle ∧
    (s.countEcc isl arr data check uncorr refetch).sec = s.sec ∧ (s.countEcc isl arr data check uncorr refetch).fb = s.fb ∧
    (s.countEcc isl arr data check uncorr refetch).svc = s.svc ∧ (s.countEcc isl arr data check uncorr refetch).pending = s.pending := by
  have h : ∀ (c k : Nat) (t : State), ∃ e g, (List.range k).foldl (fun s _ => s.emit isl c 0xFF arr) t = { t with events := e, gaps := g } := by
    intro c k
    induction List.range k with
    | nil => intro t; exact ⟨_, _, rfl⟩
    | cons a l ih =>
      intro t
      obtain ⟨e, g, he⟩ := State.emit_only t isl c 0xFF arr
      rw [List.foldl_cons, he]
      exact ih _
  unfold State.countEcc
  dsimp only
  choose E G hE using h
  simp only [hE]
  split <;> simp

/-- `State.updCmd` changes nothing but `queues`. -/
@[simp] theorem State.updCmd_frame (s : State) (q : Nat) (serial : Nat) (f : Cmd → Cmd) :
    (s.updCmd q serial f).now = s.now ∧ (s.updCmd q serial f).reply = s.reply ∧ (s.updCmd q serial f).events = s.events ∧
    (s.updCmd q serial f).gaps = s.gaps ∧ (s.updCmd q serial f).sent = s.sent ∧ (s.updCmd q serial f).freeCtr = s.freeCtr ∧
    (s.updCmd q serial f).serial = s.serial ∧ (s.updCmd q serial f).fatal = s.fatal ∧ (s.updCmd q serial f).isl = s.isl ∧
    (s.updCmd q serial f).chans = s.chans ∧ (s.updCmd q serial f).eng = s.eng ∧ (s.updCmd q serial f).slc = s.slc ∧
    (s.updCmd q serial f).approx = s.approx ∧ (s.updCmd q serial f).power = s.power ∧ (s.updCmd q serial f).mem = s.mem ∧
    (s.updCmd q serial f).xlat = s.xlat ∧ (s.updCmd q serial f).sems = s.sems ∧ (s.updCmd q serial f).te = s.te ∧
    (s.updCmd q serial f).caddy = s.caddy ∧ (s.updCmd q serial f).link = s.link ∧ (s.updCmd q serial f).parcels = s.parcels ∧
    (s.updCmd q serial f).jobs = s.jobs ∧ (s.updCmd q serial f).plat = s.plat ∧ (s.updCmd q serial f).jobResult = s.jobResult ∧
    (s.updCmd q serial f).nextJobId = s.nextJobId ∧ (s.updCmd q serial f).start = s.start ∧ (s.updCmd q serial f).ledger = s.ledger ∧
    (s.updCmd q serial f).dieId = s.dieId ∧ (s.updCmd q serial f).fab = s.fab ∧ (s.updCmd q serial f).agree = s.agree ∧
    (s.updCmd q serial f).dict = s.dict ∧ (s.updCmd q serial f).streams = s.streams ∧ (s.updCmd q serial f).kettle = s.kettle ∧
    (s.updCmd q serial f).sec = s.sec ∧ (s.updCmd q serial f).fb = s.fb ∧ (s.updCmd q serial f).svc = s.svc ∧
    (s.updCmd q serial f).pending = s.pending := by
  refine ⟨?_, ?_, ?_, ?_, ?_, ?_, ?_, ?_, ?_, ?_, ?_, ?_, ?_, ?_, ?_, ?_, ?_, ?_, ?_, ?_, ?_, ?_, ?_, ?_, ?_, ?_, ?_, ?_, ?_, ?_, ?_, ?_, ?_, ?_, ?_, ?_, ?_⟩ <;> rfl

/-- `State.setItem` changes nothing but `queues`. -/
@[simp] theorem State.setItem_frame (s : State) (q : Nat) (serial : Nat) (i : Nat) (st : ItemSt) :
    (s.setItem q serial i st).now = s.now ∧ (s.setItem q serial i st).reply = s.reply ∧ (s.setItem q serial i st).events = s.events ∧
    (s.setItem q serial i st).gaps = s.gaps ∧ (s.setItem q serial i st).sent = s.sent ∧ (s.setItem q serial i st).freeCtr = s.freeCtr ∧
    (s.setItem q serial i st).serial = s.serial ∧ (s.setItem q serial i st).fatal = s.fatal ∧ (s.setItem q serial i st).isl = s.isl ∧
    (s.setItem q serial i st).chans = s.chans ∧ (s.setItem q serial i st).eng = s.eng ∧ (s.setItem q serial i st).slc = s.slc ∧
    (s.setItem q serial i st).approx = s.approx ∧ (s.setItem q serial i st).power = s.power ∧ (s.setItem q serial i st).mem = s.mem ∧
    (s.setItem q serial i st).xlat = s.xlat ∧ (s.setItem q serial i st).sems = s.sems ∧ (s.setItem q serial i st).te = s.te ∧
    (s.setItem q serial i st).caddy = s.caddy ∧ (s.setItem q serial i st).link = s.link ∧ (s.setItem q serial i st).parcels = s.parcels ∧
    (s.setItem q serial i st).jobs = s.jobs ∧ (s.setItem q serial i st).plat = s.plat ∧ (s.setItem q serial i st).jobResult = s.jobResult ∧
    (s.setItem q serial i st).nextJobId = s.nextJobId ∧ (s.setItem q serial i st).start = s.start ∧ (s.setItem q serial i st).ledger = s.ledger ∧
    (s.setItem q serial i st).dieId = s.dieId ∧ (s.setItem q serial i st).fab = s.fab ∧ (s.setItem q serial i st).agree = s.agree ∧
    (s.setItem q serial i st).dict = s.dict ∧ (s.setItem q serial i st).streams = s.streams ∧ (s.setItem q serial i st).kettle = s.kettle ∧
    (s.setItem q serial i st).sec = s.sec ∧ (s.setItem q serial i st).fb = s.fb ∧ (s.setItem q serial i st).svc = s.svc ∧
    (s.setItem q serial i st).pending = s.pending := by
  refine ⟨?_, ?_, ?_, ?_, ?_, ?_, ?_, ?_, ?_, ?_, ?_, ?_, ?_, ?_, ?_, ?_, ?_, ?_, ?_, ?_, ?_, ?_, ?_, ?_, ?_, ?_, ?_, ?_, ?_, ?_, ?_, ?_, ?_, ?_, ?_, ?_, ?_⟩ <;> rfl

/-- `State.watchSettle` changes nothing but `queues`. -/
@[simp] theorem State.watchSettle_frame (s : State) :
    (s.watchSettle).now = s.now ∧ (s.watchSettle).reply = s.reply ∧ (s.watchSettle).events = s.events ∧ (s.watchSettle).gaps = s.gaps ∧
    (s.watchSettle).sent = s.sent ∧ (s.watchSettle).freeCtr = s.freeCtr ∧ (s.watchSettle).serial = s.serial ∧ (s.watchSettle).fatal = s.fatal ∧
    (s.watchSettle).isl = s.isl ∧ (s.watchSettle).chans = s.chans ∧ (s.watchSettle).eng = s.eng ∧ (s.watchSettle).slc = s.slc ∧
    (s.watchSettle).approx = s.approx ∧ (s.watchSettle).power = s.power ∧ (s.watchSettle).mem = s.mem ∧ (s.watchSettle).xlat = s.xlat ∧
    (s.watchSettle).sems = s.sems ∧ (s.watchSettle).te = s.te ∧ (s.watchSettle).caddy = s.caddy ∧ (s.watchSettle).link = s.link ∧
    (s.watchSettle).parcels = s.parcels ∧ (s.watchSettle).jobs = s.jobs ∧ (s.watchSettle).plat = s.plat ∧ (s.watchSettle).jobResult = s.jobResult ∧
    (s.watchSettle).nextJobId = s.nextJobId ∧ (s.watchSettle).start = s.start ∧ (s.watchSettle).ledger = s.ledger ∧ (s.watchSettle).dieId = s.dieId ∧
    (s.watchSettle).fab = s.fab ∧ (s.watchSettle).agree = s.agree ∧ (s.watchSettle).dict = s.dict ∧ (s.watchSettle).streams = s.streams ∧
    (s.watchSettle).kettle = s.kettle ∧ (s.watchSettle).sec = s.sec ∧ (s.watchSettle).fb = s.fb ∧ (s.watchSettle).svc = s.svc ∧
    (s.watchSettle).pending = s.pending := by
  refine ⟨?_, ?_, ?_, ?_, ?_, ?_, ?_, ?_, ?_, ?_, ?_, ?_, ?_, ?_, ?_, ?_, ?_, ?_, ?_, ?_, ?_, ?_, ?_, ?_, ?_, ?_, ?_, ?_, ?_, ?_, ?_, ?_, ?_, ?_, ?_, ?_, ?_⟩ <;> rfl

/-- `State.strike` changes nothing but `events`, `gaps`, `sems`. -/
@[simp] theorem State.strike_frame (s : State) (struck : SemOwner → Bool) :
    (s.strike struck).now = s.now ∧ (s.strike struck).reply = s.reply ∧ (s.strike struck).sent = s.sent ∧ (s.strike struck).freeCtr = s.freeCtr ∧
    (s.strike struck).serial = s.serial ∧ (s.strike struck).fatal = s.fatal ∧ (s.strike struck).isl = s.isl ∧ (s.strike struck).chans = s.chans ∧
    (s.strike struck).eng = s.eng ∧ (s.strike struck).slc = s.slc ∧ (s.strike struck).approx = s.approx ∧ (s.strike struck).power = s.power ∧
    (s.strike struck).mem = s.mem ∧ (s.strike struck).xlat = s.xlat ∧ (s.strike struck).te = s.te ∧ (s.strike struck).caddy = s.caddy ∧
    (s.strike struck).queues = s.queues ∧ (s.strike struck).link = s.link ∧ (s.strike struck).parcels = s.parcels ∧ (s.strike struck).jobs = s.jobs ∧
    (s.strike struck).plat = s.plat ∧ (s.strike struck).jobResult = s.jobResult ∧ (s.strike struck).nextJobId = s.nextJobId ∧
    (s.strike struck).start = s.start ∧ (s.strike struck).ledger = s.ledger ∧ (s.strike struck).dieId = s.dieId ∧ (s.strike struck).fab = s.fab ∧
    (s.strike struck).agree = s.agree ∧ (s.strike struck).dict = s.dict ∧ (s.strike struck).streams = s.streams ∧
    (s.strike struck).kettle = s.kettle ∧ (s.strike struck).sec = s.sec ∧ (s.strike struck).fb = s.fb ∧ (s.strike struck).svc = s.svc ∧
    (s.strike struck).pending = s.pending := by
  unfold State.strike
  induction s.sems.map Prod.fst generalizing s with
  | nil => simp
  | cons a l ih =>
    simp only [List.foldl_cons, ih]
    (repeat' split) <;> simp

/-- `State.endItem` changes nothing but `queues`. -/
@[simp] theorem State.endItem_frame (s : State) (t : Task) (st : Status) (c : Cause) :
    (s.endItem t st c).now = s.now ∧ (s.endItem t st c).reply = s.reply ∧ (s.endItem t st c).events = s.events ∧ (s.endItem t st c).gaps = s.gaps ∧
    (s.endItem t st c).sent = s.sent ∧ (s.endItem t st c).freeCtr = s.freeCtr ∧ (s.endItem t st c).serial = s.serial ∧
    (s.endItem t st c).fatal = s.fatal ∧ (s.endItem t st c).isl = s.isl ∧ (s.endItem t st c).chans = s.chans ∧ (s.endItem t st c).eng = s.eng ∧
    (s.endItem t st c).slc = s.slc ∧ (s.endItem t st c).approx = s.approx ∧ (s.endItem t st c).power = s.power ∧ (s.endItem t st c).mem = s.mem ∧
    (s.endItem t st c).xlat = s.xlat ∧ (s.endItem t st c).sems = s.sems ∧ (s.endItem t st c).te = s.te ∧ (s.endItem t st c).caddy = s.caddy ∧
    (s.endItem t st c).link = s.link ∧ (s.endItem t st c).parcels = s.parcels ∧ (s.endItem t st c).jobs = s.jobs ∧ (s.endItem t st c).plat = s.plat ∧
    (s.endItem t st c).jobResult = s.jobResult ∧ (s.endItem t st c).nextJobId = s.nextJobId ∧ (s.endItem t st c).start = s.start ∧
    (s.endItem t st c).ledger = s.ledger ∧ (s.endItem t st c).dieId = s.dieId ∧ (s.endItem t st c).fab = s.fab ∧ (s.endItem t st c).agree = s.agree ∧
    (s.endItem t st c).dict = s.dict ∧ (s.endItem t st c).streams = s.streams ∧ (s.endItem t st c).kettle = s.kettle ∧
    (s.endItem t st c).sec = s.sec ∧ (s.endItem t st c).fb = s.fb ∧ (s.endItem t st c).svc = s.svc ∧ (s.endItem t st c).pending = s.pending := by
  refine ⟨?_, ?_, ?_, ?_, ?_, ?_, ?_, ?_, ?_, ?_, ?_, ?_, ?_, ?_, ?_, ?_, ?_, ?_, ?_, ?_, ?_, ?_, ?_, ?_, ?_, ?_, ?_, ?_, ?_, ?_, ?_, ?_, ?_, ?_, ?_, ?_, ?_⟩ <;> rfl

/-- `State.dropHolds` changes nothing but `eng`, `slc`. -/
@[simp] theorem State.dropHolds_frame (s : State) (n : Nat) :
    (s.dropHolds n).now = s.now ∧ (s.dropHolds n).reply = s.reply ∧ (s.dropHolds n).events = s.events ∧ (s.dropHolds n).gaps = s.gaps ∧
    (s.dropHolds n).sent = s.sent ∧ (s.dropHolds n).freeCtr = s.freeCtr ∧ (s.dropHolds n).serial = s.serial ∧ (s.dropHolds n).fatal = s.fatal ∧
    (s.dropHolds n).isl = s.isl ∧ (s.dropHolds n).chans = s.chans ∧ (s.dropHolds n).approx = s.approx ∧ (s.dropHolds n).power = s.power ∧
    (s.dropHolds n).mem = s.mem ∧ (s.dropHolds n).xlat = s.xlat ∧ (s.dropHolds n).sems = s.sems ∧ (s.dropHolds n).te = s.te ∧
    (s.dropHolds n).caddy = s.caddy ∧ (s.dropHolds n).queues = s.queues ∧ (s.dropHolds n).link = s.link ∧ (s.dropHolds n).parcels = s.parcels ∧
    (s.dropHolds n).jobs = s.jobs ∧ (s.dropHolds n).plat = s.plat ∧ (s.dropHolds n).jobResult = s.jobResult ∧
    (s.dropHolds n).nextJobId = s.nextJobId ∧ (s.dropHolds n).start = s.start ∧ (s.dropHolds n).ledger = s.ledger ∧ (s.dropHolds n).dieId = s.dieId ∧
    (s.dropHolds n).fab = s.fab ∧ (s.dropHolds n).agree = s.agree ∧ (s.dropHolds n).dict = s.dict ∧ (s.dropHolds n).streams = s.streams ∧
    (s.dropHolds n).kettle = s.kettle ∧ (s.dropHolds n).sec = s.sec ∧ (s.dropHolds n).fb = s.fb ∧ (s.dropHolds n).svc = s.svc ∧
    (s.dropHolds n).pending = s.pending := by
  unfold State.dropHolds; dsimp only
  (repeat' split) <;> simp

/-- `State.chargeEngine` changes nothing but `jobs`. -/
@[simp] theorem State.chargeEngine_frame (s : State) (n : Nat) (t : Task) :
    (s.chargeEngine n t).now = s.now ∧ (s.chargeEngine n t).reply = s.reply ∧ (s.chargeEngine n t).events = s.events ∧
    (s.chargeEngine n t).gaps = s.gaps ∧ (s.chargeEngine n t).sent = s.sent ∧ (s.chargeEngine n t).freeCtr = s.freeCtr ∧
    (s.chargeEngine n t).serial = s.serial ∧ (s.chargeEngine n t).fatal = s.fatal ∧ (s.chargeEngine n t).isl = s.isl ∧
    (s.chargeEngine n t).chans = s.chans ∧ (s.chargeEngine n t).eng = s.eng ∧ (s.chargeEngine n t).slc = s.slc ∧
    (s.chargeEngine n t).approx = s.approx ∧ (s.chargeEngine n t).power = s.power ∧ (s.chargeEngine n t).mem = s.mem ∧
    (s.chargeEngine n t).xlat = s.xlat ∧ (s.chargeEngine n t).sems = s.sems ∧ (s.chargeEngine n t).te = s.te ∧ (s.chargeEngine n t).caddy = s.caddy ∧
    (s.chargeEngine n t).queues = s.queues ∧ (s.chargeEngine n t).link = s.link ∧ (s.chargeEngine n t).parcels = s.parcels ∧
    (s.chargeEngine n t).plat = s.plat ∧ (s.chargeEngine n t).jobResult = s.jobResult ∧ (s.chargeEngine n t).nextJobId = s.nextJobId ∧
    (s.chargeEngine n t).start = s.start ∧ (s.chargeEngine n t).ledger = s.ledger ∧ (s.chargeEngine n t).dieId = s.dieId ∧
    (s.chargeEngine n t).fab = s.fab ∧ (s.chargeEngine n t).agree = s.agree ∧ (s.chargeEngine n t).dict = s.dict ∧
    (s.chargeEngine n t).streams = s.streams ∧ (s.chargeEngine n t).kettle = s.kettle ∧ (s.chargeEngine n t).sec = s.sec ∧
    (s.chargeEngine n t).fb = s.fb ∧ (s.chargeEngine n t).svc = s.svc ∧ (s.chargeEngine n t).pending = s.pending := by
  unfold State.chargeEngine; dsimp only
  (repeat' split) <;> simp

/-- `State.taskEnd` changes nothing but `events`, `gaps`, `eng`, `slc`, `sems`, `queues`, `parcels`, `jobs`. -/
@[simp] theorem State.taskEnd_frame (s : State) (n : Nat) (st : Status) (c : Cause) :
    (s.taskEnd n st c).now = s.now ∧ (s.taskEnd n st c).reply = s.reply ∧ (s.taskEnd n st c).sent = s.sent ∧ (s.taskEnd n st c).freeCtr = s.freeCtr ∧
    (s.taskEnd n st c).serial = s.serial ∧ (s.taskEnd n st c).fatal = s.fatal ∧ (s.taskEnd n st c).isl = s.isl ∧ (s.taskEnd n st c).chans = s.chans ∧
    (s.taskEnd n st c).approx = s.approx ∧ (s.taskEnd n st c).power = s.power ∧ (s.taskEnd n st c).mem = s.mem ∧ (s.taskEnd n st c).xlat = s.xlat ∧
    (s.taskEnd n st c).te = s.te ∧ (s.taskEnd n st c).caddy = s.caddy ∧ (s.taskEnd n st c).link = s.link ∧ (s.taskEnd n st c).plat = s.plat ∧
    (s.taskEnd n st c).jobResult = s.jobResult ∧ (s.taskEnd n st c).nextJobId = s.nextJobId ∧ (s.taskEnd n st c).start = s.start ∧
    (s.taskEnd n st c).ledger = s.ledger ∧ (s.taskEnd n st c).dieId = s.dieId ∧ (s.taskEnd n st c).fab = s.fab ∧ (s.taskEnd n st c).agree = s.agree ∧
    (s.taskEnd n st c).dict = s.dict ∧ (s.taskEnd n st c).streams = s.streams ∧ (s.taskEnd n st c).kettle = s.kettle ∧
    (s.taskEnd n st c).sec = s.sec ∧ (s.taskEnd n st c).fb = s.fb ∧ (s.taskEnd n st c).svc = s.svc ∧ (s.taskEnd n st c).pending = s.pending := by
  unfold State.taskEnd
  split <;> simp

/-- `State.advance` changes nothing but `eng`. -/
@[simp] theorem State.advance_frame (s : State) (n : Nat) :
    (s.advance n).now = s.now ∧ (s.advance n).reply = s.reply ∧ (s.advance n).events = s.events ∧ (s.advance n).gaps = s.gaps ∧
    (s.advance n).sent = s.sent ∧ (s.advance n).freeCtr = s.freeCtr ∧ (s.advance n).serial = s.serial ∧ (s.advance n).fatal = s.fatal ∧
    (s.advance n).isl = s.isl ∧ (s.advance n).chans = s.chans ∧ (s.advance n).slc = s.slc ∧ (s.advance n).approx = s.approx ∧
    (s.advance n).power = s.power ∧ (s.advance n).mem = s.mem ∧ (s.advance n).xlat = s.xlat ∧ (s.advance n).sems = s.sems ∧ (s.advance n).te = s.te ∧
    (s.advance n).caddy = s.caddy ∧ (s.advance n).queues = s.queues ∧ (s.advance n).link = s.link ∧ (s.advance n).parcels = s.parcels ∧
    (s.advance n).jobs = s.jobs ∧ (s.advance n).plat = s.plat ∧ (s.advance n).jobResult = s.jobResult ∧ (s.advance n).nextJobId = s.nextJobId ∧
    (s.advance n).start = s.start ∧ (s.advance n).ledger = s.ledger ∧ (s.advance n).dieId = s.dieId ∧ (s.advance n).fab = s.fab ∧
    (s.advance n).agree = s.agree ∧ (s.advance n).dict = s.dict ∧ (s.advance n).streams = s.streams ∧ (s.advance n).kettle = s.kettle ∧
    (s.advance n).sec = s.sec ∧ (s.advance n).fb = s.fb ∧ (s.advance n).svc = s.svc ∧ (s.advance n).pending = s.pending := by
  refine ⟨?_, ?_, ?_, ?_, ?_, ?_, ?_, ?_, ?_, ?_, ?_, ?_, ?_, ?_, ?_, ?_, ?_, ?_, ?_, ?_, ?_, ?_, ?_, ?_, ?_, ?_, ?_, ?_, ?_, ?_, ?_, ?_, ?_, ?_, ?_, ?_, ?_⟩ <;> rfl

/-- `State.dcTouch` changes nothing but `mem`. -/
@[simp] theorem State.dcTouch_frame (s : State) (w : Who) (pa : Nat) (dva : Nat) (write : Bool) (alloc : Bool) :
    (s.dcTouch w pa dva write alloc).now = s.now ∧ (s.dcTouch w pa dva write alloc).reply = s.reply ∧
    (s.dcTouch w pa dva write alloc).events = s.events ∧ (s.dcTouch w pa dva write alloc).gaps = s.gaps ∧
    (s.dcTouch w pa dva write alloc).sent = s.sent ∧ (s.dcTouch w pa dva write alloc).freeCtr = s.freeCtr ∧
    (s.dcTouch w pa dva write alloc).serial = s.serial ∧ (s.dcTouch w pa dva write alloc).fatal = s.fatal ∧
    (s.dcTouch w pa dva write alloc).isl = s.isl ∧ (s.dcTouch w pa dva write alloc).chans = s.chans ∧ (s.dcTouch w pa dva write alloc).eng = s.eng ∧
    (s.dcTouch w pa dva write alloc).slc = s.slc ∧ (s.dcTouch w pa dva write alloc).approx = s.approx ∧
    (s.dcTouch w pa dva write alloc).power = s.power ∧ (s.dcTouch w pa dva write alloc).xlat = s.xlat ∧
    (s.dcTouch w pa dva write alloc).sems = s.sems ∧ (s.dcTouch w pa dva write alloc).te = s.te ∧ (s.dcTouch w pa dva write alloc).caddy = s.caddy ∧
    (s.dcTouch w pa dva write alloc).queues = s.queues ∧ (s.dcTouch w pa dva write alloc).link = s.link ∧
    (s.dcTouch w pa dva write alloc).parcels = s.parcels ∧ (s.dcTouch w pa dva write alloc).jobs = s.jobs ∧
    (s.dcTouch w pa dva write alloc).plat = s.plat ∧ (s.dcTouch w pa dva write alloc).jobResult = s.jobResult ∧
    (s.dcTouch w pa dva write alloc).nextJobId = s.nextJobId ∧ (s.dcTouch w pa dva write alloc).start = s.start ∧
    (s.dcTouch w pa dva write alloc).ledger = s.ledger ∧ (s.dcTouch w pa dva write alloc).dieId = s.dieId ∧
    (s.dcTouch w pa dva write alloc).fab = s.fab ∧ (s.dcTouch w pa dva write alloc).agree = s.agree ∧ (s.dcTouch w pa dva write alloc).dict = s.dict ∧
    (s.dcTouch w pa dva write alloc).streams = s.streams ∧ (s.dcTouch w pa dva write alloc).kettle = s.kettle ∧
    (s.dcTouch w pa dva write alloc).sec = s.sec ∧ (s.dcTouch w pa dva write alloc).fb = s.fb ∧ (s.dcTouch w pa dva write alloc).svc = s.svc ∧
    (s.dcTouch w pa dva write alloc).pending = s.pending := by
  unfold State.dcTouch; dsimp only
  (repeat' split) <;> simp

/-- `State.wayClear` changes nothing but `mem`. -/
@[simp] theorem State.wayClear_frame (s : State) (way : Nat) :
    (s.wayClear way).now = s.now ∧ (s.wayClear way).reply = s.reply ∧ (s.wayClear way).events = s.events ∧ (s.wayClear way).gaps = s.gaps ∧
    (s.wayClear way).sent = s.sent ∧ (s.wayClear way).freeCtr = s.freeCtr ∧ (s.wayClear way).serial = s.serial ∧ (s.wayClear way).fatal = s.fatal ∧
    (s.wayClear way).isl = s.isl ∧ (s.wayClear way).chans = s.chans ∧ (s.wayClear way).eng = s.eng ∧ (s.wayClear way).slc = s.slc ∧
    (s.wayClear way).approx = s.approx ∧ (s.wayClear way).power = s.power ∧ (s.wayClear way).xlat = s.xlat ∧ (s.wayClear way).sems = s.sems ∧
    (s.wayClear way).te = s.te ∧ (s.wayClear way).caddy = s.caddy ∧ (s.wayClear way).queues = s.queues ∧ (s.wayClear way).link = s.link ∧
    (s.wayClear way).parcels = s.parcels ∧ (s.wayClear way).jobs = s.jobs ∧ (s.wayClear way).plat = s.plat ∧
    (s.wayClear way).jobResult = s.jobResult ∧ (s.wayClear way).nextJobId = s.nextJobId ∧ (s.wayClear way).start = s.start ∧
    (s.wayClear way).ledger = s.ledger ∧ (s.wayClear way).dieId = s.dieId ∧ (s.wayClear way).fab = s.fab ∧ (s.wayClear way).agree = s.agree ∧
    (s.wayClear way).dict = s.dict ∧ (s.wayClear way).streams = s.streams ∧ (s.wayClear way).kettle = s.kettle ∧ (s.wayClear way).sec = s.sec ∧
    (s.wayClear way).fb = s.fb ∧ (s.wayClear way).svc = s.svc ∧ (s.wayClear way).pending = s.pending := by
  refine ⟨?_, ?_, ?_, ?_, ?_, ?_, ?_, ?_, ?_, ?_, ?_, ?_, ?_, ?_, ?_, ?_, ?_, ?_, ?_, ?_, ?_, ?_, ?_, ?_, ?_, ?_, ?_, ?_, ?_, ?_, ?_, ?_, ?_, ?_, ?_, ?_, ?_⟩ <;> rfl

/-- `State.waysClear` changes nothing but `mem`. -/
@[simp] theorem State.waysClear_frame (s : State) (mask : Nat) :
    (s.waysClear mask).now = s.now ∧ (s.waysClear mask).reply = s.reply ∧ (s.waysClear mask).events = s.events ∧ (s.waysClear mask).gaps = s.gaps ∧
    (s.waysClear mask).sent = s.sent ∧ (s.waysClear mask).freeCtr = s.freeCtr ∧ (s.waysClear mask).serial = s.serial ∧
    (s.waysClear mask).fatal = s.fatal ∧ (s.waysClear mask).isl = s.isl ∧ (s.waysClear mask).chans = s.chans ∧ (s.waysClear mask).eng = s.eng ∧
    (s.waysClear mask).slc = s.slc ∧ (s.waysClear mask).approx = s.approx ∧ (s.waysClear mask).power = s.power ∧ (s.waysClear mask).xlat = s.xlat ∧
    (s.waysClear mask).sems = s.sems ∧ (s.waysClear mask).te = s.te ∧ (s.waysClear mask).caddy = s.caddy ∧ (s.waysClear mask).queues = s.queues ∧
    (s.waysClear mask).link = s.link ∧ (s.waysClear mask).parcels = s.parcels ∧ (s.waysClear mask).jobs = s.jobs ∧ (s.waysClear mask).plat = s.plat ∧
    (s.waysClear mask).jobResult = s.jobResult ∧ (s.waysClear mask).nextJobId = s.nextJobId ∧ (s.waysClear mask).start = s.start ∧
    (s.waysClear mask).ledger = s.ledger ∧ (s.waysClear mask).dieId = s.dieId ∧ (s.waysClear mask).fab = s.fab ∧ (s.waysClear mask).agree = s.agree ∧
    (s.waysClear mask).dict = s.dict ∧ (s.waysClear mask).streams = s.streams ∧ (s.waysClear mask).kettle = s.kettle ∧
    (s.waysClear mask).sec = s.sec ∧ (s.waysClear mask).fb = s.fb ∧ (s.waysClear mask).svc = s.svc ∧ (s.waysClear mask).pending = s.pending := by
  unfold State.waysClear
  induction maskBits 16 mask generalizing s with
  | nil => simp
  | cons a l ih => simp only [List.foldl_cons, ih]; simp

/-- `State.dcDrop` changes nothing but `mem`. -/
@[simp] theorem State.dcDrop_frame (s : State) (pa : Nat) :
    (s.dcDrop pa).now = s.now ∧ (s.dcDrop pa).reply = s.reply ∧ (s.dcDrop pa).events = s.events ∧ (s.dcDrop pa).gaps = s.gaps ∧
    (s.dcDrop pa).sent = s.sent ∧ (s.dcDrop pa).freeCtr = s.freeCtr ∧ (s.dcDrop pa).serial = s.serial ∧ (s.dcDrop pa).fatal = s.fatal ∧
    (s.dcDrop pa).isl = s.isl ∧ (s.dcDrop pa).chans = s.chans ∧ (s.dcDrop pa).eng = s.eng ∧ (s.dcDrop pa).slc = s.slc ∧
    (s.dcDrop pa).approx = s.approx ∧ (s.dcDrop pa).power = s.power ∧ (s.dcDrop pa).xlat = s.xlat ∧ (s.dcDrop pa).sems = s.sems ∧
    (s.dcDrop pa).te = s.te ∧ (s.dcDrop pa).caddy = s.caddy ∧ (s.dcDrop pa).queues = s.queues ∧ (s.dcDrop pa).link = s.link ∧
    (s.dcDrop pa).parcels = s.parcels ∧ (s.dcDrop pa).jobs = s.jobs ∧ (s.dcDrop pa).plat = s.plat ∧ (s.dcDrop pa).jobResult = s.jobResult ∧
    (s.dcDrop pa).nextJobId = s.nextJobId ∧ (s.dcDrop pa).start = s.start ∧ (s.dcDrop pa).ledger = s.ledger ∧ (s.dcDrop pa).dieId = s.dieId ∧
    (s.dcDrop pa).fab = s.fab ∧ (s.dcDrop pa).agree = s.agree ∧ (s.dcDrop pa).dict = s.dict ∧ (s.dcDrop pa).streams = s.streams ∧
    (s.dcDrop pa).kettle = s.kettle ∧ (s.dcDrop pa).sec = s.sec ∧ (s.dcDrop pa).fb = s.fb ∧ (s.dcDrop pa).svc = s.svc ∧
    (s.dcDrop pa).pending = s.pending := by
  unfold State.dcDrop; dsimp only
  (repeat' split) <;> simp

/-- `State.homeSnoop` changes nothing but `sent`, `mem`. -/
@[simp] theorem State.homeSnoop_frame (s : State) (write : Bool) (l : Nat) :
    (s.homeSnoop write l).now = s.now ∧ (s.homeSnoop write l).reply = s.reply ∧ (s.homeSnoop write l).events = s.events ∧
    (s.homeSnoop write l).gaps = s.gaps ∧ (s.homeSnoop write l).freeCtr = s.freeCtr ∧ (s.homeSnoop write l).serial = s.serial ∧
    (s.homeSnoop write l).fatal = s.fatal ∧ (s.homeSnoop write l).isl = s.isl ∧ (s.homeSnoop write l).chans = s.chans ∧
    (s.homeSnoop write l).eng = s.eng ∧ (s.homeSnoop write l).slc = s.slc ∧ (s.homeSnoop write l).approx = s.approx ∧
    (s.homeSnoop write l).power = s.power ∧ (s.homeSnoop write l).xlat = s.xlat ∧ (s.homeSnoop write l).sems = s.sems ∧
    (s.homeSnoop write l).te = s.te ∧ (s.homeSnoop write l).caddy = s.caddy ∧ (s.homeSnoop write l).queues = s.queues ∧
    (s.homeSnoop write l).link = s.link ∧ (s.homeSnoop write l).parcels = s.parcels ∧ (s.homeSnoop write l).jobs = s.jobs ∧
    (s.homeSnoop write l).plat = s.plat ∧ (s.homeSnoop write l).jobResult = s.jobResult ∧ (s.homeSnoop write l).nextJobId = s.nextJobId ∧
    (s.homeSnoop write l).start = s.start ∧ (s.homeSnoop write l).ledger = s.ledger ∧ (s.homeSnoop write l).dieId = s.dieId ∧
    (s.homeSnoop write l).fab = s.fab ∧ (s.homeSnoop write l).agree = s.agree ∧ (s.homeSnoop write l).dict = s.dict ∧
    (s.homeSnoop write l).streams = s.streams ∧ (s.homeSnoop write l).kettle = s.kettle ∧ (s.homeSnoop write l).sec = s.sec ∧
    (s.homeSnoop write l).fb = s.fb ∧ (s.homeSnoop write l).svc = s.svc ∧ (s.homeSnoop write l).pending = s.pending := by
  unfold State.homeSnoop
  have h : ∀ (hs : List Agent) (t : State), hs.foldl (fun s a => s.send (.snoop a write l)) t = { t with sent := (hs.foldl (fun s a => s.send (.snoop a write l)) t).sent } := by
    intro hs
    induction hs with
    | nil => intro t; rfl
    | cons a l ih => intro t; rw [List.foldl_cons, ih]; rfl
  dsimp only
  split
  · simp
  · split
    · simp
    · rw [h]; simp

/-- `State.homeInval` changes nothing but `mem`. -/
@[simp] theorem State.homeInval_frame (s : State) (l : Nat) :
    (s.homeInval l).now = s.now ∧ (s.homeInval l).reply = s.reply ∧ (s.homeInval l).events = s.events ∧ (s.homeInval l).gaps = s.gaps ∧
    (s.homeInval l).sent = s.sent ∧ (s.homeInval l).freeCtr = s.freeCtr ∧ (s.homeInval l).serial = s.serial ∧ (s.homeInval l).fatal = s.fatal ∧
    (s.homeInval l).isl = s.isl ∧ (s.homeInval l).chans = s.chans ∧ (s.homeInval l).eng = s.eng ∧ (s.homeInval l).slc = s.slc ∧
    (s.homeInval l).approx = s.approx ∧ (s.homeInval l).power = s.power ∧ (s.homeInval l).xlat = s.xlat ∧ (s.homeInval l).sems = s.sems ∧
    (s.homeInval l).te = s.te ∧ (s.homeInval l).caddy = s.caddy ∧ (s.homeInval l).queues = s.queues ∧ (s.homeInval l).link = s.link ∧
    (s.homeInval l).parcels = s.parcels ∧ (s.homeInval l).jobs = s.jobs ∧ (s.homeInval l).plat = s.plat ∧ (s.homeInval l).jobResult = s.jobResult ∧
    (s.homeInval l).nextJobId = s.nextJobId ∧ (s.homeInval l).start = s.start ∧ (s.homeInval l).ledger = s.ledger ∧ (s.homeInval l).dieId = s.dieId ∧
    (s.homeInval l).fab = s.fab ∧ (s.homeInval l).agree = s.agree ∧ (s.homeInval l).dict = s.dict ∧ (s.homeInval l).streams = s.streams ∧
    (s.homeInval l).kettle = s.kettle ∧ (s.homeInval l).sec = s.sec ∧ (s.homeInval l).fb = s.fb ∧ (s.homeInval l).svc = s.svc ∧
    (s.homeInval l).pending = s.pending := by
  unfold State.homeInval; dsimp only
  (repeat' split) <;> simp

/-- `State.chargeMc` changes nothing but `jobs`. -/
@[simp] theorem State.chargeMc_frame (s : State) (w : Who) (pa : Nat) (len : Nat) :
    (s.chargeMc w pa len).now = s.now ∧ (s.chargeMc w pa len).reply = s.reply ∧ (s.chargeMc w pa len).events = s.events ∧
    (s.chargeMc w pa len).gaps = s.gaps ∧ (s.chargeMc w pa len).sent = s.sent ∧ (s.chargeMc w pa len).freeCtr = s.freeCtr ∧
    (s.chargeMc w pa len).serial = s.serial ∧ (s.chargeMc w pa len).fatal = s.fatal ∧ (s.chargeMc w pa len).isl = s.isl ∧
    (s.chargeMc w pa len).chans = s.chans ∧ (s.chargeMc w pa len).eng = s.eng ∧ (s.chargeMc w pa len).slc = s.slc ∧
    (s.chargeMc w pa len).approx = s.approx ∧ (s.chargeMc w pa len).power = s.power ∧ (s.chargeMc w pa len).mem = s.mem ∧
    (s.chargeMc w pa len).xlat = s.xlat ∧ (s.chargeMc w pa len).sems = s.sems ∧ (s.chargeMc w pa len).te = s.te ∧
    (s.chargeMc w pa len).caddy = s.caddy ∧ (s.chargeMc w pa len).queues = s.queues ∧ (s.chargeMc w pa len).link = s.link ∧
    (s.chargeMc w pa len).parcels = s.parcels ∧ (s.chargeMc w pa len).plat = s.plat ∧ (s.chargeMc w pa len).jobResult = s.jobResult ∧
    (s.chargeMc w pa len).nextJobId = s.nextJobId ∧ (s.chargeMc w pa len).start = s.start ∧ (s.chargeMc w pa len).ledger = s.ledger ∧
    (s.chargeMc w pa len).dieId = s.dieId ∧ (s.chargeMc w pa len).fab = s.fab ∧ (s.chargeMc w pa len).agree = s.agree ∧
    (s.chargeMc w pa len).dict = s.dict ∧ (s.chargeMc w pa len).streams = s.streams ∧ (s.chargeMc w pa len).kettle = s.kettle ∧
    (s.chargeMc w pa len).sec = s.sec ∧ (s.chargeMc w pa len).fb = s.fb ∧ (s.chargeMc w pa len).svc = s.svc ∧
    (s.chargeMc w pa len).pending = s.pending := by
  unfold State.chargeMc; dsimp only
  (repeat' split) <;> simp

end Sys2Proof.Machine
end

