-- ==== Sys2Proof/Laws/Tab.lean ====
section
/-! SUPPORT. Laws of sparse tables: reading after a write, the canonical form, and that tables of equal contents in canonical form are equal. -/
namespace Sys2Proof

variable {α : Type} [Inhabited α]

@[simp] theorem Tab.rd_nil (i : Nat) : Tab.rd ([] : Tab α) i = default := rfl

theorem Tab.rd_cons (k : Nat) (v : α) (r : Tab α) (i : Nat) : Tab.rd ((k, v) :: r) i = if k = i then v else Tab.rd r i := rfl

theorem Tab.rd_del (t : Tab α) (i j : Nat) : Tab.rd (Tab.del i t) j = if j = i then default else Tab.rd t j := by
  induction t with
  | nil => simp [Tab.del]
  | cons p r ih =>
    obtain ⟨k, x⟩ := p
    by_cases hk : k = i
    · subst hk
      simp only [Tab.del, if_true, ih, Tab.rd_cons]
      by_cases hj : j = k
      · simp [hj]
      · simp [hj, Ne.symm hj]
    · simp only [Tab.del, hk, if_false, Tab.rd_cons, ih]
      by_cases hj : j = i
      · simp [hj, hk]
      · simp [hj]

theorem Tab.rd_ins (t : Tab α) (i j : Nat) (v : α) (h : ∀ p ∈ t, p.1 ≠ i) :
    Tab.rd (Tab.ins i v t) j = if j = i then v else Tab.rd t j := by
  induction t with
  | nil => simp only [Tab.ins, Tab.rd_cons, Tab.rd_nil, eq_comm]
  | cons p r ih =>
    obtain ⟨k, x⟩ := p
    have hk : k ≠ i := h (k, x) (by simp)
    have ih' := ih (fun q hq => h q (by simp [hq]))
    by_cases hlt : i < k
    · simp only [Tab.ins, hlt, if_true, Tab.rd_cons]
      by_cases hj : j = i
      · simp [hj]
      · simp [hj, Ne.symm hj]
    · simp only [Tab.ins, hlt, if_false, Tab.rd_cons, ih']
      by_cases hj : j = i
      · simp [hj, hk]
      · simp [hj]

omit [Inhabited α] in
theorem Tab.ne_of_mem_del (t : Tab α) (i : Nat) : ∀ p ∈ Tab.del i t, p.1 ≠ i := by
  induction t with
  | nil => simp [Tab.del]
  | cons p r ih =>
    obtain ⟨k, x⟩ := p
    by_cases hk : k = i
    · simpa [Tab.del, hk] using ih
    · simp only [Tab.del, hk, if_false, List.mem_cons]
      rintro q (rfl | hq)
      · exact hk
      · exact ih q hq

variable [DecidableEq α]

/-- A read after a write gives the value written, at every other number what was there. -/
theorem Tab.rd_wr (t : Tab α) (i j : Nat) (v : α) : Tab.rd (Tab.wr t i v) j = if j = i then v else Tab.rd t j := by
  unfold Tab.wr
  by_cases hv : v = default
  · simp [hv, Tab.rd_del]
  · simp only [hv, if_false]
    rw [Tab.rd_ins _ _ _ _ (Tab.ne_of_mem_del t i), Tab.rd_del]
    by_cases hj : j = i <;> simp [hj]

@[simp] theorem Tab.rd_wr_same (t : Tab α) (i : Nat) (v : α) : Tab.rd (Tab.wr t i v) i = v := by simp [Tab.rd_wr]

theorem Tab.rd_wr_other (t : Tab α) {i j : Nat} (v : α) (h : j ≠ i) : Tab.rd (Tab.wr t i v) j = Tab.rd t j := by simp [Tab.rd_wr, h]

/-- A changed entry reads as changed, every other as before. -/
theorem Tab.rd_upd (t : Tab α) (i j : Nat) (f : α → α) : Tab.rd (Tab.upd t i f) j = if j = i then f (Tab.rd t i) else Tab.rd t j :=
  Tab.rd_wr t i j _

@[simp] theorem Tab.rd_upd_same (t : Tab α) (i : Nat) (f : α → α) : Tab.rd (Tab.upd t i f) i = f (Tab.rd t i) := by simp [Tab.rd_upd]

theorem Tab.rd_upd_other (t : Tab α) {i j : Nat} (f : α → α) (h : j ≠ i) : Tab.rd (Tab.upd t i f) j = Tab.rd t j := by simp [Tab.rd_upd, h]

/-! ## The canonical form -/

/-- The canonical form as a proposition: the numbers rise strictly, and no entry is the default. -/
theorem Tab.wf_iff (t : Tab α) : t.wf = true ↔ t.Pairwise (fun a b => a.1 < b.1) ∧ ∀ p ∈ t, p.2 ≠ default := by
  have hs : ∀ u : Tab α, Tab.sorted u = true ↔ u.Pairwise (fun a b => a.1 < b.1) := by
    intro u
    induction u with
    | nil => simp [Tab.sorted]
    | cons p r ih =>
      obtain ⟨k, x⟩ := p
      cases r with
      | nil => simp [Tab.sorted]
      | cons q r' =>
        obtain ⟨k', x'⟩ := q
        simp only [Tab.sorted, Bool.and_eq_true, decide_eq_true_eq, ih, List.pairwise_cons, List.mem_cons]
        constructor
        · rintro ⟨h, h1, h2⟩
          refine ⟨?_, h1, h2⟩
          rintro a (rfl | ha)
          · exact h
          · exact lt_trans h (h1 a ha)
        · rintro ⟨h, h1, h2⟩
          exact ⟨h _ (Or.inl rfl), h1, h2⟩
  simp [Tab.wf, hs]

@[simp] theorem Tab.wf_nil : Tab.wf ([] : Tab α) = true := by simp [Tab.wf_iff]

omit [Inhabited α] [DecidableEq α] in
theorem Tab.mem_del {t : Tab α} {i : Nat} {p : Nat × α} (h : p ∈ Tab.del i t) : p ∈ t := by
  induction t with
  | nil => simp [Tab.del] at h
  | cons q r ih =>
    obtain ⟨k, x⟩ := q
    by_cases hk : k = i
    · simp only [Tab.del, hk, if_true] at h
      exact List.mem_cons_of_mem _ (ih h)
    · simp only [Tab.del, hk, if_false, List.mem_cons] at h
      rcases h with h | h
      · simp [h]
      · exact List.mem_cons_of_mem _ (ih h)

omit [Inhabited α] [DecidableEq α] in
theorem Tab.pairwise_del {t : Tab α} (i : Nat) (h : t.Pairwise (fun a b => a.1 < b.1)) :
    (Tab.del i t).Pairwise (fun a b => a.1 < b.1) := by
  induction t with
  | nil => simp [Tab.del]
  | cons q r ih =>
    obtain ⟨k, x⟩ := q
    rw [List.pairwise_cons] at h
    by_cases hk : k = i
    · simpa [Tab.del, hk] using ih h.2
    · simp only [Tab.del, hk, if_false, List.pairwise_cons]
      exact ⟨fun a ha => h.1 a (Tab.mem_del ha), ih h.2⟩

omit [Inhabited α] [DecidableEq α] in
theorem Tab.mem_ins {t : Tab α} {i : Nat} {v : α} {p : Nat × α} (h : p ∈ Tab.ins i v t) : p = (i, v) ∨ p ∈ t := by
  induction t with
  | nil => simpa [Tab.ins] using h
  | cons q r ih =>
    obtain ⟨k, x⟩ := q
    by_cases hlt : i < k
    · simp only [Tab.ins, hlt, if_true, List.mem_cons] at h
      simpa using h
    · simp only [Tab.ins, hlt, if_false, List.mem_cons] at h
      rcases h with h | h
      · simp [h]
      · rcases ih h with h | h
        · exact Or.inl h
        · simp [h]

omit [Inhabited α] [DecidableEq α] in
theorem Tab.pairwise_ins {t : Tab α} (i : Nat) (v : α) (h : t.Pairwise (fun a b => a.1 < b.1)) (hi : ∀ p ∈ t, p.1 ≠ i) :
    (Tab.ins i v t).Pairwise (fun a b => a.1 < b.1) := by
  induction t with
  | nil => simp [Tab.ins]
  | cons q r ih =>
    obtain ⟨k, x⟩ := q
    rw [List.pairwise_cons] at h
    have hki : k ≠ i := hi (k, x) (by simp)
    by_cases hlt : i < k
    · simp only [Tab.ins, hlt, if_true, List.pairwise_cons, List.mem_cons]
      refine ⟨?_, h.1, h.2⟩
      rintro a (rfl | ha)
      · exact hlt
      · exact lt_trans hlt (h.1 a ha)
    · simp only [Tab.ins, hlt, if_false, List.pairwise_cons]
      refine ⟨fun a ha => ?_, ih h.2 (fun p hp => hi p (by simp [hp]))⟩
      rcases Tab.mem_ins ha with rfl | ha
      · exact lt_of_le_of_ne (Nat.le_of_not_lt hlt) hki
      · exact h.1 a ha

/-- A write keeps the canonical form. -/
theorem Tab.wr_wf {t : Tab α} (i : Nat) (v : α) (h : t.wf = true) : (Tab.wr t i v).wf = true := by
  rw [Tab.wf_iff] at h ⊢
  unfold Tab.wr
  by_cases hv : v = default
  · rw [if_pos hv]
    exact ⟨Tab.pairwise_del i h.1, fun p hp => h.2 p (Tab.mem_del hp)⟩
  · rw [if_neg hv]
    refine ⟨Tab.pairwise_ins i v (Tab.pairwise_del i h.1) (Tab.ne_of_mem_del t i), fun p hp => ?_⟩
    rcases Tab.mem_ins hp with rfl | hp
    · exact hv
    · exact h.2 p (Tab.mem_del hp)

theorem Tab.upd_wf {t : Tab α} (i : Nat) (f : α → α) (h : t.wf = true) : (Tab.upd t i f).wf = true := Tab.wr_wf i _ h

/-- Keeping only some entries keeps the canonical form. -/
theorem Tab.filter_wf {t : Tab α} (f : Nat × α → Bool) (h : t.wf = true) : Tab.wf (t.filter f) = true := by
  rw [Tab.wf_iff] at h ⊢
  exact ⟨h.1.sublist List.filter_sublist, fun p hp => h.2 p (List.mem_of_mem_filter hp)⟩

omit [DecidableEq α] in
theorem Tab.rd_of_mem {t : Tab α} (h : t.Pairwise (fun a b => a.1 < b.1)) {p : Nat × α} (hp : p ∈ t) : Tab.rd t p.1 = p.2 := by
  induction t with
  | nil => simp at hp
  | cons q r ih =>
    obtain ⟨k, x⟩ := q
    rw [List.pairwise_cons] at h
    rcases List.mem_cons.mp hp with rfl | hp'
    · simp [Tab.rd_cons]
    · rw [Tab.rd_cons, if_neg (Nat.ne_of_lt (h.1 p hp')), ih h.2 hp']

omit [DecidableEq α] in
theorem Tab.rd_eq_default {t : Tab α} {i : Nat} (h : ∀ p ∈ t, p.1 ≠ i) : Tab.rd t i = default := by
  induction t with
  | nil => rfl
  | cons q r ih =>
    obtain ⟨k, x⟩ := q
    rw [Tab.rd_cons, if_neg (h (k, x) (by simp)), ih (fun p hp => h p (by simp [hp]))]

/-- Tables in canonical form that read the same everywhere are the same table. -/
theorem Tab.eq_of_rd : ∀ {t u : Tab α}, t.wf = true → u.wf = true → (∀ i, Tab.rd t i = Tab.rd u i) → t = u := by
  have key : ∀ {t u : Tab α}, t.wf = true → u.wf = true → (∀ i, Tab.rd t i = Tab.rd u i) → ∀ p ∈ t, p ∈ u := by
    intro t u ht hu h p hp
    rw [Tab.wf_iff] at ht hu
    have hr := Tab.rd_of_mem ht.1 hp
    rw [h p.1] at hr
    by_cases hm : ∃ q ∈ u, q.1 = p.1
    · obtain ⟨q, hq, hqp⟩ := hm
      have hr' := Tab.rd_of_mem hu.1 hq
      rw [hqp, hr] at hr'
      have : q = p := Prod.ext hqp hr'.symm
      exact this ▸ hq
    · have hd := Tab.rd_eq_default (t := u) (i := p.1) (fun q hq hqp => hm ⟨q, hq, hqp⟩)
      exact absurd (hr.symm.trans hd) (ht.2 p hp)
  intro t u ht hu h
  have hp : t.Perm u := by
    rw [List.perm_ext_iff_of_nodup]
    · exact fun a => ⟨key ht hu h a, key hu ht (fun i => (h i).symm) a⟩
    · exact ((Tab.wf_iff t).mp ht).1.imp (fun hab e => by rw [e] at hab; exact lt_irrefl _ hab)
    · exact ((Tab.wf_iff u).mp hu).1.imp (fun hab e => by rw [e] at hab; exact lt_irrefl _ hab)
  exact hp.eq_of_pairwise (fun a b _ _ hab hba => absurd (lt_trans hab hba) (lt_irrefl _)) ((Tab.wf_iff t).mp ht).1 ((Tab.wf_iff u).mp hu).1

end Sys2Proof
end

