-- ==== Sys2Proof/Laws/Memory.lean ====
section
/-! SUPPORT. Laws of memory: the bytes a write stores, the bytes it leaves, and the canonical form that every write keeps. -/
namespace Sys2Proof

/-- A write leaves every byte outside the bytes stored. -/
theorem memWrite_rd_outside (m : Tab Byte) (a : Nat) (bs : List Byte) (x : Nat) (h : x < a ∨ a + bs.length ≤ x) :
    Tab.rd (memWrite m a bs) x = Tab.rd m x := by
  induction bs generalizing m a with
  | nil => rfl
  | cons b bs ih =>
    simp only [List.length_cons] at h
    rw [memWrite, ih _ _ (by omega), Tab.rd_wr_other _ _ (by omega)]

/-- A write stores its bytes in order. -/
theorem memWrite_rd_inside (m : Tab Byte) (a : Nat) (bs : List Byte) (k : Nat) (h : k < bs.length) :
    Tab.rd (memWrite m a bs) (a + k) = bs[k] := by
  induction bs generalizing m a k with
  | nil => simp at h
  | cons b bs ih =>
    cases k with
    | zero => rw [memWrite, memWrite_rd_outside _ _ _ _ (by omega)]; simp
    | succ k =>
      have := ih (Tab.wr m a b) (a + 1) k (by simpa using h)
      rw [memWrite, show a + (k + 1) = a + 1 + k by omega, this]
      simp

/-- What was written is read back. -/
theorem memRead_memWrite (m : Tab Byte) (a : Nat) (bs : List Byte) : memRead (memWrite m a bs) a bs.length = bs := by
  apply List.ext_getElem
  · simp [memRead]
  · intro k h1 h2
    simp only [memRead, List.getElem_map, List.getElem_range]
    exact memWrite_rd_inside m a bs k h2

@[simp] theorem memRead_length (m : Tab Byte) (a n : Nat) : (memRead m a n).length = n := by simp [memRead]

/-- A read of a run that a write does not meet is as before. -/
theorem memRead_memWrite_disjoint (m : Tab Byte) (a : Nat) (bs : List Byte) (b n : Nat) (h : b + n ≤ a ∨ a + bs.length ≤ b) :
    memRead (memWrite m a bs) b n = memRead m b n := by
  unfold memRead
  apply List.map_congr_left
  intro i hi
  rw [List.mem_range] at hi
  exact memWrite_rd_outside m a bs _ (by omega)

/-- A write keeps the canonical form. -/
theorem memWrite_wf {m : Tab Byte} (a : Nat) (bs : List Byte) (h : m.wf = true) : (memWrite m a bs).wf = true := by
  induction bs generalizing m a with
  | nil => exact h
  | cons b bs ih => exact ih _ (Tab.wr_wf a b h)

/-- A masked write keeps the canonical form. -/
theorem memWriteMasked_wf {m : Tab Byte} (a : Nat) (bs : List (Byte × Bool)) (h : m.wf = true) :
    (memWriteMasked m a bs).wf = true := by
  induction bs generalizing m a with
  | nil => exact h
  | cons p bs ih =>
    obtain ⟨b, k⟩ := p
    rw [memWriteMasked]
    apply ih
    split
    · exact Tab.wr_wf a b h
    · exact h

namespace Machine

/-- Every memory is in canonical form after reset. -/
theorem reset_memWf : State.reset.memWf := by
  refine ⟨rfl, rfl, fun n => ?_⟩
  exact rfl

/-- A slice's store keeps its bytes in canonical form. -/
theorem Slice.store_wf (x : Slice) (off : Nat) (bs : List Byte) (h : x.bytes.wf = true) : (x.store off bs).bytes.wf = true :=
  memWrite_wf off bs h

end Machine
end Sys2Proof
end

