-- ==== Sys2Proof/Laws/Ops.lean ====
section
/-! SUPPORT. What the shared gates do where they let a command through: a served request, a decoded instruction, an issued one, a command that
starts. -/
namespace Sys2Proof.Machine
open Sys2Proof

/-- On an open die a request reaches its meaning (18 R703-R707). -/
theorem State.served_serving {s : State} (h : s.serving) (k : Nat) (f : State → State) : s.served k f = f s := by
  obtain ⟨h1, h2⟩ := h
  simp [State.served, h1, h2]

/-- On an open die a request for open queues reaches its meaning (18 R707). -/
theorem State.servedOpen_serving {s : State} (h : s.serving) (k : Nat) (f : State → State) : s.servedOpen k f = f s := by
  have h2 := h.2
  simp [State.servedOpen, h2, State.served_serving h]

/-- An instruction that decodes is handed on with the state its fetch leaves (04 R113). -/
theorem withInstr_atInstr {s u : State} {n : Nat} {t : Task} {i : EInstr} (h : s.atInstr n t i u) (hi : i ≠ .bad)
    (k : State → Task → EInstr → State) : withInstr s n k = k u t i := by
  obtain ⟨h1, h2, h3, h4, h5, w, h6, h7⟩ := h
  unfold withInstr
  simp only [h1, h2, h3, h4, h5, h6, h7]
  cases i <;> simp_all

/-- An instruction past the gate is executed (03 R83). -/
theorem withIssued_hasIssued {s : State} {n : Nat} {t : Task} {i : Issued} (h : s.hasIssued n t i) (k : Task → Issued → State) :
    withIssued s n k = k t i := by
  obtain ⟨h1, h2, h3, h4⟩ := h
  simp [withIssued, h1, h2, h3, h4]

/-- A command that starts is handed on (10 R381). -/
theorem State.startHead_starts {s u : State} {q op p slot : Nat} {c : Cmd} (h : s.starts q op p slot c u)
    (k : State → Nat → Nat → Cmd → State) : s.startHead q op k = k u p slot c := by
  obtain ⟨c0, v, h1, h2, h3, h4, cs, h5⟩ := h
  subst h4
  simp only [State.startHead, h1, h2, h3, Bool.false_eq_true, if_false]
  split
  · next c' cs' h6 => rw [h5] at h6; cases h6; rfl
  · next h6 => rw [h5] at h6; cases h6

/-- A command of a form that starts is handed on (10 R381). -/
theorem State.runHead_starts {s u : State} {q op arg p slot : Nat} {c : Cmd} (h : s.startsForm q op arg p slot c u)
    (k : State → Nat → Nat → Cmd → State) : s.runHead q op arg k = k u p slot c := by
  obtain ⟨⟨c1, h1⟩, h2⟩ := h
  obtain ⟨c0, v, h3, h4⟩ := id h2
  have h5 : c1.started = false := by
    simp only [State.headArg] at h1
    simp only [State.headToStart] at h3
    split at h1
    · next c' cs hc =>
      split at h1
      · cases h1
        split at h3
        · next c2 cs2 p2 s2 hc2 _ =>
          rw [hc] at hc2; cases hc2
          split at h3
          · next hh => revert hh; cases c1.started <;> simp
          · cases h3
        · cases h3
      · cases h1
    · cases h1
  simp [State.runHead, h1, h5, State.startHead_starts h2]

/-- A caddy command that starts on its step queue, with nothing on another die, is applied (12 R436, R442). -/
theorem State.caddyCmd_starts {s u : State} {q op p slot : Nat} {c : Cmd} (h : s.starts q op p slot c u) (bound : Bool)
    (hb : bound = true → u.stepQueue p slot q = true) (hr : remoteExts (c.record.flatMap Prod.snd) = false)
    (k : State → Nat → Nat → Cmd → State) : s.caddyCmd q op bound k = k u p slot c := by
  obtain ⟨c0, v, h1, h2⟩ := id h
  have hgo : (if bound && !u.stepQueue p slot q then u.endCmd q c.serial .unsupported .none
      else if remoteExts (c.record.flatMap Prod.snd) then u.endCmd q c.serial .faulted .exec else k u p slot c) = k u p slot c := by
    cases bound with
    | false => simp [hr]
    | true => simp [hb rfl, hr]
  simp only [State.headToStart] at h1
  split at h1
  · next c1 cs p1 s1 hc hj =>
    split at h1
    · next hh =>
      cases h1
      have h5 : c0.started = false := by revert hh; cases c0.started <;> simp
      have h6 : c0.refusal = none := by revert hh; cases c0.refusal <;> simp
      have h7 : dOp c0.bytes = op := by
        revert hh; simp only [Bool.and_eq_true, beq_iff_eq]; exact fun hh => hh.2
      simp only [State.caddyCmd, hc, hj, h5, h7, Cmd.isOver, h6]
      simp only [ne_eq, not_true_eq_false, Option.isSome_none, Bool.false_and, Bool.or_self, Bool.false_eq_true, or_self, if_false]
      rw [State.startHead_starts h]
      exact hgo
    · cases h1
  · cases h1

/-- A step that may start is started (10 R383). -/
theorem State.runStep_starts {s : State} {q k kind : Nat} {x : StepCtx} (h : s.stepStarts q k kind x)
    (go : State → StepCtx → State) (on : State → StepCtx → Gather → State) : s.runStep q k kind go on = go s x := by
  simp [State.runStep, h.1, h.2]

/-- A step whose transfer is complete goes on (14 R543). -/
theorem State.runStep_goesOn {s : State} {q k kind : Nat} {x : StepCtx} {g : Gather} (h : s.stepGoesOn q k kind x g)
    (go : State → StepCtx → State) (on : State → StepCtx → Gather → State) : s.runStep q k kind go on = on s x g := by
  obtain ⟨h1, h2, h3, h4⟩ := h
  simp [State.runStep, h1, h2, h3, h4]

end Sys2Proof.Machine
end

