-- ==== Sys2Proof/WellFormed.lean ====
section
/-! DEFINITION. Well-formed commands: the operands whose types are wider than what their transports can carry. -/
namespace Sys2Proof

/-- A principal names a parcel that exists (11 R398). -/
def Principal.wf : Principal → Bool
  | .parcel p => decide (p < 8)
  | _ => true

/-- A message's fields fit their places in its header and its payload its lines (14 Table 14.6). -/
def Msg.wf (m : Msg) : Bool :=
  decide (m.op < 256 ∧ m.ctl < 256 ∧ m.dest < 65536 ∧ m.src < 65536 ∧ m.tag < 65536 ∧ m.fabric < 65536 ∧ m.addr < 2 ^ 48
    ∧ m.payload.length ≤ 512)

/-- A path names a mailbox window or a die that exists (21 Table 21.2, Table 21.3). -/
def Path.wf : Path → Bool
  | .window w => decide (w < 16)
  | .vc0 die _ => decide (die < 65535)
  | .i3c => true

/-- The surroundings of a start name steps, units and fuse words that exist (18 Table 18.3). -/
def StartEnv.wf (e : StartEnv) : Bool :=
  decide (e.gib.length = 4) && e.fails.all (fun f => decide (f.1 < 48 ∧ (f.2.2 = 3 ∨ f.2.2 = 4)))
    && e.ms.all (fun m => decide (m.1 < 48)) && (match e.hang with | some h => decide (h.1 < 48) | none => true)

/-- Whether a command's operands are such as its transport can carry. -/
def Instr.wf : Instr → Bool
  | .islandFreqTargetWrite by' _ _ => by'.wf
  | .islandSagReport _ => true
  | .islandReset _ _ => true
  | .timingErrorReplay _ => true
  | .replayWindowEnd _ => true
  | .tripleFlag _ => true
  | .stepUpComplete _ => true
  | .instructionIssue _ => true
  | .writerClaim _ _ => true
  | .accumulatorDrainDone _ _ => true
  | .simmerRampDown _ => true
  | .engineStop _ => true
  | .taskStart _ => true
  | .endTask _ => true
  | .loop _ => true
  | .nop _ => true
  | .mm _ => true
  | .mma _ => true
  | .vec _ => true
  | .fsig _ => true
  | .fwait _ => true
  | .semacq _ => true
  | .semrel _ => true
  | .fence _ => true
  | .fenceComplete _ => true
  | .alProfileWrite by' _ _ _ _ _ _ _ => by'.wf
  | .parcelAlCapWrite by' _ _ => by'.wf
  | .voltageReached _ => true
  | .teSegmentsWrite by' _ _ => by'.wf
  | .teNodeWaysWrite by' _ _ => by'.wf
  | .treeLoad _ => true
  | .treeRun _ => true
  | .teSampleAdmit _ _ => true
  | .teNodeReturn _ _ => true
  | .teBackgroundCheck _ => true
  | .rdS _ line => decide (line < 2 ^ 57)
  | .rdO _ line => decide (line < 2 ^ 57)
  | .upg _ line => decide (line < 2 ^ 57)
  | .wb _ line data => decide (line < 2 ^ 57) && decide (data.length = 128)
  | .evict _ line => decide (line < 2 ^ 57)
  | .ack _ line => decide (line < 2 ^ 57)
  | .ackD _ line data => decide (line < 2 ^ 57) && decide (data.length = 128)
  | .gntAck _ line => decide (line < 2 ^ 57)
  | .snoopSlow _ line _ => decide (line < 2 ^ 57)
  | .hostDcWaysWrite by' _ => by'.wf
  | .sramPatrol _ _ _ => true
  | .mcPatrol _ _ _ _ => true
  | .xlatConfigWrite by' _ _ _ _ _ _ _ _ _ => by'.wf
  | .faultRingWrite by' _ _ _ _ => by'.wf
  | .faultRingHeadWrite by' _ => by'.wf
  | .faultRecordDelivery => true
  | .faultResponseRetry by' _ => by'.wf
  | .faultResponseFail by' _ => by'.wf
  | .shootdown by' _ _ _ _ _ _ => by'.wf
  | .shootdownComplete => true
  | .prefetchMigrate _ => true
  | .prefetchWarm _ => true
  | .adviseNormal _ => true
  | .adviseStream _ => true
  | .adviseKeep _ => true
  | .adviseDrop _ => true
  | .semForceAbandon by' _ => by'.wf
  | .queueOpen by' _ => by'.wf
  | .queueClose by' _ => by'.wf
  | .queueReset by' _ => by'.wf
  | .doorbell _ _ => true
  | .cplHeadWrite _ _ => true
  | .commandConsume _ => true
  | .nopCommand _ => true
  | .run _ => true
  | .firstFreePlacement _ => true
  | .dmaIn _ _ => true
  | .dmaOut _ _ => true
  | .copy _ _ => true
  | .atomic _ _ => true
  | .semAcq _ _ => true
  | .semRel _ _ => true
  | .ring _ _ => true
  | .rowIn _ _ => true
  | .rowOut _ _ => true
  | .rowHist _ _ => true
  | .commandComplete _ => true
  | .completionDelivery _ => true
  | .watchdogExpiry _ => true
  | .mrd _ _ _ addr len => decide (addr + len ≤ 2 ^ 64)
  | .mwr _ _ _ addr beats data => decide (addr + 128 * beats.val ≤ 2 ^ 64) && decide (data.length ≤ 128 * beats.val)
  | .mwrP _ _ _ addr data => decide (addr + data.length ≤ 2 ^ 64) && decide (data.length ≤ 128)
  | .cmp _ _ _ addr data => decide (addr + data.length ≤ 2 ^ 64) && decide (data.length ≤ 2048)
  | .agentReset _ => true
  | .linkReset _ => true
  | .attachReset _ => true
  | .platRequest by' _ => by'.wf
  | .platClearDone => true
  | .jobCreate by' _ _ _ _ _ _ _ _ => by'.wf
  | .jobDestroy by' _ _ _ => by'.wf
  | .jobSuspend by' _ _ _ => by'.wf
  | .jobResume by' _ _ _ => by'.wf
  | .jobFault by' _ _ _ => by'.wf
  | .sliceExpiry _ => true
  | .graceExpiry _ => true
  | .jobBoundary _ => true
  | .switchInComplete _ => true
  | .caddyQuotaWrite by' _ _ => by'.wf
  | .caddyBind _ => true
  | .seqOpen _ => true
  | .seqAppend _ => true
  | .seqFeed _ => true
  | .seqClose _ => true
  | .caddyUnbind _ => true
  | .caddyStepDispatch _ => true
  | .caddyStepResults _ => true
  | .streamConfigWrite by' _ _ _ _ _ _ _ _ _ _ _ _ _ => by'.wf
  | .streamOpen by' _ => by'.wf
  | .streamClose by' _ => by'.wf
  | .srcTailWrite _ _ => true
  | .streamEntryDelivery _ => true
  | .consRecheck _ => true
  | .kettleProgramLoad by' _ => by'.wf
  | .kettleTargetWrite by' _ _ => by'.wf
  | .listen by' => by'.wf
  | .stop by' => by'.wf
  | .melFrame samples => decide (0 < samples.length)
  | .vectorRun => true
  | .kettleEnd => true
  | .matvec => true
  | .bias => true
  | .req => true
  | .relu => true
  | .maxp => true
  | .kettleCopy => true
  | .score => true
  | .kettleWakeSequence _ _ env => env.wf
  | .sensorPoll _ _ _ => true
  | .sensorIbi _ _ => true
  | .kwakeEdge _ _ => true
  | .debounceExpiry _ => true
  | .kettleEntryReady _ => true
  | .flitReceive _ bytes => decide (bytes.length = 64)
  | .recordCloseTimeout _ => true
  | .creditSendTimer _ => true
  | .idle _ _ => true
  | .credit _ totals => decide (totals.length = 16)
  | .nak _ _ => true
  | .resetNotice _ => true
  | .retrainReq _ _ => true
  | .auth _ _ _ _ data _ => decide (data.length ≤ 1024)
  | .authResendTimer _ => true
  | .linkAuthComplete _ => true
  | .linkAuthTimeout _ => true
  | .keyPhaseSwitch _ => true
  | .portDetect _ _ => true
  | .portEqualize _ _ => true
  | .laneMap _ _ _ _ _ _ => true
  | .linkInit _ _ _ _ _ _ => true
  | .portRetrain _ _ _ _ _ => true
  | .linkLoss _ => true
  | .routeTableWrite by' first entries => by'.wf && decide (first.val + entries.length ≤ 65536)
  | .rd m => m.wf
  | .wr m => m.wf
  | .wrm m => m.wf
  | .atom m => m.wf
  | .sem m => m.wf
  | .ringMessage m => m.wf
  | .brd m => m.wf
  | .bwr m => m.wf
  | .swr m => m.wf
  | .cseg m => m.wf
  | .cabort m => m.wf
  | .rdr m => m.wf
  | .slAck m => m.wf
  | .atomr m => m.wf
  | .semr m => m.wf
  | .txnTimeout _ => true
  | .tagReleaseTimeout _ => true
  | .collConfigWrite by' _ _ _ _ _ _ _ _ _ _ => by'.wf
  | .beacon _ _ => true
  | .beaconTimer => true
  | .beaconStale _ => true
  | .datumPropose by' _ => by'.wf
  | .datumAdoption => true
  | .noticeReport _ _ => true
  | .lostProbeTimeout _ => true
  | .notice m => m.wf
  | .datumAnnounce m => m.wf
  | .jobRecord _ _ _ => true
  | .switchDone _ _ => true
  | .syncTimer => true
  | .syncReq m => m.wf
  | .syncResp m => m.wf
  | .announce m => m.wf
  | .benchAnnounceTimer => true
  | .benchImport by' _ => by'.wf
  | .parentTimeout => true
  | .ondieClosurePass _ => true
  | .fabricClosurePass => true
  | .close m => m.wf
  | .closureLate _ => true
  | .debugOwner by' _ _ _ => by'.wf
  | .debugVendor by' _ _ _ => by'.wf
  | .ownerEnroll by' _ _ _ => by'.wf
  | .keyRevoke by' _ _ _ => by'.wf
  | .svnAdvance by' _ _ _ => by'.wf
  | .fuseRepair by' _ _ _ => by'.wf
  | .rma by' _ _ _ => by'.wf
  | .answer by' _ => by'.wf
  | .challengeDeadline _ => true
  | .debugLock by' _ => by'.wf
  | .sealOffer by' _ _ => by'.wf
  | .sealKeyReady _ => true
  | .attestRequest by' _ => by'.wf
  | .attestReportReady => true
  | .powerRequest by' _ => by'.wf
  | .hostWake _ env => env.wf
  | .governorTick nj => decide (nj.length = 64)
  | .boostEnableWrite by' _ => by'.wf
  | .sagStageEnter _ _ => true
  | .sagStageExit _ => true
  | .sagStart env => env.wf
  | .sagN _ _ _ => true
  | .vreqAlert _ => true
  | .engineOffTimeout _ => true
  | .railPgFall _ => true
  | .pwrgdFall => true
  | .powerOn env => env.wf
  | .resetRequest by' _ env => by'.wf && env.wf
  | .hostResetInput env => env.wf
  | .bootResponse _ _ _ buf => decide (buf.length ≤ 65536)
  | .bootData by' _ => by'.wf
  | .startStepTimeout => true
  | .startWatchdog env => env.wf
  | .fatalAutoReset env => env.wf
  | .ledgerClear by' _ => by'.wf
  | .portFinalRecord _ => true
  | .eventEntry => true
  | .windowClose => true
  | .tokenRefill _ => true
  | .fbConfigWrite by' _ => by'.wf
  | .fbSpillWrite by' _ _ _ _ _ => by'.wf
  | .selftestDue _ => true
  | .selftestSegmentEnd _ _ _ _ => true
  | .selftestRequest by' _ _ _ => by'.wf
  | .prepareRemoval by' => by'.wf
  | .cancel by' => by'.wf
  | .routerQuiet => true
  | .clearSoft by' => by'.wf
  | .clearMcPending by' => by'.wf
  | .read path frame => path.wf && decide (frame.length ≤ 128)
  | .write path frame => path.wf && decide (frame.length ≤ 128)
  | .writeInit path frame => path.wf && decide (frame.length ≤ 128)
  | .writeSeg path frame => path.wf && decide (frame.length ≤ 128)
  | .readSeg path frame => path.wf && decide (frame.length ≤ 128)
  | .abort path frame => path.wf && decide (frame.length ≤ 128)
  | .describe path frame => path.wf && decide (frame.length ≤ 128)
  | .registerWrite by' _ _ _ => by'.wf
  | .relayTimeout => true
  | .sessionIdleTimeout _ => true
  | .i3cPrivateRead => true
  | .entdaa _ => true
  | .getmwl => true
  | .getmrl => true
  | .getpid => true
  | .getbcr => true
  | .getdcr => true
  | .getVersion by' _ => by'.wf
  | .getCapabilities by' _ => by'.wf
  | .negotiateAlgorithms by' _ => by'.wf
  | .getDigests by' _ => by'.wf
  | .getCertificate by' _ => by'.wf
  | .challenge by' _ => by'.wf
  | .getMeasurements by' _ => by'.wf
  | .bypass => true
  | .idcode => true
  | .samplePreload _ _ => true
  | .extest _ => true
  | .clamp => true
  | .bootWaitExpiry => true
  | .junctionTemperatureChange _ => true
  | .fuseProgrammingDone => true
  | .domainWakeComplete _ => true
  | .readTimingDriftLimit _ => true
  | .semRemoteRetry _ => true
  | .responseFrame _ frame => decide (frame.length ≤ 128)
  | .vreqFrameRepeat => true
  | .atomicopRequesterEnableChange _ => true

end Sys2Proof
end

