-- ==== Sys2Proof/Tests/Slice0.lean ====
section
/-! SUPPORT. Tests: ill-formed commands that the checks refuse, meanings against the spec's own numbers, and for every statement with
hypotheses a state and operands that meet them. -/
namespace Sys2Proof.Tests
open Sys2Proof Sys2Proof.Machine

/-! ## Small states -/

/-- A die that is awake and open. -/
def up : State := { State.reset with start := { State.reset.start with powerGood := true, phase := .opened, step := 48 } }

/-- An open die with one engine as given. -/
def upEng (e : Engine) : State := { up with eng := [(3, e)] }

/-- An open die whose engine 3 runs a task that has reached the first word of a program in HOST memory. -/
def atWord (bs : List Byte) (e : Engine) : State :=
  { upEng { e with powered := true, task := some { prog := [{ len := 64, back := .host }], progLen := 1, started := true } } with
    mem := { up.mem with host := memWrite [] 0 bs } }

/-- The task of `atWord`. -/
def wordTask : Task := { prog := [{ len := 64, back := .host }], progLen := 1, started := true }

/-- A die whose queue 8 of parcel 1 holds a command of its holding job in slot 0. -/
def queued (c : Cmd) : State :=
  { up with
    parcels := [(1, { active := true, qFirst := 8, qCount := 8, engines := 8, slices := 8, holder := some 0 })]
    jobs := [(16, { st := .holding, qFirst := 8, qCount := 1 })]
    queues := [(8, { st := .opened, consumed := [c] })] }

/-! ## Ill-formed commands are refused, one for each check -/

theorem test_wf_principal : Instr.wf (.listen (.parcel 8)) = false ∧ Instr.wf (.listen (.parcel 7)) = true := by decide
theorem test_wf_line : Instr.wf (.rdS 0 (2 ^ 57)) = false ∧ Instr.wf (.rdO 0 (2 ^ 57)) = false ∧ Instr.wf (.upg 0 (2 ^ 57)) = false ∧ Instr.wf (.evict 0 (2 ^ 57)) = false ∧
    Instr.wf (.ack 0 (2 ^ 57)) = false ∧ Instr.wf (.gntAck 0 (2 ^ 57)) = false ∧ Instr.wf (.rdS 0 (2 ^ 57 - 1)) = true := by decide
set_option maxRecDepth 10000 in
theorem test_wf_line_data : Instr.wf (.wb 0 5 []) = false ∧ Instr.wf (.ackD 0 5 []) = false ∧ Instr.wf (.wb 0 5 (List.replicate 128 0#8)) = true := by decide
theorem test_wf_message : Instr.wf (.rd { op := 256 }) = false ∧ Instr.wf (.wr { ctl := 256 }) = false ∧ Instr.wf (.sem { dest := 65536 }) = false ∧
    Instr.wf (.brd { src := 65536 }) = false ∧ Instr.wf (.bwr { tag := 65536 }) = false ∧ Instr.wf (.swr { fabric := 65536 }) = false ∧
    Instr.wf (.atom { addr := 2 ^ 48 }) = false ∧ Instr.wf (.rd {}) = true := by decide
set_option maxRecDepth 10000 in
theorem test_wf_payload : Instr.wf (.rdr { payload := List.replicate 513 0#8 }) = false := by decide
theorem test_wf_path : Instr.wf (.read (.window 16) []) = false ∧ Instr.wf (.read (.vc0 65535 true) []) = false ∧ Instr.wf (.read .i3c []) = true := by decide
set_option maxRecDepth 10000 in
theorem test_wf_frame : Instr.wf (.write .i3c (List.replicate 129 0#8)) = false ∧ Instr.wf (.responseFrame 0 (List.replicate 129 0#8)) = false := by decide
theorem test_wf_start : Instr.wf (.powerOn { gib := [] }) = false ∧ Instr.wf (.powerOn { fails := [(48, 0, 3)] }) = false ∧ Instr.wf (.powerOn { fails := [(5, 0, 2)] }) = false ∧
    Instr.wf (.powerOn { ms := [(48, 1)] }) = false ∧ Instr.wf (.powerOn { hang := some (48, 0) }) = false ∧ Instr.wf (.powerOn {}) = true := by decide
theorem test_wf_lengths : Instr.wf (.flitReceive 0 []) = false ∧ Instr.wf (.credit 0 []) = false ∧ Instr.wf (.melFrame []) = false ∧ Instr.wf (.governorTick []) = false := by decide
theorem test_wf_host_ranges : Instr.wf (.mrd 0 0 false (2 ^ 64) 1) = false ∧ Instr.wf (.mwr 0 0 false (2 ^ 64) 1 []) = false ∧
    Instr.wf (.mwrP 0 0 false (2 ^ 64) [0]) = false ∧ Instr.wf (.cmp 0 0 0 (2 ^ 64) [0]) = false ∧ Instr.wf (.mwr 0 0 false 0 0 [0]) = false ∧
    Instr.wf (.snoopSlow 0 (2 ^ 57) 0) = false ∧ Instr.wf (.routeTableWrite .hostk 65535 [0, 0]) = false := by decide
set_option maxRecDepth 20000 in
theorem test_wf_host_lengths : Instr.wf (.mwrP 0 0 false 0 (List.replicate 129 0#8)) = false ∧ Instr.wf (.cmp 0 0 0 0 (List.replicate 2049 0#8)) = false ∧
    Instr.wf (.auth 0 0 0 0 (List.replicate 1025 0#8) 0) = false := by decide
theorem test_wf_boot_length : Instr.wf (.bootResponse 0 0 0 (List.replicate 65537 0#8)) = false := by
  show decide ((List.replicate 65537 0#8).length ≤ 65536) = false
  rw [List.length_replicate]
  decide

/-- No row of the table has bits, so no word spells a command. -/
theorem test_no_word_is_a_command (n w : Nat) : decodeTableWord n w = none := rfl

theorem witness_IdleStepOnlyCountsTime : State.reset.pending = [] := rfl

theorem witness_IslandTargetsReportsAndResets_first :
    up.serving ∧ islDisciplined 53 = true ∧ islDisciplined 59 = false ∧ islDisciplined 3 = false :=
  ⟨⟨by decide, by decide⟩, by decide, by decide, by decide⟩

theorem witness_IslandTargetsReportsAndResets_second : up.awake = true ∧ up.sagArmed = true ∧ up.sagLevel 50 1000 = 3 ∧ up.power.sagStage = 0
    ∧ ({ up with power := { up.power with sagStage := 3 } } : State).sagLevel 50 1000 ≤ 3 := by decide

theorem witness_ReplayWindowsMoveOffsetsAndLevels_first :
    ((upEng { powered := true, winReplays := 17 }).engine 3).powered = true ∧ ((upEng { powered := true, winReplays := 17 }).engine 3).halted = false ∧
    ((upEng { powered := true, winReplays := 17 }).engine 3).profile.limit < ((upEng { powered := true, winReplays := 17 }).engine 3).winReplays := by
  decide
set_option maxRecDepth 20000 in
/-- One replay above the limit of 16 raises OFFSET (05 R174); at the clamp the target falls instead (R177). -/
theorem test_replay_window_over_limit :
    (match exec (.replayWindowEnd 3) (upEng { powered := true, winReplays := 17 }) with | .next t => (t.engine 3).offset | _ => 99) = 1 ∧
    (match exec (.replayWindowEnd 3) (upEng { powered := true, winReplays := 17, offset := 2 }) with
      | .next t => ((t.engine 3).offset, (t.engine 3).ceil) | _ => (99, 99)) = (2, 1) ∧
    (match exec (.replayWindowEnd 3) (upEng { powered := true, winReplays := 16, offset := 1 }) with | .next t => (t.engine 3).offset | _ => 99) = 1 := by
  decide

theorem witness_ReplayWindowsMoveOffsetsAndLevels_second :
    (∃ t i, ((upEng { powered := true, task := some { issued := some {} } }).engine 3).task = some t ∧ t.issued = some i) ∧
    ((upEng { powered := true, stepPending := true }).engine 3).powered = true ∧ ((upEng { powered := true }).engine 3).halted = false ∧
    ((upEng { powered := true, stepPending := true }).engine 3).stepPending = true ∧
    ((upEng { powered := true, offset := 2 }).engine 3).profile.margin + 2 ≤ ((upEng { powered := true, offset := 2 }).engine 3).offset :=
  ⟨⟨_, _, rfl, rfl⟩, by decide, by decide, by decide, by decide⟩

theorem witness_ControlInstructionsMoveTheTaskAndItsFlags_first :
    (∃ u, (atWord [2#8] {}).atInstr 3 wordTask .nop u) ∧
    (∃ u f, (atWord [1#8, 0#8, 1#8] {}).atInstr 3 wordTask (.loop f) u) ∧
    (∃ u, (atWord [] {}).atInstr 3 wordTask .fin u ∧ (u.engine 3).atBoundary = true) :=
  ⟨⟨_, rfl, by decide, rfl, rfl, rfl, _, rfl, by decide⟩, ⟨_, _, rfl, by decide, rfl, rfl, rfl, _, rfl, rfl⟩,
    ⟨_, ⟨rfl, by decide, rfl, rfl, rfl, _, rfl, by decide⟩, by decide⟩⟩

theorem witness_ControlInstructionsMoveTheTaskAndItsFlags_second :
    (∃ u, (atWord [0x30#8, 1#8, 5#8, 0#8] {}).atInstr 3 wordTask (.fsig 1 5) u ∧ (u.engine 3).atBoundary = true ∧
      (u.parcel wordTask.parcel).flags.rd 1 + 5 ≤ 65535 ∧ ∀ w ∈ (u.parcel wordTask.parcel).flagWaits, w.2 ≠ 1) ∧
    (∃ u, ({ atWord [0x30#8, 1#8, 5#8, 0#8] {} with parcels := [(0, { flags := [(1, 65531)] })] } : State).atInstr 3 wordTask (.fsig 1 5) u ∧
      65535 < (u.parcel wordTask.parcel).flags.rd 1 + 5) ∧
    (∃ u, (atWord [0x31#8, 1#8, 5#8, 0#8] {}).atInstr 3 wordTask (.fwait 1 5) u ∧ (u.parcel wordTask.parcel).flags.rd 1 < 5) ∧
    (∃ u, ({ atWord [0x31#8, 1#8, 5#8, 0#8] {} with parcels := [(0, { flags := [(1, 5)] })] } : State).atInstr 3 wordTask (.fwait 1 5) u ∧
      5 ≤ (u.parcel wordTask.parcel).flags.rd 1) ∧
    (∃ u, (atWord [0x3A#8, 1#8] {}).atInstr 3 wordTask (.fence .release) u) ∧
    ((upEng { powered := true, task := some { wait := .fence } }).engine 3).atBoundary = true ∧
    ((upEng { powered := true, task := some { wait := .fence } }).engine 3).runs = true :=
  ⟨⟨_, ⟨rfl, by decide, rfl, rfl, rfl, _, rfl, by decide⟩, by decide, by decide, by decide⟩,
   ⟨_, ⟨rfl, by decide, rfl, rfl, rfl, _, rfl, by decide⟩, by decide⟩,
   ⟨_, ⟨rfl, by decide, rfl, rfl, rfl, _, rfl, by decide⟩, by decide⟩,
   ⟨_, ⟨rfl, by decide, rfl, rfl, rfl, _, rfl, by decide⟩, by decide⟩,
   ⟨_, rfl, by decide, rfl, rfl, rfl, _, rfl, by decide⟩, by decide, by decide⟩

/-- `atWord` with a parcel that is granted semaphore 4, in the state given. -/
def atSem (bs : List Byte) (m : Sem) : State := { atWord bs {} with parcels := [(0, { sems := 16 })], sems := [(4, m)] }

theorem witness_EngineSemaphoresGoToTheFirstWaiter_first :
    (∃ u, (atWord [0x38#8, 4#8] {}).atInstr 3 wordTask (.semacq 4 false) u ∧ u.semGranted 0 4 = false) ∧
    (∃ u, (atSem [0x38#8, 4#8] {}).atInstr 3 wordTask (.semacq 4 false) u ∧ u.semGranted 0 4 = true ∧ (u.sems.rd 4).st = .free) ∧
    (∃ u, (atSem [0x38#8, 4#8, 1#8] { st := .abandoned }).atInstr 3 wordTask (.semacq 4 true) u ∧ u.semGranted 0 4 = true ∧
      (u.sems.rd 4).st = .abandoned) ∧
    (∃ u, (atSem [0x38#8, 4#8] { st := .abandoned }).atInstr 3 wordTask (.semacq 4 false) u ∧ (u.sems.rd 4).st = .abandoned) ∧
    (∃ u, (atSem [0x38#8, 4#8] { st := .held, owner := some (.engine 5) }).atInstr 3 wordTask (.semacq 4 false) u ∧
      (u.sems.rd 4).st = .held ∧ (u.sems.rd 4).owner ≠ some (.engine 3)) ∧
    (∃ u, (atSem [0x39#8, 4#8] { st := .held, owner := some (.engine 3) }).atInstr 3 wordTask (.semrel 4) u ∧
      (u.sems.rd 4).st = .held ∧ (u.sems.rd 4).owner = some (.engine 3)) ∧
    (∃ u, (atSem [0x39#8, 4#8] {}).atInstr 3 wordTask (.semrel 4) u ∧ ¬((u.sems.rd 4).st = .held ∧ (u.sems.rd 4).owner = some (.engine 3))) :=
  ⟨⟨_, ⟨rfl, by decide, rfl, rfl, rfl, _, rfl, by decide⟩, by decide⟩,
   ⟨_, ⟨rfl, by decide, rfl, rfl, rfl, _, rfl, by decide⟩, by decide, by decide⟩,
   ⟨_, ⟨rfl, by decide, rfl, rfl, rfl, _, rfl, by decide⟩, by decide, by decide⟩,
   ⟨_, ⟨rfl, by decide, rfl, rfl, rfl, _, rfl, by decide⟩, by decide⟩,
   ⟨_, ⟨rfl, by decide, rfl, rfl, rfl, _, rfl, by decide⟩, by decide, by decide⟩,
   ⟨_, ⟨rfl, by decide, rfl, rfl, rfl, _, rfl, by decide⟩, by decide, by decide⟩,
   ⟨_, ⟨rfl, by decide, rfl, rfl, rfl, _, rfl, by decide⟩, by decide⟩⟩

theorem witness_EngineSemaphoresGoToTheFirstWaiter_second :
    (((atSem [] { st := .held, owner := some (.engine 3) }).sems.rd 4).st = .held ∧
      ((atSem [] { st := .held, owner := some (.engine 3) }).sems.rd 4).owner = some (.engine 3)) ∧
    (atSem [] { waiters := [{ owner := .queue 7, abnOk := true }] }).sems = [(4, { st := .free, waiters := [{ owner := .queue 7, abnOk := true }] })] := by
  decide

/-- An open die whose engine 3 has an instruction past the gate. -/
def issuedState (x : EInstr) : State :=
  upEng { powered := true, task := some { started := true, issued := some { instr := x, slA := 3, slB := 3, offB := 4096, slC := 3, offC := 8192 } } }

theorem witness_MatrixAndVectorInstructionsCompute_first :
    (∃ t i, (issuedState (.mat false { k := 128 })).hasIssued 3 t i ∧ i.instr = .mat false { k := 128 } ∧
      ((issuedState (.mat false { k := 128 })).slc.rd i.slA).badRange i.offA 128 = false) ∧
    (∃ t i, (issuedState (.mat true { k := 128, sacc := true })).hasIssued 3 t i ∧ i.instr = .mat true { k := 128, sacc := true } ∧
      overlaps i.slA i.offA 128 i.slC i.offC 4 = false ∧ overlaps i.slB i.offB 128 i.slC i.offC 4 = false) :=
  ⟨⟨_, _, ⟨rfl, rfl, rfl, rfl⟩, rfl, by decide⟩, ⟨_, _, ⟨rfl, rfl, rfl, rfl⟩, rfl, by decide, by decide⟩⟩

theorem witness_MatrixAndVectorInstructionsCompute_second :
    ∃ t i, (issuedState (.vec { func := .relu })).hasIssued 3 t i ∧ i.instr = .vec { func := .relu } ∧
      ((issuedState (.vec { func := .relu })).slc.rd i.slA).badRange i.offA 16 = false ∧
      overlaps i.slA i.offA (vecLens { func := .relu }).1 i.slC i.offC (vecLens { func := .relu }).2.2 = false ∧
      overlaps i.slB i.offB (vecLens { func := .relu }).2.1 i.slC i.offC (vecLens { func := .relu }).2.2 = false :=
  ⟨_, _, ⟨rfl, rfl, rfl, rfl⟩, rfl, by decide, by decide, by decide⟩

/-- `atWord` at an MM of one row, K 128 and one column in slice 3, whose granules are as given. -/
def atMm (g : Tab Gran) : State :=
  { atWord [0x10#8, 0#8, 0#8, 0#8, 0#8, 0#8, 0#8, 0#8, 0x80#8, 0#8, 0#8, 0#8, 0x3E#8] {} with
    parcels := [(0, { slices := 8 })], slc := [(3, { powered := true, gran := g })] }

/-- What `atMm` reserves of other slices before it issues. -/
def reserved (s : State) (i : EInstr) (o : GateOps) : State × Bool := s.reserve 3 (gateHolds i o) ((List.range 16).filter (fun k => k ≠ 3))

/-- `atMm` in a parcel of slices 2 and 3 with its sources in slice 2, which is off. -/
def twoSlices : State :=
  { atMm [] with
    parcels := [(0, { slices := 12 })]
    mem := { up.mem with host := memWrite [] 0 [0x10#8, 0#8, 0#8, 0#8, 0#8, 0#8, 0#8, 0#8, 0x80#8, 0#8, 1#8, 0#8, 0x3E#8] } }

theorem witness_TheIssueGateAndTheEngineStates_first :
    (∃ u i o, (atMm [(0, { st := .present })]).atInstr 3 wordTask i u ∧ i.gated = true ∧ u.gateOps 3 wordTask i = some o ∧
      (reserved u i o).2 = true ∧ ((reserved u i o).1.slc.rd 3).powered = true ∧
      ((gateHolds i o).filter (fun h => h.slice == 3)).all (fun h => (((reserved u i o).1.slc.rd 3).gran.rd h.gran).holdable) = true ∧
      (granules o.d.2.1 o.d.2.2).all (fun g => (((reserved u i o).1.slc.rd 3).gran.rd g).claimable) = true) ∧
    (∃ u i, (atWord [0x10#8, 0#8, 0#8, 0#8, 0#8, 0#8, 0#8, 0#8, 0x80#8, 0#8, 0#8, 0#8, 0x3E#8] {}).atInstr 3 wordTask i u ∧ i.gated = true ∧
      u.gateOps 3 wordTask i = none) ∧
    (∃ u i o, (twoSlices).atInstr 3 wordTask i u ∧ u.gateOps 3 wordTask i = some o ∧ (reserved u i o).2 = false) :=
  ⟨⟨_, _, _, ⟨rfl, by decide, rfl, rfl, rfl, _, rfl, rfl⟩, by decide, rfl, by decide, by decide, by decide, by decide⟩,
   ⟨_, _, ⟨rfl, by decide, rfl, rfl, rfl, _, rfl, rfl⟩, by decide, by decide⟩,
   ⟨_, _, _, ⟨rfl, by decide, rfl, rfl, rfl, _, rfl, rfl⟩, rfl, by decide⟩⟩


theorem witness_TheIssueGateAndTheEngineStates_second :
    (∃ d, (((upEng { half1 := { drain := some { slice := 3, m := 1, w := 1, claims := [⟨3, 0, .empty⟩] } } }).engine 3).half true).drain = some d) ∧
    (∀ t, ((upEng { density := 8 }).engine 3).task = some t → t.issued = none) ∧
    (((upEng { stopReq := true }).engine 3).stopReq = true ∧ ((upEng { stopReq := true }).engine 3).halted = false ∧
      ((upEng { stopReq := true }).engine 3).atBoundary = true ∧ ((upEng { stopReq := true }).engine 3).task.bind (·.killed) = none) ∧
    (∃ t rest, ((upEng { powered := true, inbox := [{ level := 3 }] }).engine 3).inbox = t :: rest ∧
      ((upEng { powered := true, inbox := [{ level := 3 }] }).engine 3).task = none ∧
      ((upEng { powered := true, inbox := [{ level := 3 }] }).engine 3).runs = true) :=
  ⟨⟨_, rfl⟩, fun _ h => (nomatch h), by decide, ⟨_, _, rfl, by decide, by decide⟩⟩

set_option maxRecDepth 20000 in
/-- A task of level 3 under a cap of 2 starts with the margin of AL2 (05 R164, Table 5.2). -/
theorem test_task_start_is_capped :
    (match exec (.taskStart 3) { upEng { powered := true, inbox := [{ level := 3 }] } with approx := { up.approx with cap := [(0, 2)] } } with
      | .next t => ((t.engine 3).level, (t.engine 3).profile.margin) | _ => (99, 99)) = (2, 3) := by decide

theorem witness_ApproximationWritesAreChecked :
    up.serving ∧ profileInRange 4 2 0xF8 4 128 = true ∧ profileInRange 65 2 0xF8 4 128 = false ∧ up.alone = true :=
  ⟨⟨by decide, by decide⟩, by decide, by decide, by decide⟩

theorem witness_TreeEngineSharesAreExclusive :
    up.serving ∧ (∃ o : Nat, o < 8 ∧ o ≠ 1 ∧ ({ up with te := { segments := [(2, 3)] } } : State).te.segments.rd o &&& 1 ≠ 0) ∧
    (∀ o : Nat, o < 8 → o ≠ 1 → up.te.nodeWays.rd o &&& 65535 = 0) ∧ (up.te.ctx.rd 1).image = none ∧
    (({ up with te := { ctx := [(1, { image := some {} })] } } : State).te.ctx.rd 1).image ≠ none :=
  ⟨⟨by decide, by decide⟩, ⟨2, by decide⟩, by decide, by decide, by decide⟩

/-- A head command of opcode `op`, 64 bytes long. -/
def opCmd (op : Nat) : Cmd := { bytes := leBytes 64 op, items := [.idle] }

/-- `queued` with a context of the tree engine. -/
def queuedTe (op : Nat) (x : TeCtx) : State := { queued (opCmd op) with te := { ctx := [(1, x)] } }

theorem witness_ForestsLoadRunAndAreChecked :
    (∃ c u, (queued (opCmd 2)).starts 8 2 1 0 c u ∧ u.teRetired = false ∧ (u.te.ctx.rd 1).run = none) ∧
    (∃ c u, (queuedTe 3 { image := some {} }).starts 8 3 1 0 c u ∧ (u.te.ctx.rd 1).image = some {} ∧
      field c.bytes 24 4 * (forestOf []).sampleStride ≤ field c.bytes 56 4) ∧
    (∃ r, ((queuedTe 3 { image := some {}, run := some { b := 1, slots := [default] } }).te.ctx.rd 1).run = some r ∧ r.next < r.b ∧
      (queuedTe 3 { image := some {}, run := some { b := 1, slots := [default] } }).teRuns = true ∧ r.slots[0]? = some default) :=
  ⟨⟨_, _, ⟨_, _, by rfl, by decide, by rfl, rfl, _, by rfl⟩, by decide, by decide⟩,
   ⟨_, _, ⟨_, _, by rfl, by decide, by rfl, rfl, _, by rfl⟩, by decide, by decide⟩, ⟨_, rfl, by decide, by decide, by decide⟩⟩

/-- A running command of one step, whose first bytes are given, over 64 bytes of HOST memory at DVA 0 and 64 at DVA 64. -/
def stepCmd (e : List Byte) : Cmd :=
  { bytes := [1#8] ++ List.replicate 24 0#8 ++ [1#8] ++ List.replicate 6 0#8 ++ padTo 32 e, started := true, items := [.idle],
    record := [(0, [{ dva := 0, len := 64, back := .host }]), (1, [{ dva := 64, len := 64, back := .host, addr := 64, write := true }])] }

/-- A die whose queue 8 runs a step, its parcel granted semaphore 4, which is as given, and of fabric parcel `f`. -/
def stepping (e : List Byte) (m : Sem) (f : Nat := 0) : State :=
  { queued (stepCmd e) with
    parcels := [(1, { active := true, qFirst := 8, qCount := 8, engines := 8, slices := 8, holder := some 0, sems := 16, fabricId := f })]
    sems := [(4, m)], slc := [(3, { powered := true })],
    agree := { up.agree with datum := { up.agree.datum with plat := [{ fparcel := 5, ranges := [(7, 9)] }] } } }

/-- ATOMIC fetch-and-add of 3 on 4 bytes at DVA 0, result at DVA 64. -/
def addStep : List Byte := [4#8, 0#8, 0#8, 0#8, 0#8, 0#8, 0#8, 0#8] ++ leBytes 8 0 ++ leBytes 8 64 ++ leBytes 8 3

theorem witness_SemaphoreStepsAtomicsAndDoorbells :
    (∃ x, (stepping [5#8, 0#8, 0#8, 5#8] {}).stepStarts 8 0 5 x ∧ bitAt ((stepping [] {}).parcel x.p).sems x.x.sem = false) ∧
    (∃ x, (stepping [5#8, 16#8, 0#8, 4#8] {}).stepStarts 8 0 5 x ∧ bitAt ((stepping [] {}).parcel x.p).sems x.x.sem = true ∧ x.x.abnok = true ∧
      x.x.sem = 4 ∧ x.p = 1) ∧
    (∃ x, (stepping [6#8, 0#8, 0#8, 4#8] { st := .held, owner := some (.queue 8) }).stepStarts 8 0 6 x ∧
      bitAt ((stepping [] {}).parcel x.p).sems x.x.sem = true) ∧
    (∃ x, (stepping [7#8, 0#8, 0#8, 0#8, 0#8, 0#8, 0#8, 0#8, 8#8] {} 5).stepStarts 8 0 7 x ∧
      (stepping [] {} 5).fabricMember ((stepping [] {} 5).parcel x.p).fabricId (x.x.dva % 65536) = true) ∧
    (∃ x ps rs old w v u, (stepping addStep {}).stepStarts 8 0 4 x ∧ runPieces (x.exts 0) x.x.dva x.x.width = some ps ∧
      runPieces (x.exts 1) x.x.dva2 8 = some rs ∧ (∀ p ∈ ps, (stepping addStep {}).atomicOffered 0 p.back = true ∧ p.back = .host) ∧
      (∀ p ∈ ps ++ rs, (stepping addStep {}).pieceBusy p = false) ∧ (stepping addStep {}).readPieces (.parcel 1) ps = .ok old w ∧
      w.writePieces (.parcel 1) ps (leBytes 4 (leNat old + 3)) = .ok () v ∧ v.writeAll (.parcel 1) 2 0 rs (leBytes 8 (leNat old)) = .ok u) ∧
    (∃ x ps, (stepping [4#8, 0#8, 9#8] {}).stepStarts 8 0 4 x ∧ runPieces (x.exts 0) x.x.dva x.x.width = some ps ∧
      ∃ p ∈ ps, (stepping [4#8, 0#8, 9#8] {}).atomicOffered 9 p.back = false) :=
  ⟨⟨_, ⟨by rfl, by decide⟩, by decide⟩, ⟨_, ⟨by rfl, by decide⟩, by decide, by decide, by decide, by decide⟩, ⟨_, ⟨by rfl, by decide⟩, by decide⟩,
   ⟨_, ⟨by rfl, by decide⟩, by decide⟩,
   ⟨_, _, _, _, _, _, _, ⟨by rfl, by decide⟩, by rfl, by rfl, by decide, by decide, by rfl, by rfl, by rfl⟩,
   ⟨_, _, ⟨by rfl, by decide⟩, by rfl, by decide⟩⟩

theorem witness_TransferStepsFillScratchAndMemory :
    (∃ x sl off ps v cs, (stepping [1#8, 0#8, 0#8, 0#8, 0#8, 0#8, 0#8, 0#8, 0#8, 0#8, 0#8, 0#8, 0#8, 0#8, 0#8, 0#8, 0#8, 0#8, 0#8, 0#8, 0#8, 0#8, 0#8,
        0#8, 64#8] {}).stepStarts 8 0 1 x ∧ (stepping [] {}).stepScr x x.x.bytes = some (sl, off) ∧ runPieces (x.exts 0) x.x.dva x.x.bytes = some ps ∧
      ((stepping [] {}).stepClaim 8 0 x sl off x.x.bytes) = some (v, cs) ∧ cs.length = 1) :=
  ⟨_, _, _, _, _, _, ⟨by rfl, by decide⟩, by rfl, by rfl, by rfl, by decide⟩

/-- An open die whose queue 8 is as given. -/
def upQ (x : Queue) : State := { queued {} with queues := [(8, x)] }

theorem witness_DoorbellsAndHeadsKeepTheRingRules :
    up.awake = true ∧ ({ up with start := { up.start with powerGood := false } } : State).awake = false ∧
    (let x := (upQ { st := .opened, descLog2 := 4, descHead := 10#32, tail := 12#32 }).queue 8;
      (11#32 - x.descHead).toNat ≤ (x.tail - x.descHead).toNat ∧ (x.tail - x.descHead).toNat < (26#32 - x.descHead).toNat ∧
      (26#32 - x.descHead).toNat ≤ 2 ^ x.descLog2 ∧ 2 ^ x.descLog2 < (27#32 - x.descHead).toNat) ∧
    (let x := (upQ { cplHead := 4294967295#32, cplTail := 1#32 }).queue 8;
      (1#32 - x.cplHead).toNat ≤ (x.cplTail - x.cplHead).toNat ∧ (x.cplTail - x.cplHead).toNat < (2#32 - x.cplHead).toNat) := by
  decide

theorem witness_QueuesOpenCloseAndReset :
    (upQ {}).serving ∧ (upQ {}).fatal = false ∧ (upQ {}).queuesRetired = false ∧ (upQ {}).svc.state = 0 ∧ ((upQ {}).queueParcel 8).isNone = false ∧
    (upQ {}).jobOf 8 = some (1, 0) ∧ ((upQ {}).queue 8).st = .closed ∧ ((upQ { st := .opened, consumed := [{}] }).queue 8).consumed ≠ [] ∧
    ¬(4 ≤ ((upQ {}).queue 8).descLog2 ∧ ((upQ {}).queue 8).descLog2 ≤ 12 ∧ 4 ≤ ((upQ {}).queue 8).cplLog2 ∧ ((upQ {}).queue 8).cplLog2 ≤ 12) ∧
    (upQ {}).jobOf 7 = none ∧ ({ upQ {} with fatal := true } : State).serving ∧
    ({ upQ {} with svc := { (upQ {}).svc with state := 1 } } : State).svc.state ≠ 0 :=
  ⟨⟨by decide, by decide⟩, by decide, by decide, by decide, by decide, by decide, by decide, by decide, by decide, by decide,
   ⟨by decide, by decide⟩, by decide⟩

/-- A RUN of one task for an engine of the parcel. -/
def runCmd (engine : Nat) : Cmd :=
  { bytes := [1#8] ++ List.replicate 23 0#8 ++ [1#8] ++ List.replicate 19 0#8 ++ [BitVec.ofNat 8 engine] ++ List.replicate 19 0#8, items := [.idle] }

theorem witness_RunsPlaceAndDispatchTheirTasks :
    (∃ c u, (queued (opCmd 0)).starts 8 0 1 0 c u) ∧
    (∃ c u, (queued (runCmd 0)).starts 8 1 1 0 c u ∧ dTasks c.bytes ≠ [] ∧ (dTasks c.bytes).all (fun x => u.place 1 x == .engine 3) = true) ∧
    (∃ c u, (queued (runCmd 9)).starts 8 1 1 0 c u ∧ ((dTasks c.bytes).map (u.place 1)).findIdx? (· == .bad) = some 0) ∧
    (∃ c u, ({ queued (runCmd 0) with eng := [(3, { retired := true })] } : State).starts 8 1 1 0 c u ∧
      ((dTasks c.bytes).map (u.place 1)).findIdx? (· == .bad) = none ∧ ((dTasks c.bytes).map (u.place 1)).findIdx? (· == .retired) = some 0) ∧
    (∃ q serial i rest, ({ queued (runCmd 255) with parcels := [(1, { engines := 8, firstFree := [(8, 0, 0)] })] } : State).parcel 1
        = { engines := 8, firstFree := (q, serial, i) :: rest } ∧
      ((queued (runCmd 255)).queue q).consumed.find? (fun c => c.serial == serial) ≠ none) ∧
    (queued (runCmd 255)).freeEngine 3 = true :=
  ⟨⟨_, _, _, _, by rfl, by decide, by rfl, rfl, _, by rfl⟩, ⟨_, _, ⟨_, _, by rfl, by decide, by rfl, rfl, _, by rfl⟩, by decide, by decide⟩,
   ⟨_, _, ⟨_, _, by rfl, by decide, by rfl, rfl, _, by rfl⟩, by decide⟩,
   ⟨_, _, ⟨_, _, by rfl, by decide, by rfl, rfl, _, by rfl⟩, by decide, by decide⟩, ⟨8, 0, 0, [], by decide, by decide⟩, by decide⟩

/-- An open die whose queue 8 has its descriptor ring in HOST memory, one slot of it behind the tail. -/
def ringing (b : List Byte) : State :=
  { upQ { st := .opened, descLog2 := 4, tail := 1#32, descRing := [{ len := 1024, back := .host }] } with
    mem := { up.mem with host := memWrite [] 0 b } }

theorem witness_CommandsAreConsumedInRingOrder :
    (∃ b u bs v, (ringing [1#8]).isOpen = true ∧ (ringing [1#8]).jobOf 8 = some (1, 0) ∧ (ringing [1#8]).xlatShut 1 = false ∧
      ((ringing [1#8]).queue 8).tail ≠ ((ringing [1#8]).queue 8).descHead ∧
      ringRead ((ringing [1#8]).queue 8) (.job 1 0) 1 0 (ringing [1#8]) [] = .ok b u ∧
      ringRead ((ringing [1#8]).queue 8) (.job 1 0) (dSlots b) 1 u b = .ok bs v ∧ descBad false bs = true) ∧
    (∃ b u bs v rec w, ringRead ((ringing []).queue 8) (.job 1 0) 1 0 (ringing []) [] = .ok b u ∧
      ringRead ((ringing []).queue 8) (.job 1 0) (dSlots b) 1 u b = .ok bs v ∧ descBad false bs = false ∧
      v.preCommand 1 (v.job 1 0).cfg (decide ((v.job 1 0).cfg = v.xlat.cfg.rd 1)) bs = .ok rec w ∧ (w.parcel 1).sealed = false) :=
  ⟨⟨_, _, _, _, by decide, by decide, by decide, by decide, by rfl, by rfl, by decide⟩,
   ⟨_, _, _, _, _, _, by rfl, by rfl, by decide, by rfl, by decide⟩⟩

/-- A head command that has ended OK. -/
def overCmd : Cmd := { bytes := leBytes 64 0, started := true, items := [.done .ok .none] }

theorem witness_CommandsEndAndFaultsAreAnswered_first :
    overCmd.isOver = true ∧ overCmd.gen = none ∧ overCmd.stampExts = [] ∧
    (let s := upQ { st := .opened, cplLog2 := 4, consumed := [overCmd], cplRing := [{ len := 512, back := .host, write := true }] };
      (((s.queue 8).cplTail - (s.queue 8).cplHead).toNat < 2 ^ (s.queue 8).cplLog2 ∧
      (∃ w, s.writeDva (s.whoOf 8) (s.queue 8).cplRing 0 (s.cplBytes 8 overCmd) = .ok () w))) ∧
    (let s := upQ { st := .opened, cplLog2 := 4, cplTail := 16#32, heldCpl := true, consumed := [overCmd] };
      (2 ^ (s.queue 8).cplLog2 ≤ ((s.queue 8).cplTail - (s.queue 8).cplHead).toNat)) ∧
    ((stepping [5#8] {}).jobOf 8 = some (1, 0) ∧ ((stepping [5#8] {}).parcel 1).holder = some 0 ∧ (stepCmd [5#8]).isOver = false ∧
      (stepCmd [5#8]).stopped = none ∧ (stepping [5#8] {}).cmdHeld 8 (stepCmd [5#8]).serial = false) :=
  ⟨by decide, by decide, by decide, ⟨by decide, _, by rfl⟩, by decide, by decide, by decide, by decide, by decide, by decide⟩

theorem witness_CommandsEndAndFaultsAreAnswered_second :
    (upQ {}).serving ∧ (upQ {}).parkedBy 5 = none ∧
    (let s : State := { upQ { st := .parked } with xlat := { up.xlat with parked := [{ queue := 8, seq := 5 }] } };
      (s.parkedBy 5 = some { queue := 8, seq := 5 } ∧ s.jobOf 8 = some (1, 0) ∧ s.xlatShut 1 = false ∧ s.migBlocked 1 [] = false)) ∧
    (let s : State := { upQ { st := .parked } with xlat := { up.xlat with parked := [{ queue := 8, seq := 5, consumed := some 0 }] } };
      (s.parkedBy 5 = some { queue := 8, seq := 5, consumed := some 0 })) :=
  ⟨⟨by decide, by decide⟩, by decide, by decide, by decide⟩

/-- An open die on the host link whose controller 0 runs, with the directory's record of line 5 as given. -/
def dirDie (d : DirLine) : State :=
  { up with
    start := { up.start with env := { up.start.env with hostLink := true } }
    mem := { up.mem with mc := [(0, { st := .running, gib := 2 })], dir := [(5, d)] } }

theorem witness_CoherenceRequestsAndAnswersMoveLines_first :
    up.straps.hostLink = false ∧ (dirDie {}).straps.hostLink = true ∧ (dirDie {}).paReaches (2 ^ 33) 128 = false ∧
    (dirDie {}).paReaches (5 * 128) 128 = true ∧ (dirDie {}).paAllowed .host (5 * 128) 128 = true ∧
    ({ dirDie {} with parcels := [(2, { controllers := 1 })] } : State).paAllowed .host (5 * 128) 128 = false ∧
    ((dirDie { txn := some {} }).dirLine 5).txn ≠ none ∧ ((dirDie { st := .owned 7 }).dirLine 5).st ≠ .uncached ∧
    hostAgents ((LineState.shared [.host 1, .host 2, .host 3]).holders.filter (· ≠ .host 2)) = [.host 1, .host 3] ∧
    hostAgents ((LineState.owned 2).holders.filter (· ≠ .host 2)) = [] := by
  decide

theorem witness_CoherenceRequestsAndAnswersMoveLines_second :
    ((dirDie { st := .owned 7 }).dirLine 5).st = .owned 7 ∧ (dirDie { st := .owned 7 }).straps.hostLink = true ∧
    ((dirDie { st := .owned 7, txn := some { req := .rdS, agent := some (.host 2), awaiting := [.host 7] } }).dirLine 5).txn
      = some { req := .rdS, agent := some (.host 2), awaiting := [.host 7] } ∧ [Agent.host 7].erase (.host 7) = [] ∧
    (dirDie { txn := some { awaiting := [.host 7] } }).snooped 7 5 = true ∧ [Agent.host 7, Agent.host 8].erase (.host 7) ≠ [] ∧
    ((dirDie { txn := some { agent := some (.host 2), granted := true } }).dirLine 5).txn = some { agent := some (.host 2), granted := true } := by
  decide

/-- No request waits in `dirDie` with one granted transaction. -/
theorem witness_CoherenceRequestsAndAnswersMoveLines_second_idle (m : Nat) : ((dirDie { txn := some { agent := some (.host 2), granted := true } }).dirLine m).queue = [] := by
  show (Tab.rd ([(5, { txn := some { agent := some (.host 2), granted := true } })] : Tab DirLine) m).queue = []
  simp only [Tab.rd]
  split <;> rfl

/-- `dirDie` with error correction in force on controller 0. -/
def eccDie : State := { dirDie {} with mem := { (dirDie {}).mem with mc := [(0, { st := .running, gib := 2, eccInForce := 2 })] } }

theorem witness_PatrolsAndCacheWays :
    State.reset.awake = false ∧ up.awake = true ∧ 29 ≤ up.start.step ∧ eccDie.awake = true ∧ (eccDie.mem.mc.rd 0).st = .running ∧
    (eccDie.mem.mc.rd 0).eccInForce ≠ 0 ∧ (({ up with mem := { up.mem with mc := [(0, { eccInForce := 0 })] } } : State).mem.mc.rd 0).eccInForce = 0 ∧ (∃ p : Nat, p < 8 ∧ (({ up with parcels := [(2, { dcWays := 3 })] } : State).parcel p).dcWays &&& (1#16).toNat ≠ 0) ∧
    (∀ p : Nat, p < 8 → (up.parcel p).dcWays &&& (255#16).toNat = 0) ∧ up.mem.retiredWays &&& (255#16).toNat = 0 ∧
    ({ up with mem := { up.mem with retiredWays := 128 } } : State).mem.retiredWays &&& (255#16).toNat ≠ 0 :=
  ⟨by decide, by decide, by decide, by decide, by decide, by decide, by decide, ⟨2, by decide⟩, by decide, by decide, by decide⟩

theorem witness_FaultRingKeepsItsRanges :
    up.serving ∧ (32#64).toNat % 32 = 0 ∧ (33#64).toNat % 32 ≠ 0 ∧ ¬((5#8 : Byte) = 0 ∨ (6 ≤ (5#8).toNat ∧ (5#8).toNat ≤ 12)) ∧
    (let s : State := { up with xlat := { up.xlat with ringHead := 4294967295#32, ringTail := 1#32 } };
      ((1#32 - s.xlat.ringHead).toNat ≤ (s.xlat.ringTail - s.xlat.ringHead).toNat ∧
        (s.xlat.ringTail - s.xlat.ringHead).toNat < (2#32 - s.xlat.ringHead).toNat)) ∧
    ({ up with xlat := { up.xlat with held := [{}] } } : State).xlat.ringFull = true ∧
    ({ up with xlat := { up.xlat with held := [{}], ringLog2 := 6, ringKind := 2 } } : State).xlat.ringFull = false :=
  ⟨⟨by decide, by decide⟩, by decide, by decide, by decide, by decide, by decide, by decide⟩

theorem witness_ShootdownsOpenAndComplete :
    up.serving ∧ up.xlat.shoots.length < 8 ∧ ({ up with xlat := { up.xlat with shoots := List.replicate 8 {} } } : State).xlat.shoots.length = 8 ∧
    (let s : State := { stepping [5#8] {} with xlat := { up.xlat with shoots := [{ parcel := 1, tag := some 7#32, start := 0, len := 64 }] } };
      (8 ∈ s.queueList ∧ (s.runsOver 1 0 64 8).isSome = true)) ∧
    (up.queues = [] ∧ up.streams = []) :=
  ⟨⟨by decide, by decide⟩, by decide, by decide, by decide, by decide⟩

theorem witness_TranslationConfigurationAndAdvice_first :
    up.serving ∧ up.cfgOk { mode := 1, tableKind := 2, count := 4, base := 128 } = true ∧ up.cfgOk { mode := 3 } = false ∧ up.hasJob 1 = false ∧
    (upQ {}).hasJob 1 = true ∧ ({ (upQ {}).xlat.cfg.rd 1 with base := 0, count := 0 } : XlatConfig) = {} ∧ (upQ {}).xlat.shoots.length < 8 ∧
    ({ (upQ {}).xlat.cfg.rd 1 with base := 0, count := 0 } : XlatConfig) ≠ { tableKind := 2 } :=
  ⟨⟨by decide, by decide⟩, by decide, by decide, by decide, by decide, by decide, by decide, by decide⟩

/-- A command of opcode `op` whose first argument byte is `arg`, over 64 bytes at DVA 0. -/
def formCmd (op arg : Nat) : Cmd :=
  { bytes := [BitVec.ofNat 8 op] ++ List.replicate 23 0#8 ++ [BitVec.ofNat 8 arg] ++ List.replicate 15 0#8 ++ [64#8] ++ List.replicate 23 0#8,
    items := [.idle], record := [(0, [{ dva := 0, len := 64, back := .host }])] }

theorem witness_TranslationConfigurationAndAdvice_second :
    (∃ c u, (queued (formCmd 5 1)).startsForm 8 5 1 1 0 c u) ∧ (∃ c u, (queued (formCmd 5 2)).startsForm 8 5 2 1 0 c u) ∧
    (∃ c u, (queued (formCmd 5 0)).startsForm 8 5 0 1 0 c u) ∧ (∃ c u, (queued (formCmd 5 3)).startsForm 8 5 3 1 0 c u) ∧
    (∃ c u, (queued (formCmd 4 1)).startsForm 8 4 1 1 0 c u) ∧
    (∃ c u, (queued (formCmd 4 0)).startsForm 8 4 0 1 0 c u ∧ (u.job 1 0).cfg.mode ≠ 1) ∧
    (({ up with sems := [(4, { st := .held })] } : State).sems.rd (4#8).toNat).st = .held ∧ (up.sems.rd (4#8).toNat).st ≠ .held ∧ up.serving :=
  ⟨⟨_, _, ⟨_, by rfl⟩, _, _, by rfl, by decide, by rfl, rfl, _, by rfl⟩, ⟨_, _, ⟨_, by rfl⟩, _, _, by rfl, by decide, by rfl, rfl, _, by rfl⟩,
   ⟨_, _, ⟨_, by rfl⟩, _, _, by rfl, by decide, by rfl, rfl, _, by rfl⟩, ⟨_, _, ⟨_, by rfl⟩, _, _, by rfl, by decide, by rfl, rfl, _, by rfl⟩,
   ⟨_, _, ⟨_, by rfl⟩, _, _, by rfl, by decide, by rfl, rfl, _, by rfl⟩,
   ⟨_, _, ⟨⟨_, by rfl⟩, _, _, by rfl, by decide, by rfl, rfl, _, by rfl⟩, by decide⟩, by decide, by decide, ⟨by decide, by decide⟩⟩

theorem witness_HostAtomicsFollowThePackage :
    State.reset.straps.packageP = false ∧
    ({ up with start := { up.start with env := { up.start.env with packageP := true } } } : State).straps.packageP = true := by decide

/-- `dirDie` with its host link trained. -/
def linkDie (d : DirLine) : State :=
  { dirDie d with start := { (dirDie d).start with env := { (dirDie d).start.env with linkUp := true, farEnd := true } } }

theorem witness_BurstsKeepTheirBounds :
    (linkDie {}).attached = true ∧ (linkDie {}).straps.hostLink = true ∧ 64 % 128 ≠ 0 ∧ 2048 < 1920 % 2048 + 128 * ((2 : Fin 17) : Nat) := by decide

theorem witness_HostAccessesAndTheBurstGuard_first :
    (linkDie {}).memoryWaits = false ∧ (linkDie {}).badBurst 640 128 = false ∧ (linkDie {}).hostBar 640 128 = none ∧
    (∀ l ∈ linesOf 640 128, (linkDie {}).lineBusy true l = false) ∧ (∀ l ∈ linesOf 640 128, (linkDie {}).lineBusy false l = false) ∧
    (linkDie {}).hostBar (2 ^ 34) 128 = some .faulted ∧ (linkDie {}).burst 0 640 = none ∧ (linkDie {}).hostBar 700 4 = none ∧
    State.reset.attached = false ∧ ({ linkDie {} with parcels := [(2, { controllers := 1 })] } : State).hostBar 640 128 = some .denied := by
  decide

theorem witness_HostAccessesAndTheBurstGuard_second :
    (linkDie { st := .owned 2 }).attached = true ∧ (linkDie {}).straps.hostLink = true ∧ up.straps.hostLink = false ∧ up.awake = true ∧
    State.reset.awake = false ∧ Agent.host 2 ∈ ((linkDie { st := .owned 2 }).dirLine 5).st.holders := by decide

/-- The guard takes the line from its owner. -/
theorem test_agent_reset : (match exec (.agentReset 2) (linkDie { st := .owned 2 }) with | .next t => (t.dirLine 5).st | _ => .owned 2) = .uncached := by
  decide

/-- A request for parcel 1, active, with engines and slices as given. -/
def platBytesOf (engines slices controllers : Nat) : List Byte :=
  [1#8, 1#8, 0#8, 0#8, 0#8, BitVec.ofNat 8 controllers, 0#8, 0#8] ++ leBytes 2 engines ++ leBytes 2 slices ++ List.replicate 52 0#8

theorem witness_PlatRequestsAreCheckedThenApplied :
    platFieldsOk (platBytesOf 8 8 0) = true ∧ platFieldsOk [] = false ∧ up.plat.waiting = none ∧ up.platRefusal (platReqOf (platBytesOf 8 8 0)) = none ∧
    up.platRemoved (platReqOf (platBytesOf 8 8 0)) = [] ∧ up.platRefusal (platReqOf (platBytesOf 8 0 0)) = some .unsupported ∧
    (upQ {}).hasJob (platReqOf (platBytesOf 8 8 0)).parcel = true ∧
    (let s : State := { up with parcels := [(2, { engines := 8 })] }; (s.hasJob 1 = false ∧ (s.parcel 2).engines &&& 8 ≠ 0)) ∧
    (let s : State := { up with parcels := [(1, { controllers := 1 })] };
      (s.platRefusal (platReqOf (platBytesOf 8 8 0)) = none ∧ s.platRemoved (platReqOf (platBytesOf 8 8 0)) = [0])) ∧
    ({ up with plat := { waiting := some (platBytesOf 8 8 0) } } : State).plat.waiting = some (platBytesOf 8 8 0) := by decide

/-- `upQ` with the job of parcel 1's slot 0 in a state. -/
def jobIn (st : JobSt) (h : Option Nat) : State :=
  { upQ {} with
    parcels := [(1, { active := true, qFirst := 8, qCount := 8, engines := 8, slices := 8, holder := h })]
    jobs := [(16, { id := 5, st := st, qFirst := 8, qCount := 1 })] }

theorem witness_JobControlChecksAndActs :
    (jobIn .ready none).serving ∧ (jobIn .ready none).queuesRetired = false ∧ ((jobIn .ready none).job 1 0).st = .ready ∧
    ((jobIn .ended none).job 1 0).st = .ended ∧ ((jobIn .suspended none).job 1 0).st = .suspended ∧
    (∃ i, i < 1 ∧ (jobIn .ended none).queueParcel (99 + i) ≠ some 1) ∧ (∀ i, i < 1 → (jobIn .ended none).queueParcel (8 + i) = some 1) ∧
    (jobIn .ended none).gatherOf (.image 1 0) = none ∧
    (let s : State := { jobIn .holding (some 0) with queues := [(8, { st := .opened, consumed := [stepCmd [5#8]] })] };
      (s.jobBusy 1 0 = true ∧ (s.parcel 1).holder = some 0 ∧ (s.job 1 0).st = .holding)) :=
  ⟨⟨by decide, by decide⟩, by decide, by decide, by decide, by decide, ⟨0, by decide⟩, by decide, by decide, by decide⟩

/-- `jobIn` of an empty slot whose parcel has one cached translation, to HOST memory. -/
def cachedDie : State := { jobIn .ended none with xlat := { up.xlat with cache := [(1, [{ len := 4096, kind := 2, r := true, w := true }])] } }

theorem witness_JobControlChecksAndActs_create : ∃ es u h v fs w tb x,
    let s : State := cachedDie
    trRegion { s with jobResult := {} } 1 (s.xlat.cfg.rd 1) true false 64 { dva := 0, len := 64, r := true, mis := 0 % 128 ≠ 0 } = .ok es u ∧
    u.fetch 1 0 0 [] ((runPieces es 0 64).getD []) 64 = .ok h v ∧ field h 18 2 ≤ 1024 ∧ field h 20 4 % 32 = 0 ∧
    trRegion v 1 (v.xlat.cfg.rd 1) true false 64 { dva := 0 + field h 20 4, len := 32 * field h 18 2, r := true } = .ok fs w ∧
    w.fetch 1 0 1 (memWrite [] (2 ^ 20) h) ((runPieces fs (0 + field h 20 4) (32 * field h 18 2)).getD []) (32 * field h 18 2) = .ok tb x :=
  ⟨_, _, _, _, _, _, _, _, by rfl, by rfl, by decide, by decide, by rfl, by rfl⟩

/-- `jobIn` with a holder in slot 0, and in slot 1 a job with work to do or none. -/
def twoJobs (x : Parcel) (work : Bool) : State :=
  { jobIn .holding (some 0) with
    parcels := [(1, { x with active := true, qFirst := 8, qCount := 8, engines := 8, slices := 8, holder := some 0 })]
    jobs := [(16, { id := 5, st := .holding, qFirst := 8, qCount := 1 }), (17, { id := 6, st := .waiting, qFirst := 9, qCount := 1 })]
    queues := [(8, { st := .opened }), (9, { st := .opened, consumed := if work then [{}] else [] })] }

theorem witness_TimeSlicesExpireAndSwitch :
    (twoJobs {} false).leads 1 = true ∧ (twoJobs {} false).follower 1 0 = none ∧ (twoJobs {} true).follower 1 0 = some 1 ∧
    ((twoJobs {} true).job 1 0).st = .holding ∧ (twoJobs {} true).runnable 1 0 = false ∧ (twoJobs {} true).endsDue 1 = none ∧
    (twoJobs { expired := some 0 } true).jobBusy 1 0 = false ∧ ((twoJobs { expired := some 0 } true).parcel 1).ordered = none ∧
    (twoJobs { expired := some 0 } true).liveCount 1 0 ≤ ((twoJobs { expired := some 0 } true).job 1 0).liveBudget ∧
    (let s : State := { twoJobs { expired := some 0, graceOver := true } true with slc := [(3, { gran := [(0, { st := .present })] })] };
      (¬ s.liveCount 1 0 ≤ (s.job 1 0).liveBudget ∧ s.follower 1 0 = some 1)) ∧
    (let s : State := { jobIn .switching none with parcels := [(1, { active := true, switch := some { incoming := 0 } })] };
      ((s.parcel 1).switch = some { incoming := 0 } ∧ s.gatherOf (.image 1 0) = none ∧ (s.job 1 0).residents = [] ∧ (s.job 1 0).saved = false)) := by
  decide

/-- `queued` on the step queue of its job's binding, with one sequence as given in entry 0. -/
def seqDie (b : List Byte) (e : Seq) : State :=
  { queued { bytes := b ++ List.replicate (64 - b.length) 0#8, items := [.idle] } with
    caddy := { up.caddy with quota := [(1, 4)], bind := [(16, { bound := true, queue := 8 })], seqs := [(0, e)] } }

set_option maxRecDepth 20000 in
theorem witness_CaddyCommandsKeepTheirSequences :
    up.caddyInUse 1 = 0 ∧ (seqDie [] { st := .ready, parcel := 1 }).caddyInUse 1 = 1 ∧
    (∃ c u, (queued { bytes := leBytes 64 0x10, items := [.idle] }).starts 8 0x10 1 0 c u ∧ (u.caddy.bind.rd 16).bound = false ∧
      remoteExts (c.record.flatMap Prod.snd) = false) ∧
    (∃ c u, (queued { bytes := leBytes 64 0x11, items := [.idle] }).starts 8 0x11 1 0 c u ∧ u.stepQueue 1 0 8 = false) ∧
    (∃ c u, (seqDie (leBytes 40 0x11 ++ [3#8] ++ List.replicate 15 0#8 ++ [1#8]) {}).startsSeq 8 0x11 1 0 c u ∧ u.seqBy 1 0 (field c.bytes 24 4) = none ∧
      field c.bytes 40 4 ≠ 0 ∧ field c.bytes 56 8 ≠ 0 ∧ u.caddyInUse 1 < u.caddy.quota.rd 1 ∧ u.freeEntry = some 0) ∧
    (∃ c u, (seqDie [0x12#8] { st := .done, parcel := 1 }).startsSeq 8 0x12 1 0 c u ∧
      u.seqBy 1 0 (field c.bytes 24 4) = some (0, { st := .done, parcel := 1 })) ∧
    (∃ c u, (seqDie [0x13#8] { st := .feedWait, parcel := 1 }).startsSeq 8 0x13 1 0 c u ∧
      u.seqBy 1 0 (field c.bytes 24 4) = some (0, { st := .feedWait, parcel := 1 })) ∧
    (∃ c u, (seqDie [0x14#8] { st := .done, parcel := 1 }).startsSeq 8 0x14 1 0 c u) ∧
    (∃ c u, (seqDie [0x15#8] {}).startsSeq 8 0x15 1 0 c u ∧ u.seqsOf 1 0 = []) :=
  ⟨by decide, by decide, ⟨_, _, ⟨_, _, by rfl, by decide, by rfl, rfl, _, by rfl⟩, by decide, by decide⟩,
   ⟨_, _, ⟨_, _, by rfl, by decide, by rfl, rfl, _, by rfl⟩, by decide⟩,
   ⟨_, _, ⟨⟨_, _, by rfl, by decide, by rfl, rfl, _, by rfl⟩, by decide, by decide⟩, by decide, by decide, by decide, by decide, by rfl⟩,
   ⟨_, _, ⟨⟨_, _, by rfl, by decide, by rfl, rfl, _, by rfl⟩, by decide, by decide⟩, by decide⟩,
   ⟨_, _, ⟨⟨_, _, by rfl, by decide, by rfl, rfl, _, by rfl⟩, by decide, by decide⟩, by decide⟩,
   ⟨_, _, ⟨⟨_, _, by rfl, by decide, by rfl, rfl, _, by rfl⟩, by decide, by decide⟩⟩,
   ⟨_, _, ⟨⟨_, _, by rfl, by decide, by rfl, rfl, _, by rfl⟩, by decide, by decide⟩, by decide⟩⟩

/-- `seqDie` with one READY sequence in a binding of one bucket whose work list lies in HOST memory. -/
def stepDie : State :=
  { seqDie [] {} with
    queues := [(8, { st := .opened })], slc := [(3, { powered := true })]
    caddy := { up.caddy with
      seqs := [(0, { st := .ready, parcel := 1 })]
      bind := [(16, { bound := true, queue := 8, rowBudget := 1, chunk := 1, buckets := [{ rows := 1 }],
                      wlExts := [{ len := 64, back := .host, write := true }] })] } }

set_option maxRecDepth 20000 in
theorem witness_GeneratedStepsAreBuiltAndSettled :
    (stepDie.jobOf 8 = some (1, 0) ∧ stepDie.stepQueue 1 0 8 = true ∧ stepDie.mayStart 1 0 = true ∧ stepDie.caddyPending 1 0 = true) ∧
    (∃ u rows v k w, retransSeqs 8 1 0 (stepDie.job 1 0).cfg (stepDie.seqsOf 1 0) stepDie = (u, true) ∧
      stepPlan (stepDie.caddy.bind.rd 16) (u.seqsOf 1 0) ≠ [] ∧ planRows 1 (stepPlan (stepDie.caddy.bind.rd 16) (u.seqsOf 1 0)) 0 u = .ok rows v ∧
      (stepDie.caddy.bind.rd 16).buckets.find? (fun k => decide (rows.length ≤ k.rows)) = some k ∧
      v.wlPlace 1 (stepDie.caddy.bind.rd 16) = some (3, 0) ∧ v.canClaim 3 (granules 0 16) = true ∧
      v.writeDva (.parcel 1) (stepDie.caddy.bind.rd 16).wlExts 0 ((rows ++ List.replicate (k.rows - rows.length) (default : WlRow)).flatMap WlRow.bytes) = .ok () w) ∧
    (let c : Cmd := { bytes := leBytes 64 0, started := true, items := [.done .ok .none], gen := some 1 };
      (c.gen ≠ none ∧ c.isOver = true ∧ c.resultsDone = false ∧ c.outcome.1 = .ok)) :=
  ⟨by decide, ⟨_, _, _, _, _, by rfl, by decide, by rfl, by rfl, by decide, by decide, by rfl⟩, by decide⟩

/-- `jobIn` with stream 2 as given and one cached translation of its parcel to HOST memory. -/
def streamDie (x : Stream) : State :=
  { jobIn .holding (some 0) with streams := [(2, x)], xlat := { up.xlat with cache := [(1, [{ len := 1048576, kind := 2, r := true, w := true }])] } }

/-- A host stream of job 5 with a ring of 16 entries of 128 bytes. -/
def hostCfg : StreamCfg := { parcel := 1, jobId := 5, log2 := 4, entryBytes := 128, ring := 4096, srcRing := 65536, srcLog2 := 4, weight := 1 }

theorem witness_StreamsAreConfiguredOpenedAndRung :
    hostCfg.ok = true ∧ ({ hostCfg with source := 0x10, srcRing := 0, srcLog2 := 0 } : StreamCfg).ok = true ∧ ({} : StreamCfg).ok = false ∧
    (streamDie {}).serving ∧ ((streamDie {}).streams.rd 2).st = .closed ∧ (streamDie {}).streamSlot {} = none ∧
    (streamDie { cfg := hostCfg }).streamSlot hostCfg = some 0 ∧ (∃ rec w, (streamDie { cfg := hostCfg }).streamRings hostCfg 0 = .ok rec w) ∧
    (streamDie { st := .opened, cfg := hostCfg, entry := some [] }).streamHeld { st := .opened, cfg := hostCfg, entry := some [] } = false ∧
    bitAt (streamDie {}).start.retiredFlags 1 = false :=
  ⟨by decide, by decide, by decide, ⟨by decide, by decide⟩, by decide, by decide, by decide, ⟨_, _, by rfl⟩, by decide, by decide⟩

/-- A SCRATCH stream of job 5 with an entry taken. -/
def scratchStream : Stream :=
  { st := .opened, cfg := { hostCfg with ringKind := 1, log2 := 1, entryBytes := 1024, ring := 0 }, entry := some [7#8] }

/-- A MEMORY stream with its ring full and CONS 9 in HOST memory. -/
def fullDie : State :=
  let d := streamDie { st := .opened, cfg := hostCfg, seq := 16#64, ringExts := [{ dva := 4096, len := 4096, back := .host, addr := 4096, write := true }] }
  { d with mem := { d.mem with host := memWrite [] 4160 [9#8] } }

theorem witness_StreamEntriesReachTheirRings :
    (let s := streamDie scratchStream; (s.streamHeld scratchStream = false ∧ s.awake = true ∧ ((s.parcel 1).resolve (scrOperand 0) 0 2048).isSome = true)) ∧
    ((streamDie scratchStream).slc.rd 3).withdrawn = false ∧
    (({ streamDie scratchStream with slc := [(3, { powered := true })] } : State).slc.rd 3).powered = true ∧
    (∃ ps b w, runPieces (fullDie.streams.rd 2).ringExts (4096 + 64) 8 = some ps ∧ fullDie.readAll (.parcel 1) 1 0 ps = .ok b w ∧ leNat b = 9 ∧
      2 ^ 4 ≤ (fullDie.streams.rd 2).seq.toNat - (fullDie.streams.rd 2).cons) :=
  ⟨by decide, by decide, by decide, ⟨_, _, _, by rfl, by rfl, by decide, by decide⟩⟩

/-- A die whose Kettle has a run at an instruction with an opcode (A 0, D 256, W 0, N 16), one instruction placed at image byte 64. -/
def kettleRun (op : Byte) : State :=
  let img := List.replicate 24 0#8 ++ leBytes 4 64 ++ leBytes 2 1 ++ List.replicate 34 0#8 ++ [op] ++ leBytes 7 (2 ^ 22)
  { up with kettle := { pc := some 0, st := .listening, due := 1, image := img } }

theorem witness_KettleVectorProgramComputes :
    (kettleRun 1).kettle.captures = true ∧ up.kettle.captures = false ∧ up.kettle.current = none ∧
    (∀ o ∈ [0, 1, 2, 3, 4, 5, 6, 7], ∃ i, (kettleRun (BitVec.ofNat 8 o)).kettle.current = some i ∧ i.op = o) :=
  ⟨by decide, by decide, by decide, by
    simp only [List.forall_mem_cons, List.not_mem_nil, false_imp_iff, implies_true, and_true]
    exact ⟨⟨_, by rfl, by decide⟩, ⟨_, by rfl, by decide⟩, ⟨_, by rfl, by decide⟩, ⟨_, by rfl, by decide⟩, ⟨_, by rfl, by decide⟩, ⟨_, by rfl, by decide⟩,
      ⟨_, by rfl, by decide⟩, ⟨_, by rfl, by decide⟩⟩⟩

/-- A capturing die whose sensor 0 is enabled with CMP 1, THRESH 5 and a period as given; pin 0 rises with no debounce. -/
def sensing (period : Byte) : State :=
  let img := List.replicate 44 0#8 ++ leBytes 4 64 ++ leBytes 4 72 ++ List.replicate 12 0#8 ++
        [1#8, 0#8, period, 0#8, 1#8, 1#8, 5#8, 0#8, 1#8, 0#8, 1#8, 0#8]
  let outs : Tab KOut := [(3, { buf := [(0, [1#8])] }), (1, { mark := some 0 })]
  { up with
    kettle := { st := .listening, image := img, pins := [(0, { deadline := some 3 })], outs := outs }
    streams := [(2, { st := .opened, cfg := { source := 0x13 } }), (3, { st := .opened, cfg := { source := 0x11 } })], now := 2000000 }

set_option maxRecDepth 20000 in
theorem witness_KettleIsLoadedStartedAndWoken :
    up.serving ∧ up.kettlePrincipal (.parcel 3) = false ∧ up.kettlePrincipal .rtp = true ∧ up.kettleRetired = false ∧ up.kettle.st = .stopped ∧
    (let s : State := { up with kettle := { image := [1#8] } }; (s.kettle.image ≠ [] ∧ s.kettle.st = .stopped)) ∧
    (sensing 2).kettle.captures = true ∧ (sensing 2).kettle.sensor 0 0 1 = 1 ∧ (sensing 2).kettle.sensor 0 2 2 = 2 ∧ (sensing 0).kettle.sensor 0 2 2 = 0 ∧
    (sensing 0).kettle.sensor 0 4 1 = 1 ∧ sext 16 ((sensing 0).kettle.sensor 0 6 2) ≤ sext 16 7 ∧ sext 16 3 < sext 16 ((sensing 0).kettle.sensor 0 6 2) ∧
    ((sensing 0).kettle.pins.rd 0).deadline = some 3 ∧ (sensing 0).outStream 3 = some 2 ∧ (sensing 0).outStream 1 ≠ none ∧
    0 + (sensing 0).kettle.entryNs ≤ (sensing 0).now ∧ ({ sensing 0 with now := 5 } : State).now < 0 + (sensing 0).kettle.entryNs :=
  ⟨⟨by decide, by decide⟩, by decide⟩

/-- A die whose port 2 is as given. -/
def portDie (x : Port) : State := { up with dieId := 3, fab := { up.fab with ports := [(2, x)] } }

/-- A good flit with a first word. -/
def goodFlit (h : Nat) : List Byte := flitOf h []

set_option maxRecDepth 20000 in
theorem witness_FlitsAreTakenInOrderAndAnswered :
    (portDie { st := .active }).port 2 = { st := .active } ∧ PortState.receives .active = true ∧ PortState.receives .linkAuth = true ∧
    field (padTo 64 (goodFlit 0)) 60 4 = crc32c ((padTo 64 (goodFlit 0)).take 60) ∧ field (padTo 64 [1#8]) 60 4 ≠ crc32c ((padTo 64 [1#8]).take 60) ∧
    bitAt (field (padTo 64 (goodFlit 0)) 0 4) 30 = false ∧ bitAt (field (padTo 64 (goodFlit (2 ^ 30))) 0 4) 30 = true ∧
    field (padTo 64 (goodFlit (2 ^ 30))) 60 4 = crc32c ((padTo 64 (goodFlit (2 ^ 30))).take 60) ∧
    field (padTo 64 (goodFlit 0)) 0 4 % 4096 = ((portDie { st := .active }).port 2).rxSeq ∧
    field (padTo 64 (goodFlit 0)) 0 4 % 4096 ≠ ((portDie { st := .active, rxSeq := 5 }).port 2).rxSeq ∧
    ({ replay := [[], []], txSeq := 2 } : Port).freed 0 = 1 ∧ ({ replay := [[]], txSeq := 2 } : Port).freed 0 = 0 ∧ ({ replay := [[]], txSeq := 2 } : Port).freed 5 = 5 ∧
    (contentFlits ((portDie { st := .active, txRec := [goodFlit 0] }).port 2).txRec).getLast? = some (goodFlit 0) ∧
    ((portDie { auth := { running := true } }).port 2).auth.running = true ∧ ((portDie { auth := { running := true } }).port 2).auth.finish = [] := by decide

theorem witness_PortsTrainRouteAndGuard :
    ((portDie { st := .detect }).port 2).st = .detect ∧ ((portDie { st := .equalize, speed := 1 }).port 2).speed ≠ 0 ∧
    ((portDie { st := .laneMap }).port 2).quarterTried = false ∧ fourLanes 31 4 = some 15 ∧ fourLanes 7 0 = none ∧ (5 : U16) ≠ 0xFFFF ∧
    (5 : U16).toNat ≠ (portDie { st := .linkInit }).dieId ∧ up.serving ∧ bitsOf (0x0008 : U16).toNat 9 8 ≠ 3 ∧ bitsOf (0x0008 : U16).toNat 15 10 = 0 ∧
    bitsOf (0x0300 : U16).toNat 9 8 = 3 ∧ (portDie { st := .linkAuth }).agree.adoption = none ∧ (portDie { st := .linkAuth }).fab.waitOut = [] :=
  ⟨by decide, by decide, by decide, by decide, by decide, by decide, by decide, ⟨by decide, by decide⟩, by decide⟩

/-- An agreement whose parts are all held and acknowledged. -/
def heldAuth : Auth :=
  { running := true, finish := [1#8], rcvd := 0x3007F, peerHello := (List.range 7).map (fun k => (k, [])), peerFinish := (List.range 2).map (fun k => (k, [])) }

/-- Every verdict on the peer of a complete agreement falls under one of the clauses. -/
theorem witness_PortsTrainRouteAndGuard_auth : ∃ peer fin, heldAuth.helloOf = some peer ∧ heldAuth.finishOf = some fin ∧ heldAuth.running = true ∧
    heldAuth.finish ≠ [] ∧ heldAuth.rcvd / 65536 % 4 = 3 ∧
    (State.peerOk (portDie { st := .linkAuth, auth := heldAuth }) heldAuth.hello peer fin = true ∨
     State.peerOk (portDie { st := .linkAuth, auth := heldAuth }) heldAuth.hello peer fin = false) :=
  ⟨_, _, by rfl, by rfl, by decide, by decide, by decide, by cases State.peerOk _ _ _ _ <;> simp⟩

/-- A member die of fabric parcel 5, die 3, whose parcel 1 holds slice 3, semaphore 4 and HOST memory at DVA 0; die 7 is the other member. -/
def memberDie : State :=
  let d := stepping [] {} 5
  { d with dieId := 3, xlat := { d.xlat with cache := [(1, [{ len := 1048576, kind := 2, r := true, w := true, remote := true }])] }, slc := [(3, { powered := true, gran := [(0, { st := .present })] })] }

/-- A message of die 7 to parcel 1 of `memberDie`. -/
def fromPeer (op addr : Nat) (ctl : Nat := 0) : Msg :=
  { op := op, ctl := ctl, dest := 3, src := 7, fabric := 5, addr := 2 ^ 45 + addr, payload := List.replicate 128 0#8 }

theorem witness_RemoteRequestsAreServedAtTheTarget :
    Msg.aligned (fromPeer 1 1) = false ∧ Msg.aligned (fromPeer 1 0) = true ∧ memberDie.serveGate 1 (fromPeer 1 0) = none ∧
    memberDie.serveGate 1 { fromPeer 1 0 with src := 2 } = some .denied ∧
    (∃ ps u bs v, memberDie.spot (fromPeer 1 0) 128 true false = .mem 1 ps u ∧ u.readPieces (.parcel 1) ps = .ok bs v) ∧
    (∃ ps u v, memberDie.spot (fromPeer 2 0) 128 false true = .mem 1 ps u ∧ (∀ x ∈ ps, u.pieceBusy x = false) ∧
      u.writePieces (.parcel 1) (subPieces ps 0 128) (List.replicate 128 0#8) = .ok () v) ∧
    (∃ ps u bs v w, memberDie.spot (fromPeer 4 8) 4 true true = .mem 1 ps u ∧ (∀ x ∈ ps, u.atomicOffered 0 x.back = true ∧ u.pieceBusy x = false) ∧
      u.readPieces (.parcel 1) ps = .ok bs v ∧ v.writePieces (.parcel 1) ps (leBytes 4 0) = .ok () w) ∧
    memberDie.semParcel ((fromPeer 5 4).addr % 256) = some 1 ∧
    memberDie.semParcel ((fromPeer 5 5).addr % 256) = none ∧ memberDie.remoteWaiters < 64 ∧ memberDie.queueParcel ((fromPeer 6 8).addr % 1024) = some 1 ∧
    memberDie.queueParcel ((fromPeer 6 99).addr % 1024) = none :=
  ⟨by decide, by decide, by decide, by decide, ⟨_, _, _, _, by rfl, by rfl⟩,
   ⟨_, _, _, by rfl, by decide, by rfl⟩, ⟨_, _, _, _, _, by rfl, by decide, by rfl, by rfl⟩, by decide, by decide, by decide, by decide, by decide⟩

/-- Where the members before this die hold no slice (their counts are free), slice requests of the peer reach slice 3: readable in its first
granule, not in its second, and claimable. -/
theorem witness_RemoteRequestsAreServedAtTheTarget_slice (h : Config.fabricShape 5 1 = 0) :
    memberDie.spot (fromPeer 1 (2 ^ 44)) 128 true false = .slice 1 3 0 memberDie ∧
    memberDie.spot (fromPeer 1 (2 ^ 44 + 1024)) 128 true false = .slice 1 3 1024 memberDie ∧
    memberDie.spot (fromPeer 2 (2 ^ 44)) 128 false true = .slice 1 3 0 memberDie ∧
    (∀ g ∈ granules 0 128, ((memberDie.slc.rd 3).gran.rd g).holdable = true) ∧ (∃ g ∈ granules 1024 128, ((memberDie.slc.rd 3).gran.rd g).holdable = false) ∧
    memberDie.canClaim 3 (granules 0 128) = true := by
  have h1 : (memberDie.parcel 1).sliceOf 0 = some 3 := by
    have h2 : (memberDie.parcel 1).others 1 = 0 := h
    unfold Parcel.sliceOf; rw [h2]; rfl
  have go : ∀ op off r w, off < 2 ^ 20 → memberDie.serveGate 1 (fromPeer op (2 ^ 44 + off)) = none →
      memberDie.spot (fromPeer op (2 ^ 44 + off)) 128 r w = .slice 1 3 off memberDie := by
    intro op off r w ho hg
    have a1 : bitsOf (fromPeer op (2 ^ 44 + off)).addr 47 45 = 1 := by simp only [fromPeer, bitsOf]; omega
    have a2 : bitAt (fromPeer op (2 ^ 44 + off)).addr 44 = true := by simp only [fromPeer, bitAt]; simp; omega
    have a3 : (fromPeer op (2 ^ 44 + off)).addr % 2 ^ 44 = off := by simp only [fromPeer]; omega
    have a4 : ¬(off ≥ 2 ^ 26 ∨ (fromPeer op (2 ^ 44 + off)).src = memberDie.dieId) := by
      rintro (h | h)
      · omega
      · exact absurd (show (7 : Nat) = 3 from h) (by decide)
    have a5 : off / 2 ^ 22 = 0 := by omega
    have a6 : off % 2 ^ 22 = off := by omega
    have a7 : ¬(off + 128 > sliceBytes) := by simp only [sliceBytes]; omega
    unfold State.spot
    simp only [a1, a2, a3, a5, a6, h1, hg, if_neg a4, if_neg a7, if_true]
  exact ⟨go 1 0 _ _ (by decide) (by decide), go 1 1024 _ _ (by decide) (by decide), go 2 0 _ _ (by decide) (by decide), by decide, by decide, by decide⟩

/-- A die with tag 5 held for a read of die 7 and its transfer. -/
def tagDie (timedOut : Bool) (gs : List Gather) : State :=
  { up with fab := { up.fab with txns := [(5, { held := true, dest := 7, req := { op := 1 }, owner := .stream 2, timedOut := timedOut })], gathers := gs } }

theorem witness_RemoteResponsesEndTheirTags :
    (let m : Msg := { op := 0x81, tag := 5 }; (m.tagNo = 5 ∧ m.tepoch = (tagDie false []).fab.tepoch % 16 ∧ m.op = responseOp 1 ∧ m.status ≠ 1)) ∧
    (let m : Msg := { op := 0x81, tag := 4096 }; m.tepoch ≠ (tagDie false []).fab.tepoch % 16) ∧ (({ op := 0x85, addr := 1 } : Msg).status = 1) ∧
    ((tagDie false [{ owner := .stream 2, outstanding := 1 }]).fab.txns.rd 5).held = true ∧ ((tagDie true []).fab.txns.rd 5).timedOut = true ∧
    (tagDie false [{ owner := .stream 2, outstanding := 1 }]).fab.gathers = [{ owner := .stream 2, outstanding := 1 }] ∧
    (tagDie false [{ owner := .step 8 1 0, retry := some {} }]).fab.gathers = [{ owner := .step 8 1 0, retry := some {} }] := by decide

/-- Die 3 as a leaf or inner member of a collective of dies 1 to 9 of parcel 1, with context 2 as given. -/
def collDie (x : Coll) (die : Nat) : State :=
  { memberDie with
    dieId := die, agree := { memberDie.agree with datum := { memberDie.agree.datum with plat := [{ fparcel := 5, ranges := [(1, 9)] }] } }
    fab := { memberDie.fab with colls := [(2, x)] } }

/-- A segment message of context 2 from a die. -/
def segFrom (src dir seg : Nat) : Msg := { op := 0x20, src := src, fabric := 5, addr := 2 + 256 * dir + 65536 * seg, payload := List.replicate 128 1#8 }

theorem witness_CollectivesCombineUpAndHandDown :
    up.serving ∧ (∀ e ∈ (up.coll 2).segs, e.own = none) ∧
    (let x : Coll := { parcel := 1, length := 512, segs := [{ own := some (List.replicate 128 1#8) }] }
     ((∃ e ∈ ((collDie x 5).coll 2).segs, e.own ≠ none) ∧ (collDie x 2).treePlace x = (1, some 1, some 4, some 5) ∧ (collDie x 5).treePlace x = (4, some 2, none, none) ∧
      (collDie { x with segs := [] } 4).treePlace x = (3, some 2, some 8, some 9) ∧ (segFrom 4 0 0).addr % 256 % 8 = 2 ∧ (segFrom 4 0 0).addr / 256 % 256 = 0 ∧
      ((collDie x 2).parcel 1).fabricId = (segFrom 4 0 0).fabric ∧ x.seg + 16 ≤ (segFrom 4 0 16).addr / 65536)) ∧
    (let x : Coll := { parcel := 1, length := 512, segs := [{ own := some (List.replicate 128 1#8) }] }
     let d : State := { collDie x 2 with agree := { up.agree with datum := { up.agree.datum with plat := [{ fparcel := 5, ranges := [(1, 4)] }] } } }
     d.treePlace x = (1, some 1, some 4, none)) ∧
    (∃ e u, (collDie { kind := 3, parcel := 1, segs := [{ own := some [] }] } 5).segDown 2 e [] = (u, true)) :=
  ⟨⟨by decide, by decide⟩, by decide, by decide, by decide, ⟨{}, _, by rfl⟩⟩

/-- A beacon of epoch 1 and surveyor 0. -/
def beaconBytes80 : List Byte := leBytes 8 1 ++ List.replicate 72 0#8

/-- A proposal at base epoch 0: one image kind, the defaults, no fabric parcel. -/
def proposalBytes : List Byte :=
  leBytes 8 0 ++ [1#8, 1#8, 0#8, 0#8, 0#8] ++ leBytes 4 500 ++ (List.range 7).flatMap (fun _ => ({} : AlProfile).bytes) ++ [0#8, 0#8] ++ [0#8, 0#8, 0#8, 0#8]

/-- An adoption whose parts are `proposalBytes`' and whose digest is theirs. -/
def adopting : Adoption :=
  let v : List Byte := [1#8, 1#8, 0#8, 0#8, 0#8]
  let c : List Byte := leBytes 4 500 ++ (List.range 7).flatMap (fun _ => ({} : AlProfile).bytes)
  let z : List Byte := [0#8, 0#8, 0#8, 0#8]
  { die := 7, epoch := 2, got := [(2, v), (3, Config.sha384 (v ++ c ++ [0#8, 0#8] ++ z)), (4, c), (5, [0#8, 0#8]), (6, z)] }

/-- A broadcast frame of an index with a body. -/
def castOf (index : Nat) (body : List Byte) : Msg :=
  { op := 0x30, dest := 0xFFFF, src := 7, payload := [0x11#8, 0#8, 0#8, 0#8] ++ leBytes 2 index ++ List.replicate 10 0#8 ++ body }

set_option maxRecDepth 20000 in
theorem witness_DiesAgreeOnDatumAndStanding :
    (beaconBytes80.length = 80 ∧ field beaconBytes80 19 1 < 8 ∧ field beaconBytes80 28 4 = 0) ∧ ((portDie { st := .active }).port 2).st = .active ∧
    (let s : State := { up with agree := { up.agree with neigh := [(2, { heard := true })] } }; (s.agree.neigh.rd 2).heard = true) ∧ up.alone = true ∧
    (up.serving ∧ up.isSurveyor = true ∧ field proposalBytes 0 8 = up.agree.datum.epoch ∧ (∃ d, proposalOf (proposalBytes.drop 8) = some d ∧ up.heldParcel d = false) ∧
      proposalOf [] = none) ∧
    (let s : State := { portDie { st := .active } with agree := { up.agree with survDie := 9 } }; s.isSurveyor = false) ∧
    (∃ d, partsOf (adopting.got.rd 2) (adopting.got.rd 4) (adopting.got.rd 5) (adopting.got.rd 6) = some d ∧ adopting.got.length = 5 ∧
      padTo 48 (Config.sha384 (adopting.got.rd 2 ++ adopting.got.rd 4 ++ adopting.got.rd 5 ++ adopting.got.rd 6)) = padTo 48 (adopting.got.rd 3) ∧
      up.inWindow d.versions = false ∧
      (let s : State := { up with sec := { up.sec with images := [(0, { kind := 1, major := 0, minor := 0 })] } }; s.inWindow d.versions = true)) ∧
    (let s : State := { up with agree := { up.agree with probes := [(7, 5)] } };
      s.agree.probes.find? (fun (q : Nat × Nat) => q.1 == (7 : U16).toNat) = some (7, 5)) ∧
    isCast (castOf 0x4108 [1#8, 0#8, 7#8, 0#8]) 0x4108 = true ∧ field (slice (castOf 0x4108 [1#8, 0#8, 7#8, 0#8]).payload 16 8) 0 1 = 1 ∧
    isCast (castOf 0x4108 [4#8]) 0x4108 = true ∧ field (slice (castOf 0x4108 [4#8]).payload 16 8) 0 1 = 4 ∧ isCast (castOf 0x4100 []) 0x4100 = true ∧
    (memberDie.parcel 1).fabricId = (jobRecOf (leBytes 2 5 ++ leBytes 8 1 ++ List.replicate 81 0#8)).fparcel ∧ memberDie.leads 1 = false ∧
    (∀ j ∈ (jobRecOf (leBytes 2 5 ++ leBytes 8 1 ++ List.replicate 81 0#8)).jobs, j.2 ≠ 4 ∧ j.2 ≠ 6) ∧ (memberDie.parcel 1).switch = none ∧
    (let s : State := { memberDie with dieId := 0 };
      (List.range 8).find? (fun p => (5 : Nat) != 0 && (s.parcel p).fabricId == 5 && s.leads p) = some 1) ∧ 7 ∈ memberDie.fabricDies 5 ∧ 2 ∉ memberDie.fabricDies 5 :=
  ⟨by decide, by decide, by decide, by decide, ⟨⟨by decide, by decide⟩, by decide, by decide, ⟨_, by rfl, by decide⟩, by decide⟩, by decide,
   ⟨_, by rfl, by decide, rfl, by decide, by decide⟩, by decide, by decide, by decide, by decide, by decide, by decide, by decide, by decide, by decide, by decide, by decide,
   by decide, by decide⟩

/-- A die that is not the benchmark source, port 2 ACTIVE to die 1, asked of it, with a message delivered. -/
def benchDie (m : Msg) : State :=
  let d := portDie { st := .active, admitted := true, peer := { die := 1 } }
  { d with fab := { d.fab with arrived := [m] }, agree := { up.agree with survDie := 1, datum := { up.agree.datum with benchDie := 1 }, bench := { asked := some (4, 0), parentDie := 1, parent := some 2 } } }

/-- A synchronization message of die 1 of a kind, with sequence number 4. -/
def syncMsg (kind : Nat) : Msg := { op := 0x40, src := 1, payload := padTo 128 (leBytes 1 kind ++ leBytes 3 0 ++ leBytes 4 4) }

theorem witness_BenchmarkTimeAndClosuresKeepCount :
    up.isBenchSource = true ∧ ((benchDie (syncMsg 1)).reach 1000000).isBenchSource = false ∧ ((benchDie (syncMsg 1)).reach 1000000).chooseParent = some 2 ∧
    syncMsg 1 ∈ (benchDie (syncMsg 1)).fab.arrived ∧ field (syncMsg 1).payload 0 1 = 1 ∧ field (syncMsg 1).payload 4 4 = 4 ∧ (syncMsg 1).src = (benchDie (syncMsg 1)).agree.bench.parentDie ∧
    field (syncMsg 1).payload 8 8 = 0 ∧ (benchDie (syncMsg 0)).portsTo 1 = [2] ∧ up.serving ∧ up.agree.datum.benchKind ≠ 2 ∧ (up.reach 10000000).dieFailures = [] ∧
    (let s : State := { up with fab := { up.fab with issued := 1 } }; (s.reach 10000000).dieFailures ≠ []) ∧ up.alone = true ∧ (benchDie (syncMsg 1)).alone = false ∧
    (let m : Msg := { op := 0x50, src := 1 }; ((benchDie m).portsTo m.src).find? (fun p => ((benchDie m).port p).peer.port == field m.payload 9 1) = some 2 ∧
      ((benchDie m).port 2).failures ((List.range 16).map (fun k => field m.payload (16 + 4 * k) 4)) (((benchDie m).port 2).closeGot.headD []) = []) :=
  ⟨by decide, by decide, by decide, by decide, by decide, by decide, by decide, by decide, by decide, ⟨by decide, by decide⟩, by decide, by decide, by decide, by decide,
   by decide, by decide⟩

/-- An open die with challenge record 0 as given. -/
def chalDie (c : Challenge) : State := { up with sec := { up.sec with challenges := [(0, c)] } }

/-- An answer to record 1 by signer 0 with a zero nonce. -/
def answerBytes : List Byte := [1#8] ++ List.replicate 231 0#8

/-- A sealed active parcel 1 with an offer as given. -/
def sealDie (offered : Bool) (offer : List Byte) : State :=
  { up with parcels := [(1, { active := true, sealed := true, sealOffered := offered })], sec := { up.sec with offers := [(1, offer)] } }

/-- An offer in range. -/
def offerBytes : List Byte := List.replicate 140 0#8 ++ [4#8] ++ List.replicate 7 0#8

set_option maxRecDepth 20000 in
theorem witness_ChallengesAndAnswersGateEveryChange :
    up.serving ∧ (∀ op ∈ [1, 2, 7], argOk op (List.replicate 64 0#8) = true ∧ up.sec.fuses.refuses op (List.replicate 64 0#8) = false) ∧
    (argOk 3 ([4#8] ++ List.replicate 63 0#8) = true ∧ up.sec.fuses.refuses 3 ([4#8] ++ List.replicate 63 0#8) = false) ∧
    (argOk 4 (List.replicate 64 0#8) = true ∧ up.sec.fuses.refuses 4 (List.replicate 64 0#8) = false) ∧
    (argOk 5 ([1#8, 1#8] ++ List.replicate 62 0#8) = true ∧ up.sec.fuses.refuses 5 ([1#8, 1#8] ++ List.replicate 62 0#8) = false) ∧
    (argOk 6 ([1#8] ++ List.replicate 63 0#8) = true ∧ up.sec.fuses.refuses 6 ([1#8] ++ List.replicate 63 0#8) = false) ∧
    argOk 3 (List.replicate 64 0#8) = false ∧ up.freeRecord = some 0 ∧ up.sec.invalid < 16 ∧
    (let s : State := { up with sec := { up.sec with challenges := (List.range 8).map (fun k => (k, { st := .opened })) } };
      ∀ k : Fin 8, (s.sec.challenges.rd k).st = .opened ∨ (s.sec.challenges.rd k).st = .burned) ∧
    (answerBytes.length = 232 ∧ field answerBytes 0 1 = 1 ∧ field answerBytes 1 1 = 0 ∧ field answerBytes 2 2 = 0 ∧ field answerBytes 133 3 = 0 ∧
      slice answerBytes 4 32 = List.replicate 32 0#8) ∧ up.sec.programming = none ∧
    (let c := (chalDie { st := .opened, op := 1, nonce := List.replicate 32 0#8, deadline := 5 }).sec.challenges.rd 0; (c.st = .opened ∧ c.deadline = 5 ∧ up.now < 5)) ∧
    (let s : State := { up with sec := { up.sec with programming := some (5, [1#8, 2#8]) } }; s.sec.programming = some (5, [1#8, 2#8])) ∧ up.sec.debug ≠ 3 ∧
    (offerBytes.length = 148 ∧ field offerBytes 140 1 = 4 ∧ field offerBytes 129 3 = 0 ∧ field offerBytes 132 8 % 64 = 0 ∧ ∀ x ∈ slice offerBytes 141 7, x = 0#8) ∧
    (((sealDie false []).parcel 1).active = true ∧ ((sealDie false []).parcel 1).sealed = true ∧ ((sealDie true offerBytes).parcel 1).sealOffered = true ∧
      (sealDie true offerBytes).sec.offers.rd 1 ≠ []) ∧ bitAt up.start.retiredFlags 5 = false :=
  ⟨⟨by decide, by decide⟩, by decide⟩

/-- Every verdict on an answer to a live record falls under a clause. -/
theorem witness_ChallengesAndAnswersGateEveryChange_verdict (f : Fuses) (c : Challenge) (pub m sig : List Byte) :
    (f.signerOk c 0 = true ∧ padTo 48 (Config.sha384 pub) = f.digest 0 ∧ Config.verify (f.digest 0) m sig = true) ∨
    ¬(f.signerOk c 0 = true ∧ padTo 48 (Config.sha384 pub) = f.digest 0 ∧ Config.verify (f.digest 0) m sig = true) := Classical.em _

/-- An SPDM request of a version and code, of 40 bytes. -/
def spdmReq (version code : Byte) (p1 p2 : Byte := 0) : List Byte := [version, code, p1, p2] ++ List.replicate 36 0#8

theorem witness_SpdmAndTapAnswer :
    up.serving ∧ (spdmReq 0x10 0x84).length = 40 ∧ field (spdmReq 0x10 0x84) 1 1 = 0x84 ∧ field (spdmReq 0x12 0x81) 0 1 = 0x12 ∧ field (spdmReq 0x12 0xE0 1 2) 36 1 % 16 = 0 ∧
    bitAt (field (spdmReq 0x12 0xE0 1 2) 2 1) 0 = true ∧ up.measurement 2 [] = some (padTo 48 []) ∧ bitAt up.start.retiredFlags 5 = false ∧ up.sec.debug ≠ 3 ∧
    (let s : State := { up with dict := { up.dict with spdm := { up.dict.spdm with phase := 3 } } }; s.dict.spdm.phase = 3) ∧
    ¬(up.start.step = 0 ∧ up.start.phase = .starting) ∧ (∀ p : Fin 8, (up.parcel p).active = false) ∧ (∃ p : Fin 8, ((sealDie false []).parcel p).active = true) ∧
    (∀ x : List Byte, x.length ≤ field (spdmReq 0x12 0x82) 4 2 ∨ field (spdmReq 0x12 0x82) 4 2 < x.length) :=
  ⟨⟨by decide, by decide⟩, by decide, by decide, by decide, by decide, by decide, by rfl, by decide, by decide, by decide, by decide, by decide, ⟨1, by decide⟩,
   fun _ => by omega⟩

/-- A die whose power manager is as given, its engine 3 powered and idle, its slice 3 powered and empty, its controller 0 running. -/
def powered (p : Power) : State :=
  { upEng { powered := true } with power := p, slc := [(3, { powered := true })], mem := { up.mem with mc := [(0, { st := .running, devices := true })] } }

set_option maxRecDepth 10000 in
theorem witness_TheGovernorAndTheSetpointFollowTheirLimits :
    State.reset.sagArmed = false ∧ (powered { tjMax := 100 }).sagArmed = true ∧ (powered {}).power.tjMax < 100 ∧
    (let b := (powered {}).power.budget; 5 * b < 4 * 50000 ∧ (4 * 40000 ≤ 5 * b ∧ b < 40000) ∧ 100 * 30000 < 98 * b ∧ (38000 ≤ b ∧ 98 * b ≤ 100 * 38000)) ∧
    up.serving ∧ (1 : Byte).toNat ≤ 1 ∧ 1 < (2 : Byte).toNat ∧ (powered { boostEnable := true }).boostOk = true ∧
    (let e := (powered {}).engine 3;
      e.powered = true ∧ e.state = .idle ∧ e.inbox = [] ∧ e.reserved = [] ∧ e.half0.drain = none ∧ e.half1.drain = none ∧ e.halted = false) ∧
    (let x := (powered {}).slc.rd 3; x.powered = true ∧ x.withdrawn = false ∧ x.gran = []) ∧ (upEng { powered := true, halted := true }).engine 3 ≠ {} ∧
    (let e := up.engine 3; e.powered = false ∧ e.retired = false ∧ up.aboveFloor 3 = false ∧ up.power.state ≠ .entering) ∧
    (up.slc.rd 3).powered = false ∧ (up.slc.rd 3).retired = false ∧ (up.power.domains.rd 21).st ≠ .on ∧ up.domainState 21 = 1 ∧ up.awake = true ∧
    ¬(up.awake = false ∨ (up.start.phase = .starting ∧ up.start.step ≤ 4)) ∧ (powered {}).setpoint = 850000 ⊓ (powered {}).setpoint ∧
    ((powered {}).mem.mc.rd 0).st = .running ∧ (up.mem.mc.rd 0).st ≠ .running :=
  ⟨by decide, by decide, by decide, by decide, ⟨by decide, by decide⟩, by decide, by decide, by decide, by decide, by decide, by decide, by decide, by decide, by decide,
   by decide, by decide, by decide, by decide, by decide, by decide, by decide⟩

/-- A die whose power manager is in a state, with a resume area; its Kettle is waking. -/
def resting (st : PowerState) : State :=
  { up with power := { state := st, resumeArea := some 0 }, kettle := { st := .waking, target := 1, wakeEngines := 1 },
            parcels := [(1, { active := true, engines := 8 })] }

theorem witness_TheKettleOnlyStateIsEnteredAndLeft :
    (resting .idle).serving ∧ (resting .idle).power.state ≠ .entering ∧ (resting .idle).mayDrop ∧ (resting .entering).mayDrop ∧ (resting .entering).awake = true ∧
    ¬((∃ p : Fin 8, ((resting .idle).port p).st = .active) ∨ (resting .idle).power.resumeArea = none) ∧ up.power.resumeArea = none ∧
    (let s := resting .idle; ¬((∃ q ∈ s.queues, q.2.consumed ≠ []) ∨ (∃ j ∈ s.jobs, j.2.st = .switching) ∨
      (∃ x ∈ s.streams, x.2.st = .opened ∧ x.2.cfg.source = 0 ∧ x.2.srcHead ≠ x.2.srcTail) ∨ (∃ c ∈ s.sec.challenges, c.2.st = .opened))) ∧
    (let s : State := { resting .idle with queues := [(8, { consumed := [{}] })] }; (∃ q ∈ s.queues, q.2.consumed ≠ [])) ∧
    (let s : State := { resting .entering with svc := { up.svc with segs := [{}] } }; s.svc.segs ≠ [] ∧ s.power.state = .entering ∧ s.awake = true) ∧
    (let s : State := { resting .idle with svc := { up.svc with segs := [{}] } }; s.svc.segs ≠ [] ∧ s.power.resumeArea ≠ none) ∧
    (resting .kettleOnly).power.state = .kettleOnly ∧ (resting .kettleOnly).kettle.st = .waking ∧ (∀ q ∈ (resting .kettleOnly).queues, q.2.st = .closed ∨ q.2.st = .faulted) ∧
    (let s := resting .kettleOnly; 3 ∈ (maskBits 16 (s.parcel s.kettle.target).engines).take s.kettle.wakeEngines ∧ (s.engine 3).retired = false ∧ s.aboveFloor 3 = false) :=
  ⟨⟨by decide, by decide⟩, by decide, ⟨by decide, by decide, by decide, by decide⟩, ⟨by decide, by decide, by decide, by decide⟩, by decide, by decide, by decide, by decide,
   by decide, by decide, by decide, by decide, by decide, by decide, by decide⟩

/-- A die at a sag stage with the default thresholds, its engines 3 and 5 powered. -/
def sagging (stage : Nat) : State :=
  { up with power := { State.reset.power with sagStage := stage, railEn := 15 }, eng := [(3, { powered := true }), (5, { powered := true })] }

set_option maxRecDepth 10000 in
theorem witness_SagStagesShedAndGiveBack :
    (sagging 0).sagArmed = true ∧ State.reset.sagArmed = false ∧ (sagging 0).sagLevel 50 1000 = 3 ∧ (sagging 0).sagLevel 60 200 = 4 ∧ (sagging 0).sagLevel 80 99 = 0 ∧
    (sagging 0).sagLevel 80 100 = 6 ∧ (sagging 0).sagLevel 29 5000 = 0 ∧ (sagging 0).sagLevel 100 100 = 7 ∧ (sagging 4).power.sagStage < (sagging 4).sagLevel 80 100 ∧
    (sagging 3).sagLevel 50 1000 ≤ (sagging 3).power.sagStage ∧ (sagging 7).power.sagStage = 7 ∧
    (∀ n ∈ [1, 2, 3, 4, 5, 6], let s := sagging n; ¬(s.sagArmed = false ∨ n = 0 ∨ n = 7 ∨ (s.power.thresh.rd n).thresh ≤ 19 + 10 ∨ (s.power.sagPin = true ∧ n ≤ s.power.pinStage))) ∧
    (let s := sagging 1; (s.power.thresh.rd 1).thresh ≤ 20 + 10) ∧ (sagging 0).awake = true ∧ bitAt (sagging 0).power.railEn 2 = true ∧ bitAt (sagging 0).power.railEn 4 = false ∧
    (∀ p, p < 8 → 3 ∉ (sagging 0).floorOf p) :=
  ⟨by decide, by decide, by decide, by decide, by decide, by decide, by decide, by decide, by decide, by decide, by decide, by decide, by decide, by decide, by decide, by decide,
   by decide⟩

/-- Table 17.5's defaults: a single report of 50‰ for 1,000 ns is stage 3 (17 R657). -/
theorem test_report_is_stage_three : (sagging 0).sagLevel 50 1000 = 3 := by decide

/-- A die whose start stands at a step, waiting where the step is an image step. -/
def startingAt (k kind : Nat) (env : StartEnv) : State :=
  { State.reset with
    start := { powerGood := true, step := k, env := env, boot := { reqSeq := 1, kind := kind, length := 65536, waiting := true } } }

set_option maxRecDepth 10000 in
theorem witness_ResetsKeepFusesAndLedgerAndStartAgain :
    State.reset.start.powerGood = false ∧ up.start.powerGood = true ∧ ({} : StartEnv).fails = [] ∧ ({} : StartEnv).hang = none ∧ ({} : StartEnv).ms = [] ∧
    ({} : StartEnv).badFuses = [] ∧ ({} : StartEnv).ledgerBad = false ∧ ({ up.ledger with clearPending := true } : Ledger).clearPending = true ∧
    (startingAt 20 0 {}).start.phase = .starting ∧ up.serving ∧
    (let s : State := { up with start := { up.start with phase := .halted } }; s.start.powerGood = true ∧ s.start.phase = .halted) ∧
    (let s := startingAt 20 0 {}; s.power.sagStage ≠ 7 ∧ s.bootStep s.start.step = false) ∧ (let s := startingAt 9 1 { bootHost := true }; s.bootStep s.start.step = true) ∧
    (let s : State := { up with fatal := true, start := { up.start with autoResetAt := some 5 } }; s.start.autoResetAt = some 5 ∧ s.fatal = true) ∧
    up.start.autoResetAt = none :=
  ⟨by decide, by decide, by decide, by decide, by decide, by decide, by decide, by decide, by decide, ⟨by decide, by decide⟩, by decide, by decide, by decide,
   by decide, by decide⟩

set_option maxRecDepth 20000 in
/-- A start without failures stands at ST08 with the RTP_FW request sent (18 R687, R695). -/
theorem test_start_reaches_boot : (match exec (.powerOn {}) State.reset with
    | .next t => decide (t.start.step = 8 ∧ t.start.boot.kind = 1 ∧ t.start.boot.waiting = true ∧ t.ledger.resetCount = 1) | _ => false) = true := by decide

/-- A BOOT_DATA value: sequence 1, a status and bytes. -/
def bootValue (status : Byte) (bs : List Byte) : List Byte := leBytes 4 1 ++ [status, 0#8, 0#8, 0#8] ++ leBytes 4 bs.length ++ bs

set_option maxRecDepth 20000 in
theorem witness_BootAnswersFeedTheImageSteps :
    (let s := startingAt 9 1 { bootHost := true }; s.start.env.bootHost = true ∧ s.start.env.farEnd = true ∧ s.start.env.linkUp = true) ∧
    (let s := startingAt 9 1 {}; s.start.powerGood = true ∧ s.start.phase = .starting ∧ s.start.env.bootHost = false ∧ s.start.boot.waiting = true ∧ s.start.boot.reqSeq = 1 ∧
      s.start.hung = false ∧ s.start.boot.tried = 0) ∧
    (let b := bootValue 0 [1#8, 2#8]; ¬(b.length < 12 ∨ field b 5 3 ≠ 0 ∨ field b 8 4 + 12 ≠ b.length)) ∧ up.serving ∧
    ([1#8, 2#8] : List Byte).length < 128 ∧ (startingAt 9 1 {}).start.boot.length = 65536 ∧
    (startingAt 9 1 {}).sec.fuses.imageCheck 1 [] ≠ 0 ∧ (startingAt 8 1 {}).start.step = 8 ∧
    (let s := startingAt 11 2 {}; s.power.sagStage ≠ 7 ∧ s.bootStep 11 = true) ∧ (startingAt 9 1 {}).bootStep 9 = true ∧
    (let s : State := { startingAt 20 0 {} with start := { (startingAt 20 0 {}).start with hung := true } }; s.start.hung = true ∧ s.bootStep 20 = false) ∧
    up.start.phase = .opened ∧ (up.port 2).finalRecorded = false ∧ ((portDie { st := .active }).port 2).st = .active ∧ (up.port 2).st ≠ .active :=
  ⟨by decide, by decide, by decide, ⟨by decide, by decide⟩, by decide, by decide, by decide, by decide, by decide, by decide, by decide, by decide, by decide, by decide,
   by decide⟩

/-- A die whose field book records, with an open span of code 0x200 of one window and one event. -/
def booking : State :=
  { up with
    fb := { on := true, spans := [(0x200, { opened := true, count := 1, binned := true })] }
    events := [{ isl := 3, code := 0x200, time := 7, value := 5 }] }

set_option maxRecDepth 10000 in
theorem witness_TheFieldBookCountsAndRecords :
    booking.events ≠ [] ∧ booking.awake = true ∧ booking.fbRuns = true ∧ booking.fb.spill.enable = false ∧ up.fbRuns = false ∧ (booking.fb.cfg.rd 0x200).enable = true ∧
    (∀ e ∈ booking.events, e.time < booking.fb.winStart + 1000000 * booking.fb.winMs ∧ e.code ≠ 1) ∧ ({ enable := false } : CodeCfg).enable = false ∧
    (let x := booking.fb.spans.rd 0x200; x.opened = true ∧ x.bins.length = 16 ∧ x.binned = true ∧ x.count ≠ 0 ∧ x.windows < 65535) ∧ booking.fb.lastOf 0x200 = none ∧
    (booking.fb.cfg.rd 0x200).rate = 6 ∧ booking.fb.used.rd 0x200 < 6 ∧ (let f : FieldBook := { used := [(0x200, 6)] }; 6 ≤ f.used.rd 0x200) ∧
    (let s := booking.closeSpan false 0x200;
      let u : State := { s with fb := { s.fb with spans := [(0x200, { opened := true, count := 1, binned := true, start := 1000000000 })] } };
      ∃ r, u.fb.lastOf 0x200 = some (1, r) ∧ 1 % 4096 ∉ u.fb.bad ∧ u.fb.repeats 0x200 (u.fb.spans.rd 0x200) r = true) ∧
    up.serving ∧ (1000 : U16).toNat ≤ 60000 ∧ bitAt up.start.retiredFlags 3 = false ∧ up.fb.head = up.fb.tail ∧
    (let s : State := { up with start := { up.start with retiredFlags := 8 } }; bitAt s.start.retiredFlags 3 = true) ∧
    ¬(∃ c : Fin 4, up.mcOwner c ≠ none ∧ (0 : U64).toNat < (c + 1) * mcWindow ∧ c * mcWindow < (0 : U64).toNat + 64 * 2 ^ (12 : Byte).toNat) ∧
    (∃ s : State, ∃ c : Fin 4, s.mcOwner c ≠ none) :=
  ⟨by decide, by decide, by decide, by decide, by decide, by decide, by decide, by decide, by decide, by decide, by decide, by decide, by decide, ⟨_, by rfl, by decide, by decide⟩,
   ⟨by decide, by decide⟩, by decide, by decide, by decide, by decide, by decide, ⟨{ up with parcels := [(1, { active := true, controllers := 15 })] }, 0, by decide⟩⟩

/-- An open die with engine 3 and slice 3 powered, and segments as given. -/
def testing (segs : List Segment) : State :=
  { upEng { powered := true } with slc := [(3, { powered := true })], svc := { up.svc with segs := segs } }

set_option maxRecDepth 10000 in
theorem witness_SelfTestAndServiceTakeUnitsOutAndBack :
    (testing []).serving ∧ (testing []).isOpen = true ∧ (testing []).awake = true ∧ (testing []).segmentOk 3 = true ∧ (testing []).segmentOk 19 = true ∧
    (testing []).segmentOk 4 = false ∧ (testing [{ unit := 3 }]).segmentOk 3 = false ∧ (testing []).unitRetired 3 = false ∧
    (let s : State := upEng { retired := true }; s.unitRetired 3 = true) ∧ (testing []).kettle.st = .stopped ∧
    (let s : State := { up with kettle := { up.kettle with st := .listening } }; s.kettle.st ≠ .stopped ∧ s.kettle.st ≠ .withdrawn) ∧
    (testing []).svc.requested = none ∧ (testing []).svc.cfg.enable = true ∧ bitAt (testing []).start.retiredFlags 4 = false ∧ ((testing []).svc.units.rd 3).started = false ∧
    (let s : State := { testing [] with svc := { up.svc with units := [(3, { periodEnd := 5 })] } }; s.now < (s.svc.units.rd 3).periodEnd) ∧
    ((testing []).svc.units.rd 4).periodEnd ≤ (testing []).now ∧ (∀ i ∈ subGranules 0, (((testing []).slc.rd 3).gran.rd i).st = .empty) ∧
    (let s : State := { testing [] with slc := [(3, { powered := true, gran := [(5, { st := .present })] })] }; 5 ∈ subGranules 0 ∧ ((s.slc.rd 3).gran.rd 5).st ≠ .empty) ∧
    (testing [{ unit := 3 }]).svc.segs.find? (fun g => g.unit == 3) = some { unit := 3 } ∧ ((testing []).slc.rd 3).mapped.length < 2 ∧
    (testing []).straps.packageP = false ∧ (testing []).svc.state = 0 ∧ ¬(∃ j ∈ (testing []).jobs, j.2.st ≠ .ended) ∧
    (let s : State := { testing [] with svc := { up.svc with state := 1 } }; s.svc.state = 1) ∧
    (let s : State := { up with start := { up.start with env := { packageP := true } } }; s.straps.packageP = true) :=
  ⟨⟨by decide, by decide⟩, by decide, by decide, by decide, by decide, by decide, by decide, by decide, by decide, by decide, by decide, by decide, by decide, by decide,
   by decide, by decide, by decide, by decide, by decide, by decide, by decide, by decide, by decide, by decide, by decide, by decide⟩

/-- A request frame for the own die 0. -/
def request (ftype flags session index sub param : Nat) (data : List Byte) : List Byte :=
  (frameBytes ftype flags session index sub 0 param data 0).take (16 + data.length)

set_option maxRecDepth 40000 in
theorem witness_FirstFramesAreCheckedInOrderAndServed :
    (let raw := request 0x10 0 0 0x2003 0 0 []; let f := frameOf raw;
      f.known = true ∧ f.isResponse = false ∧ f.wellFormed raw.length false = true ∧ f.target = up.dieId ∧ f.session = 0 ∧ up.mute = false ∧
      up.gate true f.index (List.replicate 4 0xFF) = .go ∧ up.placeFree .i3c = true ∧ (up.dict.windows.rd 0).busy = false) ∧
    (∃ r, up.placed.entryFor .i3c true 0x2003 0 = .inr (r, .board) ∧ up.placed.readEntry .board 0x2003 0 = (.ok, leBytes 4 38000)) ∧
    up.placed.entryFor .i3c true 0x0001 0 = .inl .unsupported ∧
    (let raw := request 0x11 1 0 0x2003 0 0 (leBytes 4 6000); let f := frameOf raw; f.wellFormed raw.length false = true ∧ f.data = leBytes 4 6000) ∧
    (∃ r, up.placed.entryFor (.window 0) false 0x2003 0 = .inr (r, .hostk) ∧ r.min ≤ 4 ∧ 4 ≤ r.size) ∧
    (let raw := request 0x12 0 0 0x5040 0 32 []; (frameOf raw).wellFormed raw.length false = true) ∧
    (let raw := request 0x16 0 0 0x2003 0 0 []; (frameOf raw).wellFormed raw.length false = true) ∧
    (let raw := request 0x33 0 0 0 0 0 []; (frameOf raw).known = false) ∧ (frameOf (request 0x90 0 0 0 0 0 [])).isResponse = true ∧
    (let s : State := { up with dict := { up.dict with windows := [(0, { busy := true })] } }; (s.dict.windows.rd 0).busy = true) ∧
    (let s : State := { up with dict := { up.dict with sessions := List.replicate 64 {} } }; s.placeFree .i3c = false) ∧
    (∃ r, (startingAt 25 0 {}).gate false 0x3310 [] = .stop r) ∧ (frameOf (frameBytes 0x10 0 0 0x2003 0 0 0 [] 5)).target ≠ up.dieId :=
  ⟨by decide, ⟨_, by rfl, by decide⟩, by rfl, by decide, ⟨_, by rfl, by decide, by decide⟩, by decide, by decide, by decide, by decide, by decide, by decide, ⟨_, by rfl⟩,
   by decide⟩

/-- The budget frame of 21's worked example, byte for byte. -/
theorem test_budget_frame : request 0x11 1 0 0x2003 0 0 (leBytes 4 6000) =
    [0x11, 0x01, 0, 0, 0x03, 0x20, 0, 0, 0, 0, 0, 0, 0x04, 0, 0, 0, 0x70, 0x17, 0, 0] := by decide

set_option maxRecDepth 40000 in
/-- The worked example's first step: PKG_BUDGET is 6,000 mW after the frame (21 Table 21.8). -/
theorem test_budget_written : (match exec (.write (.window 0) (request 0x11 1 0 0x2003 0 0 (leBytes 4 6000))) up with
    | .next t => t.power.budget | _ => 0) = 6000 := by decide

/-- An open die with one session. -/
def inSession (x : Session) : State := { up with dict := { up.dict with sessions := [x] } }

set_option maxRecDepth 40000 in
theorem witness_SessionsKeepTheirOrderAndEnd :
    (let raw := request 0x14 0 7 0x5041 0 0 []; let f := frameOf raw; f.known = true ∧ f.wellFormed raw.length false = true ∧ f.target = up.dieId ∧ f.session ≠ 0) ∧
    (let raw := request 0x13 0 7 0x5040 0 0 (List.replicate 112 1#8); let f := frameOf raw; f.wellFormed raw.length false = true ∧ f.last = false ∧ f.len = 112) ∧
    (let raw := request 0x13 1 7 0x5040 0 0 (List.replicate 32 1#8); let f := frameOf raw; f.wellFormed raw.length false = true ∧ f.last = true ∧ f.data.length = 32) ∧
    (let raw := request 0x15 0 7 0x5040 0 0 []; (frameOf raw).wellFormed raw.length false = true) ∧
    (let s := inSession { id := 7, path := .i3c, index := 0x5040, write := true, total := 32 };
      s.dict.sessions.find? (fun (x : Session) => x.id == 7) = some { id := 7, path := .i3c, index := 0x5040, write := true, total := 32 } ∧
      s.counted.principalOf .i3c ≠ none ∧ s.gate false 0x5040 (List.replicate 32 1#8) = .go ∧
      ∃ r, s.counted.entryFor .i3c false 0x5040 0 = .inr (r, .board) ∧ r.min ≤ 32 ∧ 32 ≤ r.size) ∧
    up.counted.principalOf (.window 1) = none ∧ (∀ x ∈ up.dict.sessions, x.id ≠ 7) ∧
    (let s : State := { up with dict := { up.dict with relay := some {} } }; s.dict.relay = some {}) ∧ up.dict.relay = none :=
  ⟨by decide, by decide, by decide, by decide, ⟨by decide, by decide, by decide, _, by rfl, by decide, by decide⟩, by decide, by decide, by decide, by decide⟩

set_option maxRecDepth 40000 in
theorem witness_EntriesResponsesAndTheSideband :
    up.gate false 0x2003 (leBytes 4 6000) = .go ∧ State.reset.gate false 0x2003 [] = .silent ∧ (∃ r, (startingAt 8 1 {}).gate false 0x2003 [] = .stop r) ∧
    dictEntry 0x0001 0 = none ∧ (∃ r, dictEntry 0x2003 0 = some r ∧ writable (up.rightOf .hostk r 0x2003 0) = true ∧ writable (up.rightOf (.parcel 1) r 0x2003 0) = false ∧
      r.min ≤ 4 ∧ 4 ≤ r.size ∧ 5 > r.size) ∧
    up.start.env.ledgerFail = false ∧ (500 ≤ leNat (leBytes 4 6000) ∧ leNat (leBytes 4 6000) ≤ 60000) ∧
    (let s : State := sagging 0; ∀ k ∈ [1, 2, 3, 4, 5], ((s.power.thresh.wr 2 { thresh := 45, dwell := 1000 }).rd k).thresh < ((s.power.thresh.wr 2 { thresh := 45, dwell := 1000 }).rd (k + 1)).thresh) ∧
    (let s : State := sagging 0; ¬ ((s.power.thresh.wr 2 { thresh := 50, dwell := 1000 }).rd 2).thresh < ((s.power.thresh.wr 2 { thresh := 50, dwell := 1000 }).rd 3).thresh) ∧
    (let s : State := { up with start := { up.start with env := { ledgerFail := true } } }; s.start.env.ledgerFail = true) ∧
    (let b := padTo 128 (frameBytes 0x92 0 7 0x4105 2 0 0 [] 0); let f := frameOf b; up.mute = false ∧ f.isResponse = true ∧ f.index = 0x4105 ∧ f.sub = 2 ∧ answers f 0x12 = true ∧
      f.session = 7 ∧ statusOf f.status = .ok ∧ (∀ m ∈ up.fab.arrived, m.payload ≠ b)) ∧
    (let f := frameOf (padTo 128 (frameBytes 0x90 1 0 0x4103 0 0 0 [1#8] 0)); f.isResponse = true ∧ answers f 0x10 = true ∧ f.index = 0x4103) ∧
    (let f := frameOf (padTo 128 (frameBytes 0x92 0 0 0x4105 2 1 0 [] 0)); statusOf f.status = .busy) ∧
    (let f := frameOf (padTo 128 (frameBytes 0x92 0 0 0x4105 2 3 0 [] 0)); statusOf f.status = .denied) ∧ State.reset.mute = true ∧
    (let r : Relay := { frame := request 0x10 0 0 0x2003 0 0 [], target := 5 }; (frameOf r.frame).session = 0 ∧ (frameOf r.frame).ftype = 0x10) :=
  ⟨by decide, by decide, ⟨_, by rfl⟩, by rfl, ⟨_, by rfl, by decide, by decide, by decide, by decide, by decide⟩, by decide, by decide, by decide, by decide, by decide, by decide,
   by decide, by decide, by decide, by decide, by decide⟩

theorem witness_StepsTakeTheQueueFirstInFirstOut : ∃ t, step { State.reset with pending := [.beaconTimer, .beaconTimer] } = .next t := ⟨_, rfl⟩

theorem witness_StepsKeepMemoryCanonical : State.reset.memWf ∧ ∃ t, step State.reset = .next t := ⟨⟨by decide, by decide, fun n => by rfl⟩, _, rfl⟩

theorem witness_StepsKeepTheCapInItsRange : 200 ≤ State.reset.power.capMhz ∧ State.reset.power.capMhz ≤ 1800 ∧ ∃ t, step State.reset = .next t :=
  ⟨by decide, by decide, _, rfl⟩

end Sys2Proof.Tests
end

section
/-! Reading an engine, a parcel or a queue after an update of one of them, and the placement of tasks: RUN and FIRST_FREE_PLACEMENT
(01 R29, R30; 10 R383-R385). -/
namespace Sys2Proof.Machine
open Sys2Proof

/-! ## Reads after updates -/

theorem State.engine_updEng (s : State) (n m : Nat) (f : Engine → Engine) :
    (s.updEng n f).engine m = if m = n then f (s.engine n) else s.engine m := Tab.rd_upd ..
theorem State.parcel_updPar (s : State) (p o : Nat) (f : Parcel → Parcel) :
    (s.updPar p f).parcel o = if o = p then f (s.parcel p) else s.parcel o := Tab.rd_upd ..
theorem State.queue_updQ (s : State) (q m : Nat) (f : Queue → Queue) :
    (s.updQ q f).queue m = if m = q then f (s.queue q) else s.queue m := Tab.rd_upd ..
theorem State.queue_updCmd_other (s : State) {q m : Nat} (h : m ≠ q) (serial : Nat) (f : Cmd → Cmd) :
    (s.updCmd q serial f).queue m = s.queue m := by rw [State.updCmd, State.queue_updQ, if_neg h]
theorem State.queue_setItem_other (s : State) {q m : Nat} (h : m ≠ q) (serial i : Nat) (st : ItemSt) :
    (s.setItem q serial i st).queue m = s.queue m := s.queue_updCmd_other h serial _

@[simp] theorem State.parcel_updEng (s : State) (n p : Nat) (f : Engine → Engine) : (s.updEng n f).parcel p = s.parcel p := rfl
@[simp] theorem State.queue_updEng (s : State) (n q : Nat) (f : Engine → Engine) : (s.updEng n f).queue q = s.queue q := rfl
@[simp] theorem State.engine_updPar (s : State) (p n : Nat) (f : Parcel → Parcel) : (s.updPar p f).engine n = s.engine n := rfl
@[simp] theorem State.queue_updPar (s : State) (p q : Nat) (f : Parcel → Parcel) : (s.updPar p f).queue q = s.queue q := rfl
@[simp] theorem State.engine_setItem (s : State) (q serial i n : Nat) (st : ItemSt) : (s.setItem q serial i st).engine n = s.engine n := rfl
@[simp] theorem State.parcel_setItem (s : State) (q serial i p : Nat) (st : ItemSt) : (s.setItem q serial i st).parcel p = s.parcel p := rfl

/-! ## A task given to an engine -/

/-- A task enters an engine's inbox and its item runs there (10 R385). -/
def State.giveTask (s : State) (n q serial i : Nat) (t : Task) : State :=
  (s.updEng n (fun e => { e with inbox := e.inbox ++ [t] })).setItem q serial i (.running n)

theorem State.engine_giveTask (s : State) (n q serial i m : Nat) (t : Task) :
    (s.giveTask n q serial i t).engine m = { s.engine m with inbox := (s.engine m).inbox ++ if m = n then [t] else [] } := by
  rw [State.giveTask, State.engine_setItem, State.engine_updEng]
  split
  · next h => rw [h]
  · rw [List.append_nil]

@[simp] theorem State.parcel_giveTask (s : State) (n q serial i p : Nat) (t : Task) :
    (s.giveTask n q serial i t).parcel p = s.parcel p := rfl

theorem State.queue_giveTask_other (s : State) {q m : Nat} (h : m ≠ q) (n serial i : Nat) (t : Task) :
    (s.giveTask n q serial i t).queue m = s.queue m := State.queue_setItem_other _ h ..

/-! ## Dispatch -/

/-- A task put behind its parcel's waiting first-free tasks (10 R385). -/
def State.waitTask (s : State) (p q serial i : Nat) : State :=
  (s.updPar p (fun y => { y with firstFree := y.firstFree ++ [(q, serial, i)] })).setItem q serial i .waiting

/-- One task of a RUN goes to its engine or waits for a free one (10 R384, R385). -/
def State.dispatchTask (s : State) (q p slot : Nat) (c : Cmd) (x : TaskEntry × Nat) : State :=
  match s.place p x.1 with
  | .engine n => s.giveTask n q c.serial x.2 (taskOf q p slot c x.2 x.1)
  | .free => s.waitTask p q c.serial x.2
  | .bad => s
  | .retired => s

theorem State.dispatchTasks_eq_foldl (s : State) (q p slot : Nat) (c : Cmd) :
    s.dispatchTasks q p slot c = (dTasks c.bytes).zipIdx.foldl (fun s x => s.dispatchTask q p slot c x) s := by
  unfold State.dispatchTasks
  congr 1
  funext s x
  unfold State.dispatchTask
  cases s.place p x.1 <;> rfl

/-- The tasks of a RUN that state `u` places on engine `n`, in item order. -/
def State.tasksFor (u : State) (q p slot : Nat) (c : Cmd) (xs : List (TaskEntry × Nat)) (n : Nat) : List Task :=
  (xs.filter (fun x => u.place p x.1 == .engine n)).map (fun x => taskOf q p slot c x.2 x.1)

/-- The first-free tasks of a RUN, in item order, as their parcel lists them. -/
def State.waitersOf (u : State) (q p : Nat) (c : Cmd) (xs : List (TaskEntry × Nat)) : List (Nat × Nat × Nat) :=
  (xs.filter (fun x => u.place p x.1 == .free)).map (fun x => (q, c.serial, x.2))

/-- State `t` is `u` with the tasks `xs` dispatched: inboxes and the parcel's first-free list have grown by them, and only the command's own
queue differs besides. -/
structure Dispatched (q p slot : Nat) (c : Cmd) (xs : List (TaskEntry × Nat)) (u t : State) : Prop where
  engine : ∀ n, t.engine n = { u.engine n with inbox := (u.engine n).inbox ++ u.tasksFor q p slot c xs n }
  parcel : t.parcel p = { u.parcel p with firstFree := (u.parcel p).firstFree ++ u.waitersOf q p c xs }
  otherParcel : ∀ o, o ≠ p → t.parcel o = u.parcel o
  otherQueue : ∀ m, m ≠ q → t.queue m = u.queue m
  frame : t = { u with eng := t.eng, parcels := t.parcels, queues := t.queues }

/-- Placement reads a parcel's shape and which engines are retired, nothing else. -/
theorem State.place_congr {s t : State} {p : Nat} (hp : (t.parcel p).engineOf = (s.parcel p).engineOf)
    (he : ∀ n, (t.engine n).retired = (s.engine n).retired) (x : TaskEntry) : t.place p x = s.place p x := by
  simp only [State.place, hp, he]

variable {q p slot : Nat} {c : Cmd} {xs ys : List (TaskEntry × Nat)} {u t v : State}

theorem Dispatched.place_eq (h : Dispatched q p slot c xs u t) (x : TaskEntry) : t.place p x = u.place p x :=
  State.place_congr (by rw [h.parcel]; rfl) (fun n => by rw [h.engine]) x

/-- With no task there is nothing to dispatch. -/
theorem Dispatched.nil (q p slot : Nat) (c : Cmd) (u : State) : Dispatched q p slot c [] u u where
  engine n := by simp [State.tasksFor]
  parcel := by simp [State.waitersOf]
  otherParcel _ _ := rfl
  otherQueue _ _ := rfl
  frame := rfl

/-- Dispatches follow one another: the earlier one leaves the placement of the later tasks as it was. -/
theorem Dispatched.append (h : Dispatched q p slot c xs u t) (h' : Dispatched q p slot c ys t v) :
    Dispatched q p slot c (xs ++ ys) u v where
  engine n := by
    rw [h'.engine, h.engine]
    simp [State.tasksFor, h.place_eq]
  parcel := by
    rw [h'.parcel, h.parcel]
    simp [State.waitersOf, h.place_eq]
  otherParcel o ho := (h'.otherParcel o ho).trans (h.otherParcel o ho)
  otherQueue m hm := (h'.otherQueue m hm).trans (h.otherQueue m hm)
  frame := h'.frame.trans (by rw [h.frame])

theorem State.dispatchTask_dispatched (q p slot : Nat) (c : Cmd) (u : State) (x : TaskEntry × Nat) :
    Dispatched q p slot c [x] u (u.dispatchTask q p slot c x) := by
  unfold State.dispatchTask
  cases hx : u.place p x.1 with
  | bad | retired => exact { Dispatched.nil q p slot c u with
      engine := fun n => by simp [State.tasksFor, hx]
      parcel := by simp [State.waitersOf, hx] }
  | engine k => exact {
      engine := fun n => by
        rw [State.engine_giveTask]
        by_cases hn : n = k
        · simp [State.tasksFor, hx, hn]
        · simp [State.tasksFor, hx, hn, Ne.symm hn]
      parcel := by simp [State.waitersOf, hx]
      otherParcel := fun _ _ => rfl
      otherQueue := fun _ hm => State.queue_giveTask_other _ hm ..
      frame := rfl }
  | free => exact {
      engine := fun n => by simp [State.waitTask, State.tasksFor, hx]
      parcel := by simp [State.waitTask, State.parcel_updPar, State.waitersOf, hx]
      otherParcel := fun o ho => by simp [State.waitTask, State.parcel_updPar, ho]
      otherQueue := fun _ hm => State.queue_setItem_other _ hm ..
      frame := rfl }

theorem State.foldl_dispatchTask_dispatched (q p slot : Nat) (c : Cmd) (xs : List (TaskEntry × Nat)) (u : State) :
    Dispatched q p slot c xs u (xs.foldl (fun s x => s.dispatchTask q p slot c x) u) := by
  induction xs generalizing u with
  | nil => exact .nil q p slot c u
  | cons x xs ih => exact (u.dispatchTask_dispatched q p slot c x).append (ih _)

theorem State.dispatchTasks_dispatched (u : State) (q p slot : Nat) (c : Cmd) :
    Dispatched q p slot c (dTasks c.bytes).zipIdx u (u.dispatchTasks q p slot c) := by
  rw [State.dispatchTasks_eq_foldl]
  exact State.foldl_dispatchTask_dispatched ..

end Sys2Proof.Machine
end

section
/-! O16: what NOP and RUN do as they start, and what FIRST_FREE_PLACEMENT does (10 R383-R385, Table 10.5). -/
namespace Sys2Proof.Machine
open Sys2Proof

/-! ## NOP and RUN -/

section
variable {s u : State} {q : Fin 1024} {p slot : Nat} {c : Cmd}

theorem exec_nopCommand_of_starts (h : s.starts q 0 p slot c u) :
    exec (.nopCommand q) s = .next (u.setItem q c.serial 0 (.done .ok .none)) :=
  congrArg Host.Outcome.next (State.startHead_starts h _)

theorem exec_run (q : Fin 1024) (s : State) : exec (.run q) s = execRun q s := rfl

theorem exec_run_of_bad (h : s.starts q 1 p slot c u) {i : Nat} (hi : ((dTasks c.bytes).map (u.place p)).findIdx? (· == .bad) = some i) :
    exec (.run q) s = .next (u.updCmd q c.serial (fun c => { c with refusal := some (.unsupported, .none), detail := i })) := by
  rw [exec_run, execRun, State.startHead_starts h]
  simp only [hi]

theorem exec_run_of_retired (h : s.starts q 1 p slot c u) {i : Nat}
    (hbad : ((dTasks c.bytes).map (u.place p)).findIdx? (· == .bad) = none)
    (hi : ((dTasks c.bytes).map (u.place p)).findIdx? (· == .retired) = some i) :
    exec (.run q) s = .next (u.updCmd q c.serial (fun c => { c with refusal := some (.retired, .none), detail := i })) := by
  rw [exec_run, execRun, State.startHead_starts h]
  simp only [hbad, hi]

theorem exec_run_of_placed (h : s.starts q 1 p slot c u) (hx : ∀ x ∈ dTasks c.bytes, u.place p x ≠ .bad ∧ u.place p x ≠ .retired) :
    exec (.run q) s = .next (u.dispatchTasks q p slot c) := by
  have hbad : ((dTasks c.bytes).map (u.place p)).findIdx? (· == .bad) = none := by
    simpa using fun x hm => (hx x hm).1
  have hret : ((dTasks c.bytes).map (u.place p)).findIdx? (· == .retired) = none := by
    simpa using fun x hm => (hx x hm).2
  rw [exec_run, execRun, State.startHead_starts h]
  simp only [hbad, hret]

end

/-! ## FIRST_FREE_PLACEMENT -/

section
variable {s : State} {p : Fin 8}

/-- The engine FIRST_FREE_PLACEMENT chooses among free ones: the lowest that is powered, else the lowest (10 R385). -/
def State.pickFree (s : State) (free : List Nat) : Option Nat :=
  match free.find? (fun n => (s.engine n).powered) with
  | some n => some n
  | none => free.head?

theorem State.pickFree_eq_some {free : List Nat} {n : Nat}
    (h : free.find? (fun n => (s.engine n).powered) = some n ∨ (free.find? (fun n => (s.engine n).powered) = none ∧ free.head? = some n)) :
    s.pickFree free = some n := by
  unfold State.pickFree
  obtain h | ⟨h, hhead⟩ := h
  · simp only [h]
  · simp only [h, hhead]

theorem exec_firstFreePlacement (p : Fin 8) (s : State) : exec (.firstFreePlacement p) s = execFirstFreePlacement p s := rfl

theorem exec_firstFreePlacement_nil (h : (s.parcel p).firstFree = []) : exec (.firstFreePlacement p) s = .next s := by
  rw [exec_firstFreePlacement, execFirstFreePlacement, h]

/-- The oldest waiting task, whose command and job are there, goes to the chosen engine, or nothing changes. -/
theorem exec_firstFreePlacement_cons {q serial i p' slot : Nat} {rest : List (Nat × Nat × Nat)} {c : Cmd}
    (hff : (s.parcel p).firstFree = (q, serial, i) :: rest) (hc : (s.queue q).consumed.find? (fun c => c.serial == serial) = some c)
    (hj : s.jobOf q = some (p', slot)) :
    exec (.firstFreePlacement p) s = .next ((s.pickFree ((maskBits 16 (s.parcel p).engines).filter s.freeEngine)).elim s
      (fun n => (s.updPar p (fun y => { y with firstFree := rest })).giveTask n q serial i
        (taskOf q p slot c i ((dTasks c.bytes).getD i {})))) := by
  rw [exec_firstFreePlacement, execFirstFreePlacement, hff]
  simp only [hc, hj]
  unfold State.pickFree
  generalize (maskBits 16 (s.parcel p).engines).filter s.freeEngine = free
  cases free.find? (fun n => (s.engine n).powered) with
  | some n => rfl
  | none => cases free.head? <;> rfl

end

end Sys2Proof.Machine

open Sys2Proof Sys2Proof.Machine

/-- Settles O16: RUN by the dispatch of its tasks one after another, FIRST_FREE_PLACEMENT by the engine it chooses. -/
theorem runsPlaceAndDispatchTheirTasks : Obligations.RunsPlaceAndDispatchTheirTasks := by
  unfold Obligations.RunsPlaceAndDispatchTheirTasks
  refine ⟨fun s u q p slot c h => exec_nopCommand_of_starts h, fun s u q p slot c h =>
    ⟨fun i => exec_run_of_bad h, fun i => exec_run_of_retired h, fun hx => ?_⟩, fun s p => ⟨exec_firstFreePlacement_nil, ?_⟩⟩
  · have hd := u.dispatchTasks_dispatched q p slot c
    exact ⟨_, exec_run_of_placed h hx, fun n => by rw [hd.engine]; rfl, fun n => by rw [hd.engine], by rw [hd.parcel]; rfl,
      hd.otherParcel, hd.otherQueue, hd.frame⟩
  · intro q serial i p' slot rest c hff hc hj free
    have hexec := exec_firstFreePlacement_cons hff hc hj
    refine ⟨fun hfree => ?_, fun n hn => ?_⟩
    · rw [hexec, show (maskBits 16 (s.parcel p).engines).filter s.freeEngine = [] from hfree]
      rfl
    · rw [hexec, State.pickFree_eq_some hn]
      refine ⟨_, rfl, ?_, ?_, fun m hm => ?_, fun m hm => State.queue_giveTask_other _ hm .., rfl⟩
      · simp [State.parcel_updPar]
      · simp [State.engine_giveTask]
      · simp [State.engine_giveTask, hm]

end

section
/-! What striking an owner leaves in the semaphores, and that a message's way out touches the link alone (09 R348, R349; 14 R532). -/
namespace Sys2Proof
open Sys2Proof.Machine

/-! ## Tables changed entry by entry -/

section
variable {α : Type} [Inhabited α] [DecidableEq α]

/-- A pass over some numbers of a table changes just those, where doing it twice does no more. -/
theorem Tab.rd_foldl_wr {f : Nat → α → α} (hf : ∀ k v, f k (f k v) = f k v) (l : List Nat) (t : Tab α) (j : Nat) :
    Tab.rd (l.foldl (fun t i => Tab.wr t i (f i (Tab.rd t i))) t) j = if j ∈ l then f j (Tab.rd t j) else Tab.rd t j := by
  induction l generalizing t with
  | nil => rfl
  | cons i l ih =>
    rw [List.foldl_cons, ih]
    by_cases hj : j = i
    · simp [hj, hf]
    · simp [hj, Tab.rd_wr_other]

/-- Changing the listed entries changes every entry, where the default stays and doing it twice does no more. -/
theorem Tab.rd_updListed {f : Nat → α → α} (hf : ∀ k v, f k (f k v) = f k v) (hd : ∀ k, f k default = default) (t : Tab α) (j : Nat) :
    Tab.rd (Tab.updListed t f) j = f j (Tab.rd t j) := by
  rw [Tab.updListed, Tab.rd_foldl_wr hf]
  split
  · rfl
  · next hj =>
    have hun : Tab.rd t j = default := Tab.rd_eq_default fun p hp hpj => hj (hpj ▸ List.mem_map_of_mem hp)
    rw [hun, hd]

end

namespace Machine

/-! ## Striking an owner -/

/-- A semaphore once an owner has been struck: ABANDONED where it was its holder, and its waits gone (09 R348, R349). -/
def Sem.strike (struck : SemOwner → Bool) (m : Sem) : Sem :=
  if m.st = .held ∧ m.owner.any struck then
    { m with st := .abandoned, waiters := m.waiters.filter (fun w => !struck w.owner), abandons := m.abandons + 1 }
  else { m with waiters := m.waiters.filter (fun w => !struck w.owner) }

variable (struck : SemOwner → Bool) (m : Sem)

theorem Sem.strike_strike : (m.strike struck).strike struck = m.strike struck := by
  unfold Sem.strike
  split
  · simp
  · simp

@[simp] theorem Sem.strike_default : (default : Sem).strike struck = default := rfl

theorem Sem.waiters_strike : (m.strike struck).waiters = m.waiters.filter (fun w => !struck w.owner) := by
  unfold Sem.strike
  split <;> rfl

theorem Sem.owner_strike : (m.strike struck).owner = m.owner := by
  unfold Sem.strike
  split <;> rfl

/-- A semaphore still held after the strike was held before it, by an owner that is not struck. -/
theorem Sem.held_of_strike {struck : SemOwner → Bool} {m : Sem} (h : (m.strike struck).st = .held) :
    m.st = .held ∧ m.owner.any struck = false := by
  unfold Sem.strike at h
  split at h
  · cases h
  · next hn => exact ⟨h, by simpa [show m.st = .held from h] using hn⟩

theorem State.sems_strike (s : State) : (s.strike struck).sems = s.sems.updListed (fun _ => Sem.strike struck) := by
  unfold State.strike Tab.updListed
  refine (List.foldl_hom State.sems fun t n => ?_).symm
  dsimp only
  split
  · next o hst ho =>
    cases hs : struck o <;> simp [Sem.strike, hst, ho, hs]
  · next hno =>
    have hfalse : ¬((t.sems.rd n).st = .held ∧ (t.sems.rd n).owner.any struck = true) := fun ⟨hst, ha⟩ => by
      cases ho : (t.sems.rd n).owner with
      | none => simp [ho] at ha
      | some o => exact hno o hst ho
    simp only [Sem.strike, if_neg hfalse]

theorem State.sem_strike (s : State) (k : Nat) : (s.strike struck).sems.rd k = (s.sems.rd k).strike struck := by
  rw [State.sems_strike, Tab.rd_updListed (fun _ => Sem.strike_strike struck) (fun _ => Sem.strike_default struck)]

/-! ## Messages on their way out -/

/-- State `t` is `s` but for its events and what the link sends and holds. -/
def LinkOnly (s t : State) : Prop := t = { s with events := t.events, gaps := t.gaps, sent := t.sent, fab := t.fab }

section
variable {s t u : State}

theorem LinkOnly.refl (s : State) : LinkOnly s s := rfl
theorem LinkOnly.trans (h : LinkOnly s t) (h' : LinkOnly t u) : LinkOnly s u := Eq.trans h' (by rw [h])

theorem LinkOnly.ite {c : Prop} [Decidable c] (h : LinkOnly s t) (h' : LinkOnly s u) : LinkOnly s (if c then t else u) := by
  split
  · exact h
  · exact h'

theorem LinkOnly.foldl {γ : Type} {g : State → γ → State} (h : ∀ s a, LinkOnly s (g s a)) (l : List γ) (s : State) :
    LinkOnly s (l.foldl g s) := by
  induction l generalizing s with
  | nil => exact .refl s
  | cons a l ih => exact (h s a).trans (ih _)

end

section
variable (s : State) (p : Nat)

theorem State.emit_linkOnly (isl code parcel value : Nat) : LinkOnly s (s.emit isl code parcel value) := by
  obtain ⟨e, g, h⟩ := s.emit_only isl code parcel value
  rw [h]
  rfl

theorem State.send_linkOnly (m : Sent) : LinkOnly s (s.send m) := rfl
theorem State.setFab_linkOnly (f : Fabric) : LinkOnly s { s with fab := f } := rfl
theorem State.updPort_linkOnly (f : Port → Port) : LinkOnly s (s.updPort p f) := rfl
theorem State.sendSeq_linkOnly (vc cls : Nat) (tagf trunc : Bool) (content : List Byte) :
    LinkOnly s (s.sendSeq p vc cls tagf trunc content) := rfl

theorem State.closeRecord_linkOnly : LinkOnly s (s.closeRecord p) := by
  unfold State.closeRecord
  dsimp only
  split
  · exact .refl s
  · exact s.sendSeq_linkOnly ..

theorem State.sendCtrl_linkOnly (ctype : Nat) (fields : List Byte) : LinkOnly s (s.sendCtrl p ctype fields) := rfl

theorem pumpGo_linkOnly (flush : Bool) (n : Nat) : LinkOnly s (pumpGo p flush n s) := by
  induction n generalizing s with
  | zero => exact .refl s
  | succ n ih =>
    unfold pumpGo
    split
    · exact .refl s
    · dsimp only
      have hsent := fun f vc cls trunc content =>
        (s.updPort_linkOnly p f).trans (State.sendSeq_linkOnly _ p vc cls false trunc content)
      exact LinkOnly.trans (.ite ((hsent ..).trans (State.closeRecord_linkOnly ..)) (hsent ..)) (ih _)

theorem State.putMsg_linkOnly (cls : Nat) (m : Msg) : LinkOnly s (s.putMsg p cls m) :=
  ((s.send_linkOnly _).trans (State.updPort_linkOnly ..)).trans (pumpGo_linkOnly ..)

theorem State.byRoute_linkOnly {s t : State} {cls : Nat} {m : Msg} (h : s.byRoute cls m = some t) : LinkOnly s t := by
  unfold State.byRoute at h
  dsimp only at h
  split at h
  · cases h
  · rw [← apply_ite some] at h
    cases h
    exact .ite (s.putMsg_linkOnly ..) (s.setFab_linkOnly _)

theorem State.forwardAll_linkOnly (from' : Option Nat) (m : Msg) : LinkOnly s (s.forwardAll from' m) := by
  exact LinkOnly.foldl (fun t q => .ite (.refl t) (t.putMsg_linkOnly ..)) _ _

theorem State.arrive_linkOnly (m : Msg) : LinkOnly s (s.arrive m) := rfl

theorem State.noRoute_linkOnly (m : Msg) : LinkOnly s (s.noRoute m).1 := by
  unfold State.noRoute
  dsimp only
  rw [apply_ite Prod.fst, ite_self]
  exact s.emit_linkOnly ..

/-- The router's own answer to a request goes to this die's units, by its route, or is counted as lost (14 R535). -/
def State.answerBack (r : Msg) : State :=
  if r.dest = s.dieId then s.arrive r
  else match s.byRoute 0 r with
    | some s => s
    | none => s.emit 71 0x405 0xFF r.dest

theorem State.answerBack_linkOnly (r : Msg) : LinkOnly s (s.answerBack r) := by
  unfold State.answerBack
  refine .ite (s.arrive_linkOnly r) ?_
  split
  · next h => exact State.byRoute_linkOnly h
  · exact s.emit_linkOnly ..

theorem State.route_linkOnly (from' : Option Nat) (cls : Nat) (m : Msg) : LinkOnly s (s.route from' cls m) := by
  unfold State.route
  split
  · exact s.setFab_linkOnly _
  · refine .ite (.ite ((s.setFab_linkOnly _).trans (State.answerBack_linkOnly ..)) (s.setFab_linkOnly _)) ?_
    refine .ite (.ite (.ite (.refl s) ?_) (.ite (s.arrive_linkOnly m) (s.emit_linkOnly ..))) (.ite (s.arrive_linkOnly m) ?_)
    · exact ((s.setFab_linkOnly _).trans (.ite (State.arrive_linkOnly ..) (.refl _))).trans (State.forwardAll_linkOnly ..)
    · have hn := s.noRoute_linkOnly m
      split
      · next h => exact State.byRoute_linkOnly h
      · split
        · next h =>
          rw [h] at hn
          exact hn
        · next h =>
          rw [h] at hn
          exact hn.trans (State.answerBack_linkOnly ..)

end

end Machine
end Sys2Proof
end

section
/-! What the grants to waiters keep: an engine's block and accumulators, the channels, and an owner's absence from every semaphore
(03 R69; 09 R349-R353). -/
namespace Sys2Proof.Machine
open Sys2Proof

/-- What an engine keeps while tasks end and go on: its block, its accumulators, its failed lanes, and its idleness. -/
structure Engine.Kept (e e' : Engine) : Prop where
  block : e'.block = e.block
  half0 : e'.half0 = e.half0
  half1 : e'.half1 = e.half1
  failedLanes : e'.failedLanes = e.failedLanes
  idle : e.task = none → e'.task = none

theorem Engine.Kept.refl (e : Engine) : e.Kept e := ⟨rfl, rfl, rfl, rfl, id⟩
theorem Engine.Kept.trans {e e' e'' : Engine} (h : e.Kept e') (h' : e'.Kept e'') : e.Kept e'' :=
  ⟨h'.block.trans h.block, h'.half0.trans h.half0, h'.half1.trans h.half1, h'.failedLanes.trans h.failedLanes, h'.idle ∘ h.idle⟩

/-- An owner neither holds nor waits for a semaphore. -/
def Sem.without (o : SemOwner) (m : Sem) : Prop := (m.st = .held → m.owner ≠ some o) ∧ ∀ w ∈ m.waiters, w.owner ≠ o

theorem Sem.without_strike {o : SemOwner} {m : Sem} (h : m.without o) (struck : SemOwner → Bool) : (m.strike struck).without o := by
  obtain ⟨hheld, hwait⟩ := h
  refine ⟨fun hst => Sem.owner_strike struck m ▸ hheld (Sem.held_of_strike hst).1, fun w hw => hwait w ?_⟩
  rw [Sem.waiters_strike] at hw
  exact List.mem_of_mem_filter hw

/-- Striking an owner takes it out of the semaphore. -/
theorem Sem.strike_without (o : SemOwner) (m : Sem) : (m.strike (· == o)).without o := by
  refine ⟨fun hst ho => ?_, fun w hw => ?_⟩
  · have hnot := (Sem.held_of_strike hst).2
    rw [Sem.owner_strike] at ho
    simp [ho] at hnot
  · rw [Sem.waiters_strike] at hw
    simpa using (List.mem_filter.mp hw).2

/-- State `t` follows `s` by tasks that end or go on and by grants to waiters. -/
structure Settles (s t : State) : Prop where
  chans : t.chans = s.chans
  engine : ∀ m, (s.engine m).Kept (t.engine m)
  without : ∀ o, (∀ k, (s.sems.rd k).without o) → ∀ k, (t.sems.rd k).without o

section
variable {s t u : State}

theorem Settles.trans (h : Settles s t) (h' : Settles t u) : Settles s u :=
  ⟨h'.chans.trans h.chans, fun m => (h.engine m).trans (h'.engine m), fun o ho => h'.without o (h.without o ho)⟩

theorem Settles.of_eq (hc : t.chans = s.chans) (he : t.eng = s.eng) (hs : t.sems = s.sems) : Settles s t where
  chans := hc
  engine m := by
    rw [State.engine, State.engine, he]
    exact .refl _
  without o ho := by rwa [hs]

theorem Settles.refl (s : State) : Settles s s := .of_eq rfl rfl rfl

theorem LinkOnly.settles (h : LinkOnly s t) : Settles s t := by
  rw [h]
  exact .of_eq rfl rfl rfl

end

section
variable (s : State) (n : Nat)

theorem State.updEng_settles {f : Engine → Engine} (hf : (s.engine n).Kept (f (s.engine n))) : Settles s (s.updEng n f) where
  chans := rfl
  engine m := by
    rw [State.engine_updEng]
    split
    · next h => exact h ▸ hf
    · exact .refl _
  without _ ho := ho

theorem State.updTask_settles (f : Task → Task) : Settles s (s.updEng n (fun e => { e with task := e.task.map f })) :=
  s.updEng_settles n ⟨rfl, rfl, rfl, rfl, fun h => by rw [h]; rfl⟩

theorem State.wrSem_settles {m : Sem} (h : ∀ o, (s.sems.rd n).without o → m.without o) :
    Settles s { s with sems := s.sems.wr n m } where
  chans := rfl
  engine _ := .refl _
  without o ho k := by
    dsimp only
    rw [Tab.rd_wr]
    split
    · exact h o (ho n)
    · exact ho k

theorem State.strike_settles (struck : SemOwner → Bool) : Settles s (s.strike struck) where
  chans := by simp
  engine m := by
    have heng : (s.strike struck).engine m = s.engine m := by simp [State.engine]
    exact heng ▸ .refl _
  without o ho k := by
    rw [State.sem_strike]
    exact Sem.without_strike (ho k) struck

theorem State.dropHolds_settles : Settles s (s.dropHolds n) := by
  unfold State.dropHolds
  dsimp only
  refine Settles.trans (Settles.of_eq ?_ ?_ ?_) (State.updEng_settles _ n ⟨rfl, rfl, rfl, rfl, fun h => by simp [h]⟩) <;>
    (repeat' split) <;> simp

theorem State.taskEnd_settles (st : Status) (c : Cause) : Settles s (s.taskEnd n st c) := by
  unfold State.taskEnd
  split
  · exact .refl s
  · refine Settles.trans ?_ (State.strike_settles ..)
    refine Settles.trans ?_ (State.updEng_settles _ n ⟨rfl, rfl, rfl, rfl, fun _ => rfl⟩)
    exact (s.dropHolds_settles n).trans (.of_eq (by simp) (by simp) (by simp))

theorem State.tellGrant_settles (w : SemWaiter) (ab : Bool) : Settles s (s.tellGrant w ab) := by
  unfold State.tellGrant
  split
  · exact (s.updTask_settles ..).trans (State.updTask_settles ..)
  · exact .of_eq rfl rfl rfl
  · exact (s.route_linkOnly ..).settles

theorem State.tellAbandoned_settles (w : SemWaiter) : Settles s (s.tellAbandoned w) := by
  unfold State.tellAbandoned
  split
  · exact s.taskEnd_settles ..
  · exact .of_eq rfl rfl rfl
  · exact (s.route_linkOnly ..).settles

theorem semSettleGo_settles (n : Nat) (s : State) : Settles s (semSettleGo n s) := by
  induction n generalizing s with
  | zero => exact .refl s
  | succ n ih =>
    unfold semSettleGo
    split
    · exact .refl s
    · dsimp only
      split
      · exact .refl s
      · next w ws hw =>
        have hrest : ∀ v ∈ ws, v ∈ (s.sems.rd _).waiters := fun v hv => hw ▸ List.mem_cons_of_mem w hv
        have hfirst : w ∈ (s.sems.rd _).waiters := hw ▸ List.mem_cons_self
        split
        · refine ((s.wrSem_settles _ fun o ⟨hheld, hwait⟩ => ?_).trans (State.tellAbandoned_settles ..)).trans (ih _)
          exact ⟨hheld, fun v hv => hwait v (hrest v hv)⟩
        · refine ((s.wrSem_settles _ fun o ⟨_, hwait⟩ => ?_).trans (State.tellGrant_settles ..)).trans (ih _)
          exact ⟨fun _ hwo => hwait w hfirst (Option.some.inj hwo), fun v hv => hwait v (hrest v hv)⟩

theorem State.semSettle_settles : Settles s s.semSettle := semSettleGo_settles ..

end

/-! ## An engine's reset -/

section
variable (s : State) (n : Nat)

/-- An engine as its island's reset leaves it before the grants (03 R69). -/
def Engine.cleared (e : Engine) : Engine :=
  { e with block := none, half0 := {}, half1 := {}, task := none, stopReq := false, density := 0, gap := 128 }

/-- What an engine's reset does is: holds and claims undone, the engine cleared, its semaphores abandoned and granted on (09 R349). -/
theorem State.resetEngine_eq : ∃ u, Settles s u ∧
    s.resetEngine n = ((u.updEng n Engine.cleared).strike (· == .engine n)).semSettle := by
  refine ⟨_, ?_, rfl⟩
  refine (s.dropHolds_settles n).trans ?_
  split <;> exact .of_eq (by simp) (by simp) (by simp)

theorem State.chans_resetEngine : (s.resetEngine n).chans = s.chans := by
  obtain ⟨u, hu, h⟩ := s.resetEngine_eq n
  rw [h, (State.semSettle_settles _).chans, (State.strike_settles ..).chans]
  exact hu.chans

/-- A reset clears the engine and keeps every other (03 R69). -/
theorem State.engine_resetEngine (m : Nat) :
    (if m = n then (s.engine n).cleared else s.engine m).Kept ((s.resetEngine n).engine m) := by
  obtain ⟨u, hu, h⟩ := s.resetEngine_eq n
  rw [h]
  refine Engine.Kept.trans ?_ (((State.strike_settles ..).trans (State.semSettle_settles _)).engine m)
  rw [State.engine_updEng]
  split
  · exact ⟨rfl, rfl, rfl, (hu.engine n).failedLanes, fun _ => rfl⟩
  · exact hu.engine m

theorem State.sem_resetEngine (k : Nat) : ((s.resetEngine n).sems.rd k).without (.engine n) := by
  obtain ⟨u, -, h⟩ := s.resetEngine_eq n
  rw [h]
  refine (State.semSettle_settles _).without _ (fun k => ?_) k
  rw [State.sem_strike]
  exact Sem.strike_without ..

end

end Sys2Proof.Machine
end

section
/-! O3: island targets, sag reports and island resets (02 R37-R48; 17 R657-R669). -/
namespace Sys2Proof.Machine
open Sys2Proof

/-! ## Island targets -/

section
variable (s : State)

/-- An island takes a target; under sag stage 4 or later the one in force stays beside it (17 R669). -/
def State.aimIsland (f : Nat) (s : State) (k : Nat) : State :=
  { s with isl := s.isl.upd k (fun x => { x with target := f, deferred := if s.power.sagStage ≥ 4 then some (s.islTarget k) else none }) }

theorem State.target_aimIslands (f : Nat) (l : List Nat) (j : Nat) :
    ((l.foldl (State.aimIsland f) s).isl.rd j).target = if j ∈ l then f else (s.isl.rd j).target := by
  induction l generalizing s with
  | nil => rfl
  | cons k l ih =>
    rw [List.foldl_cons, ih]
    by_cases hj : j = k <;> simp [hj, State.aimIsland, Tab.rd_upd]

theorem State.sags_aimIslands (f : Nat) (l : List Nat) (j : Nat) :
    ((l.foldl (State.aimIsland f) s).isl.rd j).sags = (s.isl.rd j).sags := by
  refine State.foldl_same (fun s => (s.isl.rd j).sags) _ (fun s k => ?_) l s
  by_cases hj : j = k <;> simp [hj, State.aimIsland, Tab.rd_upd]

theorem State.aimIslands_frame (f : Nat) (l : List Nat) :
    l.foldl (State.aimIsland f) s = { s with isl := (l.foldl (State.aimIsland f) s).isl } := by
  induction l generalizing s with
  | nil => rfl
  | cons k l ih =>
    rw [List.foldl_cons]
    exact ih _

/-- An island's new target: an engine follows it at once (05 R172). -/
def State.retarget (f i : Nat) : State :=
  let t := (if i = 59 then [59, 60, 61] else [i]).foldl (State.aimIsland f) s
  if i < 16 then t.settleEng i else t

theorem State.isl_retarget (f i : Nat) :
    (s.retarget f i).isl = ((if i = 59 then [59, 60, 61] else [i]).foldl (State.aimIsland f) s).isl := by
  unfold State.retarget
  dsimp only
  split
  · simp
  · rfl

/-- IL59 is set for the three tree-engine islands, every other island for itself alone (02 R40). -/
theorem State.target_retarget (f i j : Nat) : ((s.retarget f i).isl.rd j).target =
    if j = i ∨ (i = 59 ∧ (j = 60 ∨ j = 61)) then f else (s.isl.rd j).target := by
  rw [State.isl_retarget, State.target_aimIslands]
  by_cases hi : i = 59 <;> simp [hi]

theorem State.sags_retarget (f i j : Nat) : ((s.retarget f i).isl.rd j).sags = (s.isl.rd j).sags := by
  rw [State.isl_retarget, State.sags_aimIslands]

theorem State.retarget_frame (f i : Nat) : s.retarget f i = { s with isl := (s.retarget f i).isl, eng := (s.retarget f i).eng } := by
  have hl := s.aimIslands_frame f (if i = 59 then [59, 60, 61] else [i])
  unfold State.retarget
  dsimp only
  split
  · rw [hl]
    rfl
  · rw [hl]

theorem State.engine_retarget_other (f : Nat) {i m : Nat} (h : m ≠ i) : (s.retarget f i).engine m = s.engine m := by
  have hl := s.aimIslands_frame f (if i = 59 then [59, 60, 61] else [i])
  unfold State.retarget
  dsimp only
  split
  · rw [State.settleEng, State.engine_updEng, if_neg h, hl]
    rfl
  · rw [hl]
    rfl

variable {s} {by' : Principal} {i : Fin 80} {v : U16}

theorem exec_islandFreqTargetWrite (by' : Principal) (i : Fin 80) (v : U16) (s : State) :
    exec (.islandFreqTargetWrite by' i v) s = .next (s.freqTarget by' i v.toNat) := rfl

/-- IL60, IL61 and the disciplined islands refuse a target (02 R40, R41). -/
theorem exec_islandFreqTargetWrite_denied (h : s.serving) (hi : islDisciplined i = true ∨ i = 60 ∨ i = 61) :
    exec (.islandFreqTargetWrite by' i v) s = .next { s with reply := { status := .denied } } := by
  have hval : islDisciplined i = true ∨ (i : Nat) = 60 ∨ (i : Nat) = 61 := by simpa [Fin.ext_iff] using hi
  rw [exec_islandFreqTargetWrite, State.freqTarget, State.served_serving h, if_pos hval, ite_self]
  rfl

theorem exec_islandFreqTargetWrite_ok (h : s.serving) (hby : by' = .hostk ∨ by' = .rtp) (hd : islDisciplined i = false) (h60 : i ≠ 60)
    (h61 : i ≠ 61) : exec (.islandFreqTargetWrite by' i v) s =
      .next ((s.retarget (Nat.min (Nat.max v.toNat (islRange i).1) (islRange i).2) i).answer .ok) := by
  have hval : ¬(islDisciplined i = true ∨ (i : Nat) = 60 ∨ (i : Nat) = 61) := by
    simpa [hd, Fin.ext_iff] using And.intro h60 h61
  have hwho : ¬(by' ≠ .hostk ∧ by' ≠ .rtp) := fun ⟨hk, hr⟩ => hby.elim hk hr
  rw [exec_islandFreqTargetWrite, State.freqTarget, State.served_serving h, if_neg hwho, if_neg hval]
  rfl

end

/-! ## Sag stages leave the islands -/

section
variable (s : State)

theorem LinkOnly.isl {s t : State} (h : LinkOnly s t) : t.isl = s.isl := by rw [h]

theorem State.isl_settleAll : s.settleAll.isl = s.isl := State.foldl_same State.isl _ (fun s n => by simp) _ s

theorem State.isl_endBoost (was : Bool) (why : Nat) : (s.endBoost was why).isl = s.isl := by
  unfold State.endBoost
  split
  · simp [State.isl_settleAll]
  · rfl

theorem State.isl_restoreUnit (g : Segment) : (s.restoreUnit g).isl = s.isl := by
  unfold State.restoreUnit
  dsimp only
  split
  · simp
  · split
    · exact State.updSlc_isl ..
    · split
      · rfl
      · split <;> rfl

theorem State.isl_countSegment (g : Segment) (o index : Nat) : (s.countSegment g o index).isl = s.isl := rfl

theorem State.isl_abortSegs : s.abortSegs.isl = s.isl :=
  State.foldl_same State.isl _ (fun s g => (State.isl_countSegment ..).trans (s.isl_restoreUnit g)) _ s

theorem State.isl_stopEngine (n : Nat) : (s.stopEngine n).isl = s.isl := by
  unfold State.stopEngine
  dsimp only
  split <;> simp

theorem State.isl_shedEngines : s.shedEngines.isl = s.isl :=
  State.foldl_same State.isl _ (fun s n => by simp [State.isl_stopEngine]) _ s

theorem State.isl_stepPort (p speed : Nat) : (s.stepPort p speed).isl = s.isl := by
  simp [State.stepPort, State.enterRetrain, State.updPort, (s.sendCtrl_linkOnly ..).isl]

/-- Stage 5 steps down ports (17 R665). -/
theorem State.isl_stepPorts (ps : List Nat) (speed : Nat) : (ps.foldl (fun s p => s.stepPort p speed) s).isl = s.isl :=
  State.foldl_same State.isl _ (fun s p => s.isl_stepPort p speed) ps s

/-- Stage 6 halts engines (17 R666). -/
theorem State.isl_updEngs (f : Engine → Engine) (l : List Nat) : (l.foldl (fun s n => s.updEng n f) s).isl = s.isl :=
  State.foldl_same State.isl _ (fun s n => s.updEng_isl n f) l s

theorem State.isl_stageAction (n : Nat) : (s.stageAction n).isl = s.isl := by
  unfold State.stageAction
  (repeat' split)
  · rfl
  · simp [State.isl_shedEngines]
  · exact State.isl_stepPorts ..
  · simp only [State.watchSettle_frame]
    exact State.isl_updEngs ..
  · rfl

theorem State.isl_enterStage (n droop : Nat) : (s.enterStage n droop).isl = s.isl := by
  simp [State.enterStage, State.isl_stageAction, State.isl_abortSegs, State.isl_endBoost]

theorem State.isl_sagTo (n droop : Nat) : (s.sagTo n droop).isl = s.isl :=
  State.foldl_same State.isl _ (fun s k => by split <;> simp [State.isl_enterStage]) _ s

/-- A level no higher than the stage in force brings no stage (17 R658). -/
theorem State.sagTo_of_le {s : State} {n : Nat} (h : n ≤ s.power.sagStage) (droop : Nat) : s.sagTo n droop = s := by
  unfold State.sagTo
  refine List.foldlRecOn (motive := (· = s)) _ _ rfl fun t ht k hk => ?_
  rw [List.mem_range] at hk
  rw [ht, if_neg (by omega)]

/-- A sag report is counted and noted (02 R37). -/
def State.noteSag (i : Nat) : State :=
  ({ s with isl := s.isl.upd i (fun x => { x with sags := x.sags + 1 }) }).emit i 0x201 0xFF i

theorem State.isl_noteSag (i : Nat) : (s.noteSag i).isl = s.isl.upd i (fun x => { x with sags := x.sags + 1 }) := by
  simp [State.noteSag]

theorem State.sags_noteSag (i : Nat) : ((s.noteSag i).isl.rd i).sags = (s.isl.rd i).sags + 1 := by
  simp [State.isl_noteSag]

theorem State.target_noteSag (i j : Nat) : ((s.noteSag i).isl.rd j).target = (s.isl.rd j).target := by
  rw [State.isl_noteSag, Tab.rd_upd]
  split
  · next h => rw [h]
  · rfl

theorem State.noteSag_frame (i : Nat) :
    s.noteSag i = { s with isl := (s.noteSag i).isl, events := (s.noteSag i).events, gaps := (s.noteSag i).gaps } := by
  obtain ⟨e, g, h⟩ := ({ s with isl := s.isl.upd i (fun x => { x with sags := x.sags + 1 }) } : State).emit_only i 0x201 0xFF i
  rw [State.noteSag, h]

variable {s}

/-- An armed responder takes the report for a droop of 50 permille held for 1,000 ns (02 R38; 17 R657). -/
def State.sagReported (s : State) (i : Nat) : State :=
  if s.sagArmed then (s.noteSag i).sagTo (s.sagLevel 50 1000) 50 else s.noteSag i

theorem State.isl_sagReported (i : Nat) : (s.sagReported i).isl = (s.noteSag i).isl := by
  unfold State.sagReported
  split
  · exact State.isl_sagTo ..
  · rfl

/-- Where the responder is not armed or the droop reaches no further stage, the report is noted and no more. -/
theorem State.sagReported_of_quiet {i : Nat} (h : s.sagArmed = false ∨ s.sagLevel 50 1000 ≤ s.power.sagStage) :
    s.sagReported i = s.noteSag i := by
  unfold State.sagReported
  split
  · next harmed =>
    have hlevel : s.sagLevel 50 1000 ≤ s.power.sagStage := h.resolve_left (by simp [harmed])
    exact State.sagTo_of_le (by rw [s.noteSag_frame i]; exact hlevel) 50
  · rfl

theorem exec_islandSagReport {i : Fin 80} (h : s.awake = true) : exec (.islandSagReport i) s = .next (s.sagReported i) := by
  show execIslandSagReport i s = _
  have hf := s.noteSag_frame i
  have harmed : (s.noteSag i).sagArmed = s.sagArmed := by rw [hf]; rfl
  have hlevel : (s.noteSag i).sagLevel 50 1000 = s.sagLevel 50 1000 := by rw [hf]; rfl
  rw [State.sagReported, ← harmed, ← hlevel, execIslandSagReport, h]
  rfl

end

/-! ## Island resets -/

section
variable (s : State) (i n : Nat)

/-- A channel whose entries are discarded (02 R48). -/
def Chan.discarded (c : Chan) : Chan := { c with recvd := c.recvd + BitVec.ofNat 32 c.fifo.length, fifo := [] }

/-- A channel after a reset of island `i`; its number modulo 80 is the island it is bound for. -/
def Chan.afterReset (i k : Nat) (c : Chan) : Chan := if k % 80 = i then c.discarded else c

theorem Chan.afterReset_afterReset (k : Nat) (c : Chan) : (c.afterReset i k).afterReset i k = c.afterReset i k := by
  unfold Chan.afterReset
  split
  · simp [Chan.discarded]
  · rfl

theorem Chan.afterReset_default (k : Nat) : (default : Chan).afterReset i k = default := by
  unfold Chan.afterReset
  split <;> rfl

/-- The number of entries bound for an island. -/
def State.boundFor : Nat := s.chans.foldl (fun a c => if c.1 % 80 = i then a + c.2.fifo.length else a) 0

/-- What is bound for an island is discarded and counted (02 R48). -/
def State.discardFor : State :=
  let t := { s with chans := s.chans.updListed (Chan.afterReset i) }
  if s.boundFor i + n = 0 then t else t.emit i 0x002 0xFF (s.boundFor i + n)

theorem State.discardFor_frame : s.discardFor i n =
    { s with chans := (s.discardFor i n).chans, events := (s.discardFor i n).events, gaps := (s.discardFor i n).gaps } := by
  unfold State.discardFor
  dsimp only
  split
  · rfl
  · obtain ⟨e, g, h⟩ := ({ s with chans := s.chans.updListed (Chan.afterReset i) } : State).emit_only i 0x002 0xFF (s.boundFor i + n)
    rw [h]

theorem State.chan_discardFor (k : Nat) : (s.discardFor i n).chans.rd k = (s.chans.rd k).afterReset i k := by
  have hc : (s.discardFor i n).chans = s.chans.updListed (Chan.afterReset i) := by
    unfold State.discardFor
    dsimp only
    split <;> simp
  rw [hc, Tab.rd_updListed (Chan.afterReset_afterReset i) (Chan.afterReset_default i)]

theorem State.chans_resetTdu : s.resetTdu.chans = s.chans := by
  unfold State.resetTdu
  dsimp only
  refine (State.foldl_same State.chans _ (fun s o => ?_) _ _).trans (by simp)
  (repeat' split) <;> simp [State.dropGather]

/-- What a reset does to the island once its entries are discarded. -/
def State.islandReset : State :=
  if i < 16 then (s.discardFor i n).resetEngine i else if i = 58 then (s.discardFor i n).resetTdu else s.discardFor i n

theorem State.chan_islandReset (k : Nat) : (s.islandReset i n).chans.rd k = (s.chans.rd k).afterReset i k := by
  rw [← State.chan_discardFor s i n]
  unfold State.islandReset
  split
  · rw [State.chans_resetEngine]
  · split
    · rw [State.chans_resetTdu]
    · rfl

theorem State.engine_discardFor (m : Nat) : (s.discardFor i n).engine m = s.engine m := by
  rw [State.discardFor_frame]
  rfl

theorem exec_islandReset {s : State} {i : Fin 80} {n : Nat} (h : s.awake = true) :
    exec (.islandReset i n) s = .next (s.islandReset i n) := by
  show execIslandReset i n s = _
  rw [execIslandReset, h]
  rfl

end

end Sys2Proof.Machine

open Sys2Proof Sys2Proof.Machine

/-- Settles O3: a target by the islands it goes to, a report by its count, a reset by the discarded entries and the engine's own reset. -/
theorem islandTargetsReportsAndResets : Obligations.IslandTargetsReportsAndResets := by
  unfold Obligations.IslandTargetsReportsAndResets
  refine ⟨fun s by' i v h hby => ⟨exec_islandFreqTargetWrite_denied h, fun hd h60 h61 =>
    ⟨_, exec_islandFreqTargetWrite_ok h hby hd h60 h61, rfl, s.target_retarget _ i, s.sags_retarget _ i,
      fun m hm => s.engine_retarget_other _ hm, congrArg (State.answer · .ok) (s.retarget_frame _ i)⟩⟩,
    fun s i h => ⟨⟨_, exec_islandSagReport h, ?_, fun j => ?_, fun hq => ?_⟩, fun n =>
    ⟨_, exec_islandReset h, fun k hk => ?_, fun k hk => ?_, fun h16 h58 => ?_, fun h16 => ?_⟩⟩⟩
  · rw [State.isl_sagReported, State.sags_noteSag]
  · rw [State.isl_sagReported, State.target_noteSag]
  · rw [State.sagReported_of_quiet hq]
    exact s.noteSag_frame i
  · rw [State.chan_islandReset, Chan.afterReset, if_pos hk]
    rfl
  · rw [State.chan_islandReset, Chan.afterReset, if_neg hk]
  · rw [State.islandReset, if_neg (by omega), if_neg h58]
    exact s.discardFor_frame i n
  · rw [State.islandReset, if_pos h16]
    have hkept := (s.discardFor i n).engine_resetEngine i
    obtain ⟨hblock, hhalf0, hhalf1, -, hidle⟩ := if_pos (rfl : (i : Nat) = i) ▸ hkept i
    refine ⟨hblock, hhalf0, hhalf1, hidle rfl, fun k => (State.sem_resetEngine _ _ k).1, fun m hm => ?_⟩
    have hm' := hkept m
    rw [if_neg hm, State.engine_discardFor] at hm'
    exact ⟨hm'.block, hm'.half0, hm'.half1, hm'.failedLanes⟩

end

section
/-! Scratch slices under holds, claims, completions and whole reads: granules alone change, and which (03 R81-R83, R835). -/
namespace Sys2Proof.Machine
open Sys2Proof

theorem State.slc_updSlc (s : State) (n m : Nat) (f : Slice → Slice) :
    (s.updSlc n f).slc.rd m = if m = n then f (s.slc.rd n) else s.slc.rd m := Tab.rd_upd ..

theorem State.slc_updSlc_other (s : State) {n m : Nat} (h : m ≠ n) (f : Slice → Slice) : (s.updSlc n f).slc.rd m = s.slc.rd m := by
  rw [State.slc_updSlc, if_neg h]

/-- State `t` is `s` but for the granules of its slices. -/
structure GranOnly (s t : State) : Prop where
  frame : t = { s with slc := t.slc }
  slice : ∀ m, t.slc.rd m = { s.slc.rd m with gran := (t.slc.rd m).gran }

section
variable {s t u : State}

theorem GranOnly.refl (s : State) : GranOnly s s := ⟨rfl, fun _ => rfl⟩
theorem GranOnly.trans (h : GranOnly s t) (h' : GranOnly t u) : GranOnly s u where
  frame := h'.frame.trans (by rw [h.frame])
  slice m := by rw [h'.slice m, h.slice m]

theorem GranOnly.foldl {γ : Type} {g : State → γ → State} (h : ∀ s a, GranOnly s (g s a)) (l : List γ) (s : State) :
    GranOnly s (l.foldl g s) := by
  induction l generalizing s with
  | nil => exact .refl s
  | cons a l ih => exact (h s a).trans (ih _)

theorem GranOnly.bytes (h : GranOnly s t) (m : Nat) : (t.slc.rd m).bytes = (s.slc.rd m).bytes :=
  (congrArg Slice.bytes (h.slice m) :)

theorem State.updGran_granOnly (s : State) (n : Nat) (f : Slice → Tab Gran) : GranOnly s (s.updSlc n (fun x => { x with gran := f x })) where
  frame := rfl
  slice m := by
    rw [State.slc_updSlc]
    split
    · next h => rw [h]
    · rfl

end

section
variable (s : State)

theorem State.release_granOnly (hs : List Hold) (flags : Bool) : GranOnly s (s.release hs flags) :=
  .foldl (fun s _ => s.updGran_granOnly ..) hs s
theorem State.takeHolds_granOnly (hs : List Hold) : GranOnly s (s.takeHolds hs) := .foldl (fun s _ => s.updGran_granOnly ..) hs s
theorem State.complete_granOnly (cs : List Claim) : GranOnly s (s.complete cs) := .foldl (fun s _ => s.updGran_granOnly ..) cs s
theorem State.takeClaims_granOnly (sl : Nat) (gs : List Nat) : GranOnly s (s.takeClaims sl gs).1 := s.updGran_granOnly ..

/-- Holds on other slices leave a slice as it is. -/
theorem State.slc_takeHolds_other {hs : List Hold} {k : Nat} (h : ∀ a ∈ hs, k ≠ a.slice) : (s.takeHolds hs).slc.rd k = s.slc.rd k := by
  unfold State.takeHolds
  induction hs generalizing s with
  | nil => rfl
  | cons a l ih =>
    rw [List.foldl_cons, ih _ fun b hb => h b (List.mem_cons_of_mem a hb), State.slc_updSlc_other _ (h a List.mem_cons_self)]

theorem State.slc_takeClaims_other {sl k : Nat} (h : k ≠ sl) (gs : List Nat) : (s.takeClaims sl gs).1.slc.rd k = s.slc.rd k :=
  s.slc_updSlc_other h _

/-- A claimed granule is FILLING (03 R81). -/
theorem State.filling_takeClaims (sl : Nat) {gs : List Nat} {g : Nat} (h : g ∈ gs) :
    (((s.takeClaims sl gs).1.slc.rd sl).gran.rd g).st = .filling := by
  have hrd := Tab.rd_foldl_wr (f := fun _ (y : Gran) => { y with st := .filling }) (fun _ _ => rfl) gs (s.slc.rd sl).gran g
  rw [if_pos h] at hrd
  change (((s.updSlc sl _).slc.rd sl).gran.rd g).st = .filling
  rw [State.slc_updSlc, if_pos rfl]
  exact congrArg Gran.st hrd

/-- The claims taken are those of the granules, in their order, on their slice (03 R81). -/
theorem State.gran_takeClaims (sl : Nat) (gs : List Nat) : (s.takeClaims sl gs).2.map Claim.gran = gs := by
  simp [State.takeClaims, Function.comp_def]

theorem State.slice_takeClaims (sl : Nat) (gs : List Nat) : (s.takeClaims sl gs).2.all (fun c => c.slice == sl) = true := by
  simp [State.takeClaims]

/-- Completing claims takes no granule out of PRESENT. -/
theorem State.present_complete_of_present {n g : Nat} (cs : List Claim) (h : ((s.slc.rd n).gran.rd g).st = .present) :
    (((s.complete cs).slc.rd n).gran.rd g).st = .present := by
  unfold State.complete
  induction cs generalizing s with
  | nil => exact h
  | cons c cs ih =>
    refine ih _ ?_
    rw [State.slc_updSlc]
    split
    · next hn =>
      rw [Tab.rd_upd]
      split
      · rfl
      · exact hn ▸ h
    · exact h

/-- A completed claim's granule is PRESENT (03 R81). -/
theorem State.present_complete {cs : List Claim} {c : Claim} (h : c ∈ cs) : (((s.complete cs).slc.rd c.slice).gran.rd c.gran).st = .present := by
  induction cs generalizing s with
  | nil => cases h
  | cons a cs ih =>
    obtain rfl | h := List.mem_cons.mp h
    · refine State.present_complete_of_present _ cs ?_
      rw [State.slc_updSlc, if_pos rfl]
      dsimp only
      rw [Tab.rd_upd, if_pos rfl]
    · exact ih _ h

end

end Sys2Proof.Machine
end

section
/-! O13: the filling of a scratch destination, what writing memory keeps, and the transfer steps (03 R81-R90; 08 R312-R315; 12 R446, R447). -/
namespace Sys2Proof.Machine
open Sys2Proof

/-! ## Filling a scratch destination -/

section
variable (s w : State) (q k : Nat) (x : StepCtx) (sl : Nat) (runs : List (Nat × List Byte)) (cs : List Claim)

/-- Runs of offset and bytes written into a slice, one after another. -/
def State.storeRuns : State := runs.foldl (fun s r => s.updSlc sl (fun y => y.store r.1 r.2)) s

theorem State.storeRuns_frame : s.storeRuns sl runs = { s with slc := (s.storeRuns sl runs).slc } := by
  unfold State.storeRuns
  induction runs generalizing s with
  | nil => rfl
  | cons r runs ih => exact ih _

/-- Runs written into a slice change its bytes alone among the slices' bytes. -/
theorem State.bytes_storeRuns (n : Nat) : ((s.storeRuns sl runs).slc.rd n).bytes =
    if n = sl then runs.foldl (fun m r => memWrite m r.1 r.2) (s.slc.rd sl).bytes else (s.slc.rd n).bytes := by
  unfold State.storeRuns
  induction runs generalizing s with
  | nil =>
    split
    · next h => rw [h]; rfl
    · rfl
  | cons r runs ih =>
    rw [List.foldl_cons, ih, State.slc_updSlc, if_pos rfl, State.slc_updSlc]
    split <;> rfl

theorem State.stepFill_eq : w.stepFill q k x sl runs cs =
    (((w.storeRuns sl runs).updCmd q x.c.serial (fun c => { c with claims := c.claims.filter (fun y => y.1 != k) })).complete cs).stepDone
      q k x .ok .none := rfl

/-- A filled destination holds its runs, its claims are PRESENT, and the step has ended OK (03 R81; 08 R314). -/
theorem State.stepFill_filledFrom : w.filledFrom (w.stepFill q k x sl runs cs) q k x sl runs cs := by
  rw [State.stepFill_eq]
  generalize hv : (w.storeRuns sl runs).updCmd .. = v
  have hbytes (n : Nat) : (((v.complete cs).stepDone q k x .ok .none).slc.rd n).bytes = ((w.storeRuns sl runs).slc.rd n).bytes :=
    hv ▸ (v.complete_granOnly cs).bytes n
  refine ⟨?_, fun n hn => ?_, fun c hc => v.present_complete hc, ?_⟩
  · rw [hbytes, State.bytes_storeRuns, if_pos rfl]
  · rw [hbytes, State.bytes_storeRuns, if_neg hn]
  · rw [(v.complete_granOnly cs).frame, ← hv, State.storeRuns_frame]
    rfl

end

/-! ## Reading into a claimed destination -/

/-- What a read of a step's source leaves: the filled destination, the wait, the requests to other dies, or the failure with the claims
returned (03 R835; 08 R314). -/
def RdRes.Leaves (t : State) (q k : Nat) (x : StepCtx) (sl : Nat) (runs : List Byte → List (Nat × List Byte)) (cs : List Claim) : RdRes → Prop
  | .ok bs w => w.filledFrom t q k x sl (runs bs) cs
  | .wait w => t = w
  | .start buf reqs w => t = w.stepRemote q k x 0 buf reqs
  | .fail st ca w => t = (w.stepUnclaim q k x cs false).stepDone q k x st ca

section
variable {s v : State} {q k sl off len : Nat} {x : StepCtx} {ps : List Piece} {runs : List Byte → List (Nat × List Byte)} {cs : List Claim}

/-- A step that claims its scratch destination, reads its source and fills the destination, as DMA_IN and the row steps do. -/
def State.readIn (s : State) (q k : Nat) (x : StepCtx) (sl off len : Nat) (ps : List Piece) (runs : List Byte → List (Nat × List Byte)) : State :=
  match s.stepClaim q k x sl off len with
  | none => s
  | some (v, cs) => match v.readAll (.parcel x.p) 1 (v.parcel x.p).fabricId ps with
    | .ok bs w => w.stepFill q k x sl (runs bs) cs
    | .wait w => w
    | .start buf reqs w => w.stepRemote q k x 0 buf reqs
    | .fail st ca w => (w.stepUnclaim q k x cs false).stepDone q k x st ca

theorem State.readIn_unclaimed (h : s.stepClaim q k x sl off len = none) : s.readIn q k x sl off len ps runs = s := by
  simp only [State.readIn, h]

theorem State.readIn_claimed (h : s.stepClaim q k x sl off len = some (v, cs)) :
    (v.readAll (.parcel x.p) 1 (v.parcel x.p).fabricId ps).Leaves (s.readIn q k x sl off len ps runs) q k x sl runs cs := by
  simp only [State.readIn, h]
  cases v.readAll (.parcel x.p) 1 (v.parcel x.p).fabricId ps with
  | ok bs w => exact w.stepFill_filledFrom ..
  | wait w => exact rfl
  | start buf reqs w => exact rfl
  | fail st ca w => exact rfl

end

section
variable {s : State} {q : Fin 1024} {k : Fin 64} {x : StepCtx} {kind sl off : Nat} {ps : List Piece}

theorem exec_writerClaim (h : s.stepStarts q k 1 x) (hscr : s.stepScr x x.x.bytes = some (sl, off)) :
    exec (.writerClaim q k) s = .next ((s.stepClaim q k x sl off x.x.bytes).elim s Prod.fst) := by
  change execWriterClaim q k s = _
  obtain ⟨hat, hready⟩ := h
  simp only [execWriterClaim, hat, hready, hscr, Bool.not_true, Bool.false_eq_true, if_false]
  cases s.stepClaim q k x sl off x.x.bytes <;> rfl

theorem exec_dmaIn (h : s.stepStarts q k 1 x) (hscr : s.stepScr x x.x.bytes = some (sl, off))
    (hps : runPieces (x.exts 0) x.x.dva x.x.bytes = some ps) :
    exec (.dmaIn q k) s = .next (s.readIn q k x sl off x.x.bytes ps (fun bs => [(off, x.x.deliver bs)])) := by
  refine congrArg Host.Outcome.next ((State.runStep_starts h _ _).trans ?_)
  simp only [hscr, hps]
  rfl

theorem State.rowsIn_starts (h : s.stepStarts q k kind x) (hscr : s.stepScr x x.rowSpan = some (sl, off))
    (hps : rowPieces x.x (s.liveRows x) = some ps) :
    s.rowsIn q k kind = s.readIn q k x sl off x.rowSpan ps (rowRuns x.x off x.c.rows.zipIdx) := by
  refine (State.runStep_starts h _ _).trans ?_
  simp only [hscr, hps]
  rfl

theorem exec_rowIn_or_rowHist (hkind : kind = 8 ∨ kind = 10) :
    exec (if kind = 8 then .rowIn q k else .rowHist q k) s = .next (s.rowsIn q k kind) := by
  obtain rfl | rfl := hkind <;> rfl

end

/-! ## Writing memory -/

section
variable {s t : State} {who : Who}

theorem State.queues_writePiece {p : Piece} {bs : List Byte} {a : Unit} (h : s.writePiece who p bs = .ok a t) : t.queues = s.queues := by
  unfold State.writePiece at h
  split at h
  · cases h; rfl
  · cases h
  · dsimp only at h
    split at h
    · cases h
    split at h
    · cases h
    cases h
    simp only [State.chargeMc_frame]
    exact State.foldl_same State.queues _ (fun s l => by simp) _ s

theorem queues_writeGo {op fabric : Nat} {ps : List Piece} {bs : List Byte} {reqs : List Req}
    (h : writeGo who op fabric ps bs s reqs = .ok t) : t.queues = s.queues := by
  induction ps generalizing s bs reqs with
  | nil =>
    unfold writeGo at h
    split at h
    · cases h; rfl
    · cases h
  | cons p ps ih =>
    unfold writeGo at h
    split at h
    · exact ih h
    · split at h
      · next hp => exact (ih h).trans (State.queues_writePiece hp)
      all_goals cases h

/-- Writing memory leaves the queues as they are. -/
theorem State.queues_writeAll {op fabric : Nat} {ps : List Piece} {bs : List Byte} (h : s.writeAll who op fabric ps bs = .ok t) :
    t.queues = s.queues := by
  unfold State.writeAll at h
  dsimp only at h
  split at h
  · exact queues_writeGo h
  · cases h

end

/-! ## A step that has ended -/

theorem listSet_eq_set {α : Type} (l : List α) (i : Nat) (v : α) : listSet l i v = l.set i v := by
  induction l generalizing i with
  | nil => rfl
  | cons a l ih => cases i with
    | zero => rfl
    | succ i => exact congrArg (a :: ·) (ih i)

theorem Cmd.not_idle_setItem_done (c : Cmd) (i : Nat) (st : Status) (ca : Cause) :
    ((c.setItem i (.done st ca)).items[i]?).any (· == .idle) = false := by
  change ((listSet c.items i _)[i]?).any _ = false
  rw [listSet_eq_set, List.getElem?_set_self']
  cases c.items[i]? <;> rfl

section
variable {s w : State} {q k kind kind' : Nat} {x : StepCtx} {test : ItemSt → Bool}

/-- A step that is found is one of the command at the head of its queue (10 R381). -/
theorem State.consumed_of_stepAt (h : s.stepAt q k kind test = some x) : ∃ cs, (s.queue q).consumed = x.c :: cs := by
  unfold State.stepAt at h
  split at h
  · next c cs _ _ hc _ =>
    dsimp only at h
    split at h
    · cases h
      exact ⟨cs, hc⟩
    · cases h
  · cases h

theorem State.consumed_updCmd (s : State) (q serial : Nat) (f : Cmd → Cmd) : ((s.updCmd q serial f).queue q).consumed =
    (s.queue q).consumed.map (fun c => if c.serial = serial then f c else c) := by
  rw [State.updCmd, State.queue_updQ, if_pos rfl]

theorem State.consumed_stepDone (w : State) (q k : Nat) (x : StepCtx) (st : Status) (ca : Cause) : ((w.stepDone q k x st ca).queue q).consumed =
    (w.queue q).consumed.map (fun c => if c.serial = x.c.serial then c.setItem k (.done st ca) else c) := w.consumed_updCmd ..

/-- A step that has ended cannot start again (10 R387). -/
theorem State.stepAt_stepDone (h : s.stepAt q k kind test = some x) (hq : w.queues = s.queues) (st : Status) (ca : Cause) :
    (w.stepDone q k x st ca).stepAt q k kind' (· == .idle) = none := by
  obtain ⟨cs, hcs⟩ := State.consumed_of_stepAt h
  have hhead := w.consumed_stepDone q k x st ca
  rw [show w.queue q = s.queue q from congrArg (Tab.rd · q) hq, hcs, List.map_cons, if_pos rfl] at hhead
  unfold State.stepAt
  rw [hhead]
  split
  · next c _ _ _ hc _ =>
    cases hc
    simp only [Cmd.not_idle_setItem_done, Bool.and_false, Bool.false_eq_true, if_false]
  · rfl

/-- Bytes of a parcel that is not sealed, whose write finishes here, land and end the step OK (08 R315). -/
theorem State.landBytes_written {exts : List Extent} {dva : Nat} {bs : List Byte} {ps : List Piece} (hsealed : (s.parcel x.p).sealed = false)
    (hps : runPieces exts dva bs.length = some ps) (hw : s.writeAll (.parcel x.p) 2 (s.parcel x.p).fabricId ps bs = .ok w) :
    s.landBytes q k x exts dva bs = w.stepDone q k x .ok .none := by
  simp [State.landBytes, hps, hsealed, hw]

end

/-! ## DMA_OUT and ROW_OUT -/

section
variable {s w : State} {q : Fin 1024} {k : Fin 64} {x : StepCtx} {sl off : Nat} {ps : List Piece}

theorem exec_dmaOut_unheld (h : s.stepStarts q k 2 x) (hscr : s.stepScr x x.x.bytes = some (sl, off))
    (hhold : s.canHold sl (granules off x.x.bytes) = false) : exec (.dmaOut q k) s = .next s := by
  refine congrArg Host.Outcome.next ((State.runStep_starts h _ _).trans ?_)
  simp [hscr, hhold]

theorem exec_dmaOut_uncorrectable (h : s.stepStarts q k 2 x) (hscr : s.stepScr x x.x.bytes = some (sl, off))
    (hhold : s.canHold sl (granules off x.x.bytes) = true) (hbad : (s.slc.rd sl).badRange off x.x.bytes = true) :
    exec (.dmaOut q k) s = .next ((s.readDone sl (granules off x.x.bytes) x.x.rel).stepDone q k x .faulted .uncorr) := by
  refine congrArg Host.Outcome.next ((State.runStep_starts h _ _).trans ?_)
  simp [hscr, hhold, hbad]

theorem exec_dmaOut_written (h : s.stepStarts q k 2 x) (hscr : s.stepScr x x.x.bytes = some (sl, off))
    (hhold : s.canHold sl (granules off x.x.bytes) = true) (hbad : (s.slc.rd sl).badRange off x.x.bytes = false)
    (hsealed : (s.parcel x.p).sealed = false)
    (hps : runPieces (x.exts 0) x.x.dva (x.x.deliver (memRead (s.slc.rd sl).bytes off x.x.bytes)).length = some ps)
    (hw : s.writeAll (.parcel x.p) 2 (s.parcel x.p).fabricId ps (x.x.deliver (memRead (s.slc.rd sl).bytes off x.x.bytes)) = .ok w) :
    exec (.dmaOut q k) s = .next ((w.stepDone q k x .ok .none).readDone sl (granules off x.x.bytes) x.x.rel) := by
  refine congrArg Host.Outcome.next ((State.runStep_starts h _ _).trans ?_)
  have hland := State.landBytes_written (q := q) (k := k) hsealed hps hw
  have hended := State.stepAt_stepDone (kind' := 2) h.1 (State.queues_writeAll hw) .ok .none
  simp [hscr, hhold, hbad, hland, hended]

/-- The granules the live rows of a step lie in, each once. -/
def StepCtx.rowGranules (x : StepCtx) (off : Nat) (live : List (Nat × WlRow × Seq)) : List Nat :=
  (live.flatMap (fun r => granules (off + r.1 * x.x.pitch) (x.x.rowLen r.2.1))).eraseDups

theorem exec_rowOut_unheld (h : s.stepStarts q k 9 x) (hscr : s.stepScr x x.rowSpan = some (sl, off))
    (hps : rowPieces x.x (s.liveRows x) = some ps) (hhold : s.canHold sl (x.rowGranules off (s.liveRows x)) = false) :
    exec (.rowOut q k) s = .next s := by
  refine congrArg Host.Outcome.next ((State.runStep_starts h _ _).trans ?_)
  unfold StepCtx.rowGranules at hhold
  simp [hscr, hps, hhold]

theorem exec_rowOut_uncorrectable (h : s.stepStarts q k 9 x) (hscr : s.stepScr x x.rowSpan = some (sl, off))
    (hps : rowPieces x.x (s.liveRows x) = some ps) (hhold : s.canHold sl (x.rowGranules off (s.liveRows x)) = true)
    (hbad : (s.liveRows x).any (fun r => (s.slc.rd sl).badRange (off + r.1 * x.x.pitch) (x.x.rowLen r.2.1)) = true) :
    exec (.rowOut q k) s = .next ((s.readDone sl (x.rowGranules off (s.liveRows x)) x.x.rel).stepDone q k x .faulted .uncorr) := by
  refine congrArg Host.Outcome.next ((State.runStep_starts h _ _).trans ?_)
  unfold StepCtx.rowGranules at hhold ⊢
  simp only [hscr, hps, hhold, hbad]
  rfl

theorem exec_rowOut_written (h : s.stepStarts q k 9 x) (hscr : s.stepScr x x.rowSpan = some (sl, off))
    (hps : rowPieces x.x (s.liveRows x) = some ps) (hhold : s.canHold sl (x.rowGranules off (s.liveRows x)) = true)
    (hbad : (s.liveRows x).any (fun r => (s.slc.rd sl).badRange (off + r.1 * x.x.pitch) (x.x.rowLen r.2.1)) = false)
    (hw : s.writeAll (.parcel x.p) 2 (s.parcel x.p).fabricId ps
      ((s.liveRows x).flatMap (fun r => memRead (s.slc.rd sl).bytes (off + r.1 * x.x.pitch) (x.x.rowLen r.2.1))) = .ok w) :
    exec (.rowOut q k) s = .next ((w.readDone sl (x.rowGranules off (s.liveRows x)) x.x.rel).stepDone q k x .ok .none) := by
  refine congrArg Host.Outcome.next ((State.runStep_starts h _ _).trans ?_)
  unfold StepCtx.rowGranules at hhold ⊢
  simp only [hscr, hps, hhold, hbad, hw]
  rfl

end

/-! ## COPY -/

section
variable {s w v : State} {q k : Nat} {x : StepCtx} {bs : List Byte} {ps ds : List Piece}

/-- What a read of a COPY's source leaves: the bytes on their way out, the wait, the requests, or the failure. -/
def State.copyRead (s : State) (q k : Nat) (x : StepCtx) (ps : List Piece) : State :=
  match s.readAll (.parcel x.p) 1 (s.parcel x.p).fabricId ps with
  | .ok bs w => w.copyOut q k x (x.x.deliver bs)
  | .wait w => w
  | .start buf reqs w => w.stepRemote q k x 0 buf reqs
  | .fail st ca w => w.stepDone q k x st ca

theorem exec_copy {q : Fin 1024} {k : Fin 64} (h : s.stepStarts q k 3 x) (hsrc : s.sourceUnread x = false)
    (hps : runPieces (x.exts 0) x.x.dva x.x.bytes = some ps) : exec (.copy q k) s = .next (s.copyRead q k x ps) := by
  refine congrArg Host.Outcome.next ((State.runStep_starts h _ _).trans ?_)
  simp only [hsrc, hps, Bool.false_eq_true, if_false]
  rfl

theorem State.copyOut_written (hds : runPieces (x.exts 1) x.x.dva2 bs.length = some ds) (hwin : isWindow ds = false)
    (hsealed : (w.parcel x.p).sealed = false) (hw : w.writeAll (.parcel x.p) 2 (w.parcel x.p).fabricId ds bs = .ok v) :
    w.copyOut q k x bs = v.stepDone q k x .ok .none := by
  simp only [State.copyOut, hds, hwin, Bool.not_false, if_true]
  exact State.landBytes_written hsealed hds hw

/-- A destination all in collective windows takes the bytes as a contribution (14 R550). -/
theorem State.copyOut_contributes (hds : runPieces (x.exts 1) x.x.dva2 bs.length = some ds)
    (hall : ds.all (fun p => p.back == .fabric 0xFFFF) = true) (hne : ds ≠ []) :
    w.copyOut q k x bs =
      ((w.dropGather (x.owner q k)).setItem q x.c.serial k .waiting).contribute q x.c.serial k x.p (windowRuns ds bs) := by
  have hwin : isWindow ds = true := by
    obtain ⟨d, hd⟩ := List.exists_mem_of_ne_nil ds hne
    exact List.any_eq_true.mpr ⟨d, hd, List.all_eq_true.mp hall d hd⟩
  simp only [State.copyOut, hds, hwin, hall, Bool.not_true, Bool.false_eq_true, if_false]

end

end Sys2Proof.Machine

open Sys2Proof Sys2Proof.Machine

/-- Settles O13: the steps into scratch by the claim, the read and the filling they share, those out of scratch and COPY by what a finished
write leaves. -/
theorem transferStepsFillScratchAndMemory : Obligations.TransferStepsFillScratchAndMemory := by
  unfold Obligations.TransferStepsFillScratchAndMemory
  refine ⟨fun s q k x sl off ps h hscr hps => ⟨fun hc => ?_, fun v cs hc => ?_⟩, fun s q k x kind sl off ps hkind h hscr hps => ?_,
    fun s q k x sl off h hscr => ⟨exec_dmaOut_unheld h hscr, exec_dmaOut_uncorrectable h hscr, fun ps w hhold hbad =>
      exec_dmaOut_written h hscr hhold hbad⟩,
    fun s q k x sl off ps h hscr hps => ⟨exec_rowOut_unheld h hscr hps, exec_rowOut_uncorrectable h hscr hps, fun w =>
      exec_rowOut_written h hscr hps⟩,
    fun s q k x ps h hsrc hps => ⟨_, exec_copy h hsrc hps, ?_⟩⟩
  · rw [exec_writerClaim h hscr, exec_dmaIn h hscr hps, State.readIn_unclaimed hc, hc]
    exact ⟨rfl, rfl⟩
  · rw [exec_writerClaim h hscr, hc]
    exact ⟨rfl, _, exec_dmaIn h hscr hps, State.readIn_claimed hc⟩
  · refine ⟨_, (exec_rowIn_or_rowHist hkind).trans (congrArg _ (State.rowsIn_starts h hscr hps)), ?_⟩
    split
    · next hc => exact State.readIn_unclaimed hc
    · next v cs hc => exact State.readIn_claimed hc
  · unfold State.copyRead
    cases s.readAll (.parcel x.p) 1 (s.parcel x.p).fabricId ps with
    | ok bs w => exact ⟨fun ds v => State.copyOut_written, fun ds => State.copyOut_contributes⟩
    | wait w => exact rfl
    | start buf reqs w => exact rfl
    | fail st ca w => exact rfl

end

section
/-! O8: the issue gate, and an engine's drain, ramp, stop and start (03 R74-R96; 04 R111, R113; 05 R163, R164). -/
namespace Sys2Proof.Machine
open Sys2Proof

theorem State.engine_updEng_same (s : State) (n : Nat) (f : Engine → Engine) : (s.updEng n f).engine n = f (s.engine n) := by
  rw [State.engine_updEng, if_pos rfl]

theorem State.engine_updEng_other (s : State) {n m : Nat} (h : m ≠ n) (f : Engine → Engine) : (s.updEng n f).engine m = s.engine m := by
  rw [State.engine_updEng, if_neg h]

theorem GranOnly.engine {s t : State} (h : GranOnly s t) (m : Nat) : t.engine m = s.engine m := by
  rw [h.frame]
  rfl

/-! ## The issue gate -/

theorem EInstr.ne_bad_of_gated {i : EInstr} (h : i.gated = true) : i ≠ .bad := fun hb => by simp [hb, EInstr.gated] at h

/-- The half a matrix instruction accumulates in is still being drained (03 R74). -/
def State.gateDrains (s : State) (n : Nat) : EInstr → Bool
  | .mat _ f => !f.sacc && ((s.engine n).half f.half).drain.isSome
  | _ => false

/-- The holds an instruction needs on the engine's own slice. -/
def ownHolds (n : Nat) (i : EInstr) (o : GateOps) : List Hold := (gateHolds i o).filter (fun h => h.slice == n)

/-- The granules of an instruction's destination. -/
def GateOps.dst (o : GateOps) : List Nat := granules o.d.2.1 o.d.2.2

/-- The reservation of an instruction's granules on the other slices, in ascending slice number (03 R85). -/
def State.gateReserve (s : State) (n : Nat) (i : EInstr) (o : GateOps) : State × Bool :=
  s.reserve n (gateHolds i o) ((List.range 16).filter (· ≠ n))

/-- The engine's own slice keeps an instruction waiting: it does not serve, or a granule cannot be held or claimed (03 R81, R83, R90,
R834). -/
def Slice.bars (x : Slice) (own : List Hold) (dst : List Nat) : Bool :=
  x.withdrawn || !x.powered
    || !own.all (fun h => if dst.contains h.gran then (x.gran.rd h.gran).st == .present && (x.gran.rd h.gran).readers == 0
        else (x.gran.rd h.gran).holdable)
    || !dst.all (fun g => if own.any (fun h => h.gran == g) then true else (x.gran.rd g).claimable)

theorem Slice.bars_eq_false {x : Slice} {own : List Hold} {dst : List Nat} (hw : x.withdrawn = false) (hp : x.powered = true)
    (hown : ∀ h ∈ own, if h.gran ∈ dst then (x.gran.rd h.gran).st = .present ∧ (x.gran.rd h.gran).readers = 0
      else (x.gran.rd h.gran).holdable = true)
    (hdst : ∀ g ∈ dst, (∃ h ∈ own, h.gran = g) ∨ (x.gran.rd g).claimable = true) : x.bars own dst = false := by
  have hall : own.all (fun h => if dst.contains h.gran then (x.gran.rd h.gran).st == .present && (x.gran.rd h.gran).readers == 0
      else (x.gran.rd h.gran).holdable) = true := by
    refine List.all_eq_true.mpr fun h hh => ?_
    have hh := hown h hh
    split at hh
    · next hmem => simp [hmem, hh]
    · next hmem => simp [hmem, hh]
  have hcl : dst.all (fun g => if own.any (fun h => h.gran == g) then true else (x.gran.rd g).claimable) = true := by
    refine List.all_eq_true.mpr fun g hg => ?_
    obtain ⟨h, hh, rfl⟩ | hg := hdst g hg
    · rw [show own.any (fun a => a.gran == h.gran) = true from List.any_eq_true.mpr ⟨h, hh, beq_self_eq_true _⟩]
      rfl
    · rw [hg, ite_self]
  rw [Slice.bars, hw, hp, hall, hcl]
  rfl

/-- What an instruction that issues holds as it waits for its execution. -/
def issuedOf (t : Task) (i : EInstr) (o : GateOps) (holds : List Hold) (claims : List Claim) : Issued :=
  { instr := i, slA := o.a.1, offA := o.a.2.1, slB := (o.b.map (·.1)).getD 0, offB := (o.b.map (·.2.1)).getD 0, slC := o.d.1, offC := o.d.2.1,
    asMm := (match i with | .mat acc _ => acc && firstInit t.loops | _ => false), holds := holds, claims := claims }

/-- The state with an instruction's holds and claims on the engine's own slice taken. -/
def State.gateTaken (s : State) (n : Nat) (i : EInstr) (o : GateOps) : State × List Claim := (s.takeHolds (ownHolds n i o)).takeClaims n o.dst

/-- An instruction passes the gate (03 R82, R83). -/
def State.issue (s : State) (n : Nat) (t : Task) (i : EInstr) (o : GateOps) : State :=
  (s.gateTaken n i o).1.updEng n (fun e => { e with reserved := [], task := e.task.map (fun u =>
    { u with issued := some (issuedOf t i o ((s.engine n).reserved ++ ownHolds n i o) (s.gateTaken n i o).2) }) })

section
variable {s u : State} {n : Fin 16} {t : Task} {i : EInstr} {o : GateOps}

/-- The gate sees the instruction its task has reached (03 R83). -/
theorem exec_instructionIssue_atInstr (h : s.atInstr n t i u) : exec (.instructionIssue n) s = .next (issueNext s n t) := by
  change execInstructionIssue n s = _
  obtain ⟨htask, hruns, hstarted, hissued, hwait, -⟩ := h
  simp only [execInstructionIssue, htask, hruns, hstarted, hissued, hwait]
  rfl

theorem exec_instructionIssue_undecoded (h : s.atInstr n t i u) (hi : i.gated = true) (ho : u.gateOps n t i = none) :
    exec (.instructionIssue n) s = .next (u.finishTask n .faulted .decode) := by
  rw [exec_instructionIssue_atInstr h]
  obtain ⟨-, -, -, -, -, w, hfetch, rfl⟩ := h
  have hbad := EInstr.ne_bad_of_gated hi
  simp [issueNext, hfetch, hbad, hi, ho]

/-- Past its checks an instruction waits for a voltage or a drain; else it reserves and, unless the engine's own slice bars it, issues
(03 R83-R85). -/
theorem exec_instructionIssue_decoded (h : s.atInstr n t i u) (hi : i.gated = true) (ho : u.gateOps n t i = some o) :
    exec (.instructionIssue n) s = .next (
      let r := u.gateReserve n i o
      if t.voltWait || u.gateDrains n i then u
      else if !r.2 then r.1
      else if (r.1.slc.rd n).bars (ownHolds n i o) o.dst then r.1
      else r.1.issue n t i o) := by
  rw [exec_instructionIssue_atInstr h]
  obtain ⟨-, -, -, -, -, w, hfetch, rfl⟩ := h
  have hbad := EInstr.ne_bad_of_gated hi
  simp only [issueNext, hfetch, hbad, hi, ho]
  rfl

theorem exec_instructionIssue_unreserved (h : s.atInstr n t i u) (hi : i.gated = true) (ho : u.gateOps n t i = some o)
    (hvolt : t.voltWait = false) (hdrain : u.gateDrains n i = false)
    (hr : (u.gateReserve n i o).2 = false) :
    exec (.instructionIssue n) s = .next (u.gateReserve n i o).1 := by
  rw [exec_instructionIssue_decoded h hi ho, hvolt, hdrain]
  dsimp only
  rw [hr]
  rfl

theorem exec_instructionIssue_issues (h : s.atInstr n t i u) (hi : i.gated = true) (ho : u.gateOps n t i = some o)
    (hvolt : t.voltWait = false) (hdrain : u.gateDrains n i = false)
    (hr : (u.gateReserve n i o).2 = true)
    (hbar : ((u.gateReserve n i o).1.slc.rd n).bars (ownHolds n i o) o.dst = false) :
    exec (.instructionIssue n) s = .next ((u.gateReserve n i o).1.issue n t i o) := by
  rw [exec_instructionIssue_decoded h hi ho, hvolt, hdrain]
  dsimp only
  rw [hr, hbar]
  rfl

theorem State.gateDrains_eq_false (h : ∀ acc f, i = .mat acc f → f.sacc = true ∨ ((u.engine n).half f.half).drain = none) :
    u.gateDrains n i = false := by
  cases i with
  | mat acc f =>
    obtain h | h := h acc f rfl
    · simp [State.gateDrains, h]
    · simp [State.gateDrains, h]
  | _ => rfl

end

section
variable (s : State) (n : Nat) (t : Task) (i : EInstr) (o : GateOps)

theorem State.gateTaken_granOnly : GranOnly s (s.gateTaken n i o).1 := (s.takeHolds_granOnly _).trans (State.takeClaims_granOnly ..)

theorem State.task_issue : ((s.issue n t i o).engine n).task = (s.engine n).task.map (fun u =>
    { u with issued := some (issuedOf t i o ((s.engine n).reserved ++ ownHolds n i o) (s.gateTaken n i o).2) }) := by
  rw [State.issue, State.engine_updEng_same, (s.gateTaken_granOnly n i o).engine]

theorem State.engine_issue_other {m : Nat} (h : m ≠ n) : (s.issue n t i o).engine m = s.engine m := by
  rw [State.issue, State.engine_updEng_other _ h, (s.gateTaken_granOnly n i o).engine]

theorem State.filling_issue {g : Nat} (h : g ∈ o.dst) : (((s.issue n t i o).slc.rd n).gran.rd g).st = .filling :=
  State.filling_takeClaims _ n h

theorem State.slc_issue_other {k : Nat} (h : k ≠ n) : (s.issue n t i o).slc.rd k = s.slc.rd k := by
  refine (State.slc_takeClaims_other _ h _).trans (s.slc_takeHolds_other fun a ha hk => h ?_)
  exact hk.trans (by simpa using (List.mem_filter.mp ha).2)

theorem State.issue_frame : s.issue n t i o = { s with eng := (s.issue n t i o).eng, slc := (s.issue n t i o).slc } := by
  unfold State.issue
  rw [(s.gateTaken_granOnly n i o).frame]
  rfl

end

/-! ## Drains -/

/-- The values of a half as a drain writes them: little-endian, row by row (03 R74). -/
def Half.drained (x : Half) (m w : Nat) : List Byte :=
  (List.range m).flatMap (fun i => (List.range w).flatMap (fun j => leBytes 4 (x.vals.rd (i * 1024 + j)).toNat))

theorem Engine.half_setHalf (e : Engine) (h : Bool) (x : Half) : (e.setHalf h x).half h = x := by cases h <;> rfl
theorem Engine.half_setHalf_other (e : Engine) (h : Bool) (x : Half) : (e.setHalf h x).half (!h) = e.half (!h) := by cases h <;> rfl

section
variable (s : State) (n : Nat) (h : Bool) (d : Drain)

/-- A drain's values stored in scratch and its claims complete (03 R74, R81). -/
def State.drainStored : State := (s.updSlc d.slice (fun x => x.store d.off (((s.engine n).half h).drained d.m d.w))).complete d.claims

/-- A drain done: its values in scratch and its half free (03 R74, R75). -/
def State.drainDone : State := (s.drainStored n h d).updEng n (fun e => e.setHalf h { (s.engine n).half h with drain := none })

theorem State.bytes_drainDone (k : Nat) : ((s.drainDone n h d).slc.rd k).bytes =
    if k = d.slice then memWrite (s.slc.rd d.slice).bytes d.off (((s.engine n).half h).drained d.m d.w) else (s.slc.rd k).bytes := by
  refine ((State.complete_granOnly _ d.claims).bytes k).trans ?_
  rw [State.slc_updSlc]
  split <;> rfl

theorem State.engine_drainStored (m : Nat) : (s.drainStored n h d).engine m = s.engine m := (State.complete_granOnly _ d.claims).engine m

theorem State.engine_drainDone : (s.drainDone n h d).engine n = (s.engine n).setHalf h { (s.engine n).half h with drain := none } := by
  rw [State.drainDone, State.engine_updEng_same, State.engine_drainStored]

theorem State.engine_drainDone_other {m : Nat} (hm : m ≠ n) : (s.drainDone n h d).engine m = s.engine m := by
  rw [State.drainDone, State.engine_updEng_other _ hm, State.engine_drainStored]

theorem State.drainDone_frame : s.drainDone n h d = { s with eng := (s.drainDone n h d).eng, slc := (s.drainDone n h d).slc } := by
  unfold State.drainDone State.drainStored
  rw [(State.complete_granOnly _ d.claims).frame]
  rfl

end

theorem exec_accumulatorDrainDone {s : State} {n : Fin 16} {h : Bool} {d : Drain} (hd : ((s.engine n).half h).drain = some d) :
    exec (.accumulatorDrainDone n h) s = .next (s.drainDone n h d) := by
  change execAccumulatorDrainDone n h s = _
  simp only [execAccumulatorDrainDone, hd]
  rfl

/-! ## Simmer -/

/-- One step of an idle engine's ramp (03 R94, R96). -/
def Engine.ramped (e : Engine) : Engine :=
  if !e.simmerEnable then { e with gap := 128, density := 0 }
  else if e.density = 0 then e
  else { e with density := e.density - 1, gap := Nat.max 64 e.gap + 8 }

theorem Engine.density_ramped (e : Engine) : e.ramped.density = if e.simmerEnable then e.density - 1 else 0 := by
  unfold Engine.ramped
  cases e.simmerEnable with
  | false => rfl
  | true =>
    by_cases hd : e.density = 0
    · simp [hd]
    · simp [hd]

theorem Engine.gap_ramped (e : Engine) :
    e.ramped.gap = if e.simmerEnable then (if e.density = 0 then e.gap else Nat.max 64 e.gap + 8) else 128 := by
  unfold Engine.ramped
  cases e.simmerEnable with
  | false => rfl
  | true =>
    by_cases hd : e.density = 0
    · simp [hd]
    · simp [hd]

theorem exec_simmerRampDown {s : State} {n : Fin 16} (h : ∀ t, (s.engine n).task = some t → t.issued = none) :
    exec (.simmerRampDown n) s = .next (s.updEng n (fun _ => (s.engine n).ramped)) := by
  refine congrArg (fun e => Host.Outcome.next { s with eng := s.eng.wr n e }) (if_neg ?_)
  split
  · next t ht => simp [h t ht]
  · exact Bool.false_ne_true

/-! ## A stop at a boundary -/

section
variable {s : State} {n : Fin 16}

theorem exec_engineStop (hreq : (s.engine n).stopReq = true) (hhalt : (s.engine n).halted = false) (hbound : (s.engine n).atBoundary = true)
    (hkill : (s.engine n).task.bind (·.killed) = none) : exec (.engineStop n) s = .next (s.stopEngine n).watchSettle := by
  change execEngineStop n s = _
  simp [execEngineStop, hreq, hhalt, hbound, hkill]

end

section
variable (s : State) {n m : Nat}

/-- An engine stopped at a boundary, its reservations given up (03 R85, R91). -/
def Engine.stoppedHere (e : Engine) : Engine := { e with stopReq := false, stopped := true, reserved := [] }

theorem State.stopEngine_boundary (hbound : (s.engine n).atBoundary = true) :
    s.stopEngine n = (s.release (s.engine n).reserved false).updEng n Engine.stoppedHere := by
  simp only [State.stopEngine, hbound, if_true]
  rfl

theorem State.engine_stopEngine (hbound : (s.engine n).atBoundary = true) : (s.stopEngine n).engine n = (s.engine n).stoppedHere := by
  rw [s.stopEngine_boundary hbound, State.engine_updEng_same, (s.release_granOnly _ _).engine]

theorem State.engine_stopEngine_other (hbound : (s.engine n).atBoundary = true) (h : m ≠ n) : (s.stopEngine n).engine m = s.engine m := by
  rw [s.stopEngine_boundary hbound, State.engine_updEng_other _ h, (s.release_granOnly _ _).engine]

theorem State.bytes_stopEngine (hbound : (s.engine n).atBoundary = true) (k : Nat) :
    ((s.stopEngine n).slc.rd k).bytes = (s.slc.rd k).bytes := by
  rw [s.stopEngine_boundary hbound]
  exact (s.release_granOnly _ _).bytes k

theorem State.stopEngine_frame (hbound : (s.engine n).atBoundary = true) :
    s.stopEngine n = { s with eng := (s.stopEngine n).eng, slc := (s.stopEngine n).slc } := by
  rw [s.stopEngine_boundary hbound, (s.release_granOnly _ _).frame]
  rfl

end

/-! ## The start of a task -/

section
variable (s : State) (n : Nat) (t : Task) (rest : List Task)

/-- The level a task runs at: its own or its parcel's cap, whichever is lower (05 R164). -/
def State.startLevel : Nat := Nat.min t.level (s.approx.cap.rd t.parcel)

/-- A task that runs above its parcel's cap is recorded (05 R164). -/
def State.noteCap : State := if t.level > s.approx.cap.rd t.parcel then s.emit n 0x2A1 t.parcel t.level else s

/-- An engine takes its next task's profile and level, leaving the rest of its inbox (05 R163). -/
def State.latch (lvl : Nat) : State :=
  s.updEng n (fun e => { e with inbox := rest, profile := s.approx.profiles.rd lvl, level := lvl, dispatchedAt := s.now })

/-- A task at its first instruction, its flags clear (04 R111). -/
def Task.begun (wait : Bool) (snap : List Byte) : Task :=
  { t with started := true, flags := {}, pc := 0, loops := [], issued := none, wait := .none, voltWait := wait, snapshot := snap }

theorem State.noteCap_frame : s.noteCap n t = { s with events := (s.noteCap n t).events, gaps := (s.noteCap n t).gaps } := by
  unfold State.noteCap
  split
  · obtain ⟨e, g, h⟩ := s.emit_only n 0x2A1 t.parcel t.level
    rw [h]
  · rfl

theorem startTask_eq : ∃ wait snap, startTask s n t rest =
    (((s.noteCap n t).latch n rest (s.startLevel t)).settleEng n).updEng n (fun e => { e with task := some (t.begun wait snap) }) :=
  ⟨_, _, rfl⟩

theorem State.engine_settleEng : ∃ f v, (s.settleEng n).engine n = { s.engine n with freq := f, volt := v } := by
  unfold State.settleEng
  rw [State.engine_updEng_same]
  split
  · exact ⟨_, _, rfl⟩
  · exact ⟨_, _, rfl⟩

theorem State.engine_settleEng_other {m : Nat} (h : m ≠ n) : (s.settleEng n).engine m = s.engine m := s.engine_updEng_other h _

/-- The engine as its task starts (04 R111; 05 R163, R164). -/
theorem engine_startTask : ∃ wait snap f v, (startTask s n t rest).engine n = { s.engine n with
    inbox := rest, profile := s.approx.profiles.rd (s.startLevel t), level := s.startLevel t, dispatchedAt := s.now, freq := f, volt := v
    task := some (t.begun wait snap) } := by
  obtain ⟨wait, snap, h⟩ := startTask_eq s n t rest
  obtain ⟨f, v, hf⟩ := ((s.noteCap n t).latch n rest (s.startLevel t)).engine_settleEng n
  refine ⟨wait, snap, f, v, ?_⟩
  rw [h, State.engine_updEng_same, hf, State.latch, State.engine_updEng_same, State.noteCap_frame]
  rfl

theorem engine_startTask_other {m : Nat} (hm : m ≠ n) : (startTask s n t rest).engine m = s.engine m := by
  obtain ⟨wait, snap, h⟩ := startTask_eq s n t rest
  rw [h, State.engine_updEng_other _ hm, State.engine_settleEng_other _ _ hm, State.latch, State.engine_updEng_other _ hm,
    State.noteCap_frame]
  rfl

theorem startTask_frame : startTask s n t rest = { s with
    eng := (startTask s n t rest).eng, events := (startTask s n t rest).events, gaps := (startTask s n t rest).gaps } := by
  obtain ⟨wait, snap, h⟩ := startTask_eq s n t rest
  rw [h, State.noteCap_frame]
  rfl

end

theorem exec_taskStart {s : State} {n : Fin 16} {t : Task} {rest : List Task} (htask : (s.engine n).task = none)
    (hinbox : (s.engine n).inbox = t :: rest) (hruns : (s.engine n).runs = true) :
    exec (.taskStart n) s = .next (startTask s n t rest) := by
  change execTaskStart n s = _
  simp [execTaskStart, htask, hinbox, hruns]

end Sys2Proof.Machine

open Sys2Proof Sys2Proof.Machine

/-- Settles O8: the gate by what its reservations, its bar and its issue leave, the engine's states by one equation and the fields of each. -/
theorem theIssueGateAndTheEngineStates : Obligations.TheIssueGateAndTheEngineStates := by
  unfold Obligations.TheIssueGateAndTheEngineStates
  refine ⟨fun s u n t i h hi => ⟨exec_instructionIssue_undecoded h hi, fun o ho hvolt hdrain => ?_⟩,
    fun s n h d hd => ⟨_, exec_accumulatorDrainDone hd, ?_⟩, fun s n h => ⟨_, exec_simmerRampDown h, ?_⟩,
    fun s n hreq hhalt hbound hkill => ⟨_, exec_engineStop hreq hhalt hbound hkill, ?_⟩,
    fun s n t rest htask hinbox hruns => ?_⟩
  · have hfree := State.gateDrains_eq_false hdrain
    exact ⟨exec_instructionIssue_unreserved h hi ho hvolt hfree, fun hr hw hp hown hdst =>
      ⟨_, _, exec_instructionIssue_issues h hi ho hvolt hfree hr (Slice.bars_eq_false hw hp hown hdst), State.task_issue .., rfl, rfl,
        State.gran_takeClaims .., State.slice_takeClaims .., fun g hg => State.filling_issue _ _ _ _ _ hg,
        (State.gateTaken_granOnly _ n i o).bytes n, fun m hm => State.engine_issue_other _ _ _ _ _ hm,
        fun k hk => State.slc_issue_other _ _ _ _ _ hk, State.issue_frame ..⟩⟩
  · have hbytes := s.bytes_drainDone n h d
    have heng := s.engine_drainDone n h d
    refine ⟨?_, fun a ha => ?_, fun k hk => ?_, fun c hc => State.present_complete _ hc, ?_, ?_, ?_,
      fun m => s.engine_drainDone_other n h d, s.drainDone_frame n h d⟩
    · rw [hbytes, if_pos rfl]
      exact memRead_memWrite ..
    · rw [hbytes, if_pos rfl]
      exact memWrite_rd_outside _ _ _ _ ha
    · rw [hbytes, if_neg hk]
    · rw [heng, Engine.half_setHalf]
    · rw [heng, Engine.half_setHalf]
    · rw [heng, Engine.half_setHalf_other]
  · rw [State.engine_updEng_same]
    exact ⟨Engine.density_ramped _, Engine.gap_ramped _, fun m hm => s.engine_updEng_other hm _, rfl⟩
  · have heng : (s.stopEngine n).watchSettle.engine n = (s.engine n).stoppedHere := s.engine_stopEngine hbound
    rw [heng]
    refine ⟨rfl, rfl, rfl, rfl, rfl, rfl, rfl, fun m => s.engine_stopEngine_other hbound, s.bytes_stopEngine hbound, ?_⟩
    exact (congrArg (fun u => { u with queues := (s.stopEngine n).watchSettle.queues }) (s.stopEngine_frame hbound) :)
  · obtain ⟨wait, snap, f, v, heng⟩ := engine_startTask s n t rest
    exact ⟨_, t.begun wait snap, exec_taskStart htask hinbox hruns, (congrArg Engine.task heng :), rfl, rfl, rfl, rfl, rfl, rfl, rfl, rfl, rfl,
      rfl, rfl, rfl, (congrArg Engine.inbox heng :), (congrArg Engine.level heng :), (congrArg Engine.profile heng :),
      (congrArg Engine.dispatchedAt heng :), fun m => engine_startTask_other s n t rest, startTask_frame s n t rest⟩

end

section
/-! O5: the control instructions of a task, its parcel's flags and its fences (04 R111, R115, R131-R136, R139, R140, R145; 09 R339). -/
namespace Sys2Proof.Machine
open Sys2Proof

/-! ## A task that moves on -/

section
variable (s : State) (n : Nat)

theorem State.engine_advance : (s.advance n).engine n = { s.engine n with task := (s.engine n).task.map Task.advance } :=
  s.engine_updEng_same n _

theorem State.engine_advance_other {m : Nat} (h : m ≠ n) : (s.advance n).engine m = s.engine m := s.engine_updEng_other h _

@[simp] theorem State.parcel_advance (p : Nat) : (s.advance n).parcel p = s.parcel p := rfl
@[simp] theorem State.parcel_bump (p : Nat) : s.bump.parcel p = s.parcel p := rfl
@[simp] theorem State.engine_bump : s.bump.engine n = s.engine n := rfl

/-- A free value drawn leaves the frame of what came before as it was. -/
theorem State.bump_frame {s u : State} (h : s = { u with eng := s.eng, parcels := s.parcels }) :
    s.bump = { u with eng := s.bump.eng, parcels := s.bump.parcels, freeCtr := s.bump.freeCtr } :=
  (congrArg (fun x : State => { x with freeCtr := s.bump.freeCtr }) h :)

/-- An engine counts one more cycle (04 R115). -/
def State.tick : State := s.updEng n (fun e => { e with cyc := e.cyc + 1 })

theorem State.engine_tick : (s.tick n).engine n = { s.engine n with cyc := (s.engine n).cyc + 1 } := s.engine_updEng_same n _

theorem State.engine_tick_other {m : Nat} (h : m ≠ n) : (s.tick n).engine m = s.engine m := s.engine_updEng_other h _

/-- An engine's task is replaced by the given one. -/
def State.setTask (t : Task) : State := s.updEng n (fun e => { e with task := some t })

theorem State.engine_setTask (t : Task) : (s.setTask n t).engine n = { s.engine n with task := some t } := s.engine_updEng_same n _

theorem State.engine_setTask_other {m : Nat} (h : m ≠ n) (t : Task) : (s.setTask n t).engine m = s.engine m := s.engine_updEng_other h _

end

/-! ## NOP, LOOP and END -/

/-- A task inside the body of the loop it has just opened, at iteration 0 (04 R132). -/
def Task.enter (t : Task) (f : LoopFields) : Task :=
  { t with loops := { f := f, first := t.pc + 1, iter := 0 } :: t.loops, pc := t.pc + 1 }

/-- A loop may not open: four are open, or its body leaves the innermost of them (04 R132). -/
def Task.bars (t : Task) (f : LoopFields) : Bool :=
  decide (t.loops.length ≥ 4) || (match t.loops with | l :: _ => decide (t.pc + 1 + f.body > l.first + l.f.body) | [] => false)

theorem Task.bars_iff (t : Task) (f : LoopFields) :
    t.bars f = true ↔ 4 ≤ t.loops.length ∨ ∃ l ls, t.loops = l :: ls ∧ l.first + l.f.body < t.pc + 1 + f.body := by
  unfold Task.bars
  cases t.loops with
  | nil => simp
  | cons l ls => simp

theorem Task.bars_eq_false {t : Task} {f : LoopFields} (hlen : t.loops.length < 4)
    (hin : ∀ l ls, t.loops = l :: ls → t.pc + 1 + f.body ≤ l.first + l.f.body) : t.bars f = false := by
  refine Bool.eq_false_iff.mpr fun hb => ?_
  obtain h4 | ⟨l, ls, hl, hout⟩ := (t.bars_iff f).mp hb
  · omega
  · have := hin l ls hl
    omega

/-- An engine's task opens a loop in one cycle (04 R132, R134). -/
def State.openLoop (s : State) (n : Nat) (t : Task) (f : LoopFields) : State :=
  s.updEng n (fun e => { e with cyc := e.cyc + 1, task := some (t.enter f) })

theorem State.engine_openLoop (s : State) (n : Nat) (t : Task) (f : LoopFields) :
    (s.openLoop n t f).engine n = { s.engine n with cyc := (s.engine n).cyc + 1, task := some (t.enter f) } := s.engine_updEng_same n _

section
variable {s u : State} {n : Fin 16} {t : Task}

theorem exec_nop (h : s.atInstr n t .nop u) : exec (.nop n) s = .next ((u.tick n).advance n) :=
  congrArg Host.Outcome.next (withInstr_atInstr h nofun _)

theorem exec_loop {f : LoopFields} (h : s.atInstr n t (.loop f) u) :
    exec (.loop n) s = .next (if t.bars f then u.finishTask n .faulted .decode else u.openLoop n t f) :=
  congrArg Host.Outcome.next (withInstr_atInstr h nofun _)

theorem exec_loop_opens {f : LoopFields} (h : s.atInstr n t (.loop f) u) (hlen : t.loops.length < 4)
    (hin : ∀ l ls, t.loops = l :: ls → t.pc + 1 + f.body ≤ l.first + l.f.body) : exec (.loop n) s = .next (u.openLoop n t f) := by
  simp [exec_loop h, Task.bars_eq_false hlen hin]

theorem exec_endTask (h : s.atInstr n t .fin u) (hbound : (u.engine n).atBoundary = true) :
    exec (.endTask n) s = .next (u.finishTask n .ok .none) :=
  congrArg Host.Outcome.next ((withInstr_atInstr h nofun _).trans (if_pos hbound))

end

/-! ## Flags -/

section
variable (s : State) (p fg v : Nat)

/-- A parcel's flag takes a value. -/
def State.setFlag : State := s.updPar p (fun x => { x with flags := x.flags.wr fg v })

theorem State.parcel_setFlag : (s.setFlag p fg v).parcel p = { s.parcel p with flags := (s.parcel p).flags.wr fg v } := by
  rw [State.setFlag, State.parcel_updPar, if_pos rfl]

theorem State.flag_setFlag_same : ((s.setFlag p fg v).parcel p).flags.rd fg = v := by rw [State.parcel_setFlag, Tab.rd_wr_same]

theorem State.flag_setFlag_other {g : Nat} (h : g ≠ fg) : ((s.setFlag p fg v).parcel p).flags.rd g = (s.parcel p).flags.rd g := by
  rw [State.parcel_setFlag, Tab.rd_wr_other _ _ h]

/-- An engine's FWAIT joins those that wait on a parcel's flags (04 R140). -/
def State.addFlagWait (n : Nat) : State := s.updPar p (fun x => { x with flagWaits := x.flagWaits ++ [(n, fg)] })

theorem State.parcel_addFlagWait (n : Nat) :
    (s.addFlagWait p fg n).parcel p = { s.parcel p with flagWaits := (s.parcel p).flagWaits ++ [(n, fg)] } := by
  rw [State.addFlagWait, State.parcel_updPar, if_pos rfl]

end

/-- Where no FWAIT is to be served, a signal leaves the state as it is (04 R141). -/
theorem serveWaits_rotated_nil (s u : State) (p : Nat) : serveWaits s p (rotated u []) = s := by
  simp [rotated, serveWaits]

section
variable {s u : State} {n : Fin 16} {t : Task} {fg v : Nat}

/-- FSIG at a boundary adds to its flag, serving the FWAITs on it, or faults past 65,535 (04 R139, R141). -/
theorem exec_fsig (h : s.atInstr n t (.fsig fg v) u) (hbound : (u.engine n).atBoundary = true) :
    exec (.fsig n) s = .next (
      if (u.parcel t.parcel).flags.rd fg + v > 65535 then u.finishTask n .faulted .exec
      else
        let w := (u.setFlag t.parcel fg ((u.parcel t.parcel).flags.rd fg + v)).advance n
        serveWaits w.bump t.parcel (rotated w ((w.parcel t.parcel).flagWaits.filter (fun x => x.2 == fg)))) := by
  refine congrArg Host.Outcome.next ((withInstr_atInstr h nofun _).trans ?_)
  simp only [hbound]
  rfl

theorem exec_fsig_unwaited (h : s.atInstr n t (.fsig fg v) u) (hbound : (u.engine n).atBoundary = true)
    (hle : (u.parcel t.parcel).flags.rd fg + v ≤ 65535) (hwait : ∀ w ∈ (u.parcel t.parcel).flagWaits, w.2 ≠ fg) :
    exec (.fsig n) s = .next ((u.setFlag t.parcel fg ((u.parcel t.parcel).flags.rd fg + v)).advance n).bump := by
  have hnone : (u.parcel t.parcel).flagWaits.filter (fun x => x.2 == fg) = [] := by simpa using hwait
  rw [exec_fsig h hbound, if_neg (Nat.not_lt.mpr hle)]
  simp only [State.parcel_advance, State.parcel_setFlag, hnone, serveWaits_rotated_nil]

/-- FWAIT takes VALUE from a flag that holds it, else it waits on that flag (04 R140). -/
theorem exec_fwait (h : s.atInstr n t (.fwait fg v) u) :
    exec (.fwait n) s = .next (
      if v ≤ (u.parcel t.parcel).flags.rd fg then (u.setFlag t.parcel fg ((u.parcel t.parcel).flags.rd fg - v)).advance n
      else (u.addFlagWait t.parcel fg n).setTask n { t with wait := .flag }) :=
  congrArg Host.Outcome.next (withInstr_atInstr h nofun _)

end

/-! ## Fences -/

section
variable {s u : State} {n : Fin 16} {t : Task}

theorem fenceMet_iff (e : Engine) (k : FenceKind) : fenceMet e k = true ↔ k = .acquire ∨ e.atBoundary = true := by
  cases k <;> simp [fenceMet]

theorem exec_fence {k : FenceKind} (h : s.atInstr n t (.fence k) u) :
    exec (.fence n) s = .next (if fenceMet (u.engine n) k then u.advance n else u.setTask n { t with wait := .fence }) :=
  congrArg Host.Outcome.next (withInstr_atInstr h nofun _)

theorem exec_fenceComplete (htask : (s.engine n).task = some t) (hwait : t.wait = .fence) (hbound : (s.engine n).atBoundary = true)
    (hruns : (s.engine n).runs = true) : exec (.fenceComplete n) s = .next (s.advance n) := by
  change execFenceComplete n s = _
  simp [execFenceComplete, htask, hwait, hbound, hruns]

end

end Sys2Proof.Machine

open Sys2Proof Sys2Proof.Machine

/-- Settles O5: each instruction by the one equation of its execution, and what that leaves of its engine and its parcel. -/
theorem controlInstructionsMoveTheTaskAndItsFlags : Obligations.ControlInstructionsMoveTheTaskAndItsFlags := by
  unfold Obligations.ControlInstructionsMoveTheTaskAndItsFlags
  refine ⟨⟨fun s u n t h => ⟨_, exec_nop h, ?_⟩, fun s u n t f h =>
      ⟨fun hlen hin => ⟨_, exec_loop_opens h hlen hin, ?_⟩, fun hbars => ?_⟩, fun s u n t => exec_endTask, fun l ls pc => rfl⟩,
    fun s u n t fg v h hbound => ⟨fun hle hwait => ⟨_, exec_fsig_unwaited h hbound hle hwait, ?_⟩, fun hover => ?_⟩,
    fun s u n t fg v h => ⟨fun hle => ⟨_, (exec_fwait h).trans (congrArg _ (if_pos hle)), ?_⟩,
      fun hlt => ⟨_, (exec_fwait h).trans (congrArg _ (if_neg (Nat.not_le.mpr hlt))), ?_⟩⟩,
    fun s u n t k h => ⟨_, exec_fence h, ?_⟩, fun s n t => exec_fenceComplete⟩
  · rw [State.engine_advance, State.engine_tick]
    exact ⟨rfl, rfl, fun m hm => (State.engine_advance_other _ _ hm).trans (State.engine_tick_other _ _ hm), rfl⟩
  · rw [State.engine_openLoop]
    exact ⟨rfl, rfl, fun m hm => u.engine_updEng_other hm _, rfl⟩
  · rw [exec_loop h, if_pos ((t.bars_iff f).mpr hbars)]
  · simp only [State.parcel_bump, State.engine_bump, State.parcel_advance, State.engine_advance]
    exact ⟨u.flag_setFlag_same .., fun g hg => u.flag_setFlag_other _ _ _ hg, rfl, fun m => State.engine_advance_other _ _,
      State.bump_frame rfl⟩
  · rw [exec_fsig h hbound, if_pos hover]
  · simp only [State.parcel_advance, State.engine_advance]
    exact ⟨u.flag_setFlag_same .., fun g hg => u.flag_setFlag_other _ _ _ hg, rfl, fun m => State.engine_advance_other _ _, rfl⟩
  · have hpar : ((u.addFlagWait t.parcel fg n).setTask n { t with wait := .flag }).parcel t.parcel = _ := u.parcel_addFlagWait ..
    rw [hpar, State.engine_setTask]
    exact ⟨rfl, rfl, rfl, fun m hm => State.engine_setTask_other _ _ hm _, rfl⟩
  · simp only [← fenceMet_iff]
    split
    · exact ⟨(congrArg Engine.task (u.engine_advance n) :), fun m => u.engine_advance_other n, rfl⟩
    · exact ⟨(congrArg Engine.task (u.engine_setTask n _) :), fun m hm => u.engine_setTask_other n hm _, rfl⟩

end

section
/-! The approximation entries on an open die: who may write them, what is refused, and what a stored value leaves (05 R159-R165). -/
namespace Sys2Proof.Machine
open Sys2Proof

variable {s : State} {by' : Principal} {level p : Fin 8} {a b c d v : Byte} {limit reserved : U16}

/-- The host kernel driver and the RTP are the two writers of an approximation entry (05 R159, R164). -/
theorem not_other_writer (h : by' = .hostk ∨ by' = .rtp) : ¬(by' ≠ .hostk ∧ by' ≠ .rtp) :=
  fun ⟨hk, hr⟩ => h.elim hk hr

/-- The profile that the fields of a write spell out (05 Table 5.1). -/
def writtenProfile (a b c d : Byte) (limit : U16) : AlProfile :=
  { int8T := a.toNat, int4T := b.toNat, fpExp := fpExpOf c, margin := d.toNat, limit := limit.toNat }

/-- The die with a level's profile replaced: tasks that start from here on latch it (05 R163). -/
def State.storeProfile (s : State) (l : Nat) (x : AlProfile) : State :=
  { s with approx := { s.approx with profiles := s.approx.profiles.wr l x } }

@[simp] theorem State.profiles_storeProfile (l : Nat) (x : AlProfile) :
    (s.storeProfile l x).approx.profiles = s.approx.profiles.wr l x := rfl

/-- The die with a parcel's cap replaced (05 R165). -/
def State.storeCap (s : State) (q cap : Nat) : State := { s with approx := { s.approx with cap := s.approx.cap.wr q cap } }

@[simp] theorem State.cap_storeCap (q cap : Nat) : (s.storeCap q cap).approx.cap = s.approx.cap.wr q cap := rfl

theorem exec_alProfileWrite_denied (h : s.serving) (hwho : (by' ≠ .hostk ∧ by' ≠ .rtp) ∨ level = 0) :
    exec (.alProfileWrite by' level a b c d limit reserved) s = .next (s.answer .denied) := by
  change execAlProfileWrite by' level a b c d limit reserved s = _
  rw [execAlProfileWrite, State.served_serving h]
  obtain hother | rfl := hwho
  · rw [if_pos hother]
  · rw [if_pos (Fin.val_zero 8), ite_self]

/-- A write by one of the two writers to another level than AL0 is settled by its ranges, and then by whether the die is alone. -/
theorem exec_alProfileWrite_permitted (h : s.serving) (hby : by' = .hostk ∨ by' = .rtp) (hl : level ≠ 0) :
    exec (.alProfileWrite by' level a b c d limit reserved) s = .next (
      if reserved ≠ 0 ∨ profileInRange a b c d limit = false then s.answer .unsupported
      else if !s.alone then s.answer .denied
      else (s.storeProfile level (writtenProfile a b c d limit)).answer .ok) := by
  have hval : level.val ≠ 0 := Fin.val_ne_of_ne hl
  change execAlProfileWrite by' level a b c d limit reserved s = _
  rw [execAlProfileWrite, State.served_serving h, if_neg (not_other_writer hby), if_neg hval]
  rfl

theorem exec_alProfileWrite_ok (h : s.serving) (hby : by' = .hostk ∨ by' = .rtp) (hl : level ≠ 0) (hres : reserved = 0)
    (hin : profileInRange a b c d limit = true) (halone : s.alone = true) :
    exec (.alProfileWrite by' level a b c d limit reserved) s =
      .next ((s.storeProfile level (writtenProfile a b c d limit)).answer .ok) := by
  rw [exec_alProfileWrite_permitted h hby hl, if_neg (by simp [hres, hin]), if_neg (by simp [halone])]

theorem exec_parcelAlCapWrite_denied (h : s.serving) (hother : by' ≠ .hostk ∧ by' ≠ .rtp) :
    exec (.parcelAlCapWrite by' p v) s = .next (s.answer .denied) := by
  change execParcelAlCapWrite by' p v s = _
  rw [execParcelAlCapWrite, State.served_serving h, if_pos hother]

/-- A write by one of the two writers is settled by the range of the cap alone. -/
theorem exec_parcelAlCapWrite_permitted (h : s.serving) (hby : by' = .hostk ∨ by' = .rtp) :
    exec (.parcelAlCapWrite by' p v) s = .next (
      if v.toNat > 7 then s.answer .unsupported
      else (s.storeCap p v.toNat).answer .ok) := by
  change execParcelAlCapWrite by' p v s = _
  rw [execParcelAlCapWrite, State.served_serving h, if_neg (not_other_writer hby)]
  rfl

end Sys2Proof.Machine

open Sys2Proof Sys2Proof.Machine

/-- Settles O9: each write by its refusals in order, and a stored value by the entry it replaces. -/
theorem approximationWritesAreChecked : Obligations.ApproximationWritesAreChecked := by
  unfold Obligations.ApproximationWritesAreChecked
  refine ⟨fun s by' level a b c d limit reserved h => ⟨exec_alProfileWrite_denied h, fun hby hl hbad => ?_,
      fun hby hl hres hin halone => ⟨_, exec_alProfileWrite_ok h hby hl hres hin halone, ?_⟩⟩,
    fun s by' p v h => ⟨exec_parcelAlCapWrite_denied h, fun hby hbig => ?_, fun hby hle =>
      ⟨_, (exec_parcelAlCapWrite_permitted h hby).trans (congrArg _ (if_neg (Nat.not_lt.mpr hle))), ?_⟩⟩⟩
  · rw [exec_alProfileWrite_permitted h hby hl, if_pos hbad]
    rfl
  · rw [State.answer_approx, State.profiles_storeProfile]
    exact ⟨Tab.rd_wr_same .., fun l hother => Tab.rd_wr_other _ _ hother, rfl, rfl⟩
  · rw [exec_parcelAlCapWrite_permitted h hby, if_pos hbig]
    rfl
  · rw [State.answer_approx, State.cap_storeCap]
    exact ⟨Tab.rd_wr_same .., rfl, fun q hother => Tab.rd_wr_other _ _ hother, rfl⟩

end

section
/-! O10: the shares of the tree engine on an open die: which writes are refused, and what a granted one leaves (06 R185, R186). -/
namespace Sys2Proof

/-- Keeping the entries whose number passes a test leaves the others at the default. -/
theorem Tab.rd_filter_number {α : Type} [Inhabited α] (f : Nat → Bool) (t : Tab α) (i : Nat) :
    Tab.rd (t.filter (fun e => f e.1)) i = if f i then Tab.rd t i else default := by
  induction t with
  | nil => simp
  | cons e r ih =>
    obtain ⟨k, x⟩ := e
    by_cases hk : k = i
    · subst hk
      by_cases hf : f k = true <;> simp [hf, Tab.rd_cons, ih]
    · by_cases hf : f k = true <;> simp [hf, Tab.rd_cons, hk, ih]

theorem mem_maskBits {n m i : Nat} : i ∈ maskBits n m ↔ i < n ∧ bitAt m i = true := by simp [maskBits]

namespace Machine

variable {s : State} {by' : Principal} {p v : Nat} {t : Tab Nat} {st : Status}

/-! ## What a write of a share may be refused with -/

theorem State.teShareRefused_of_ne_rtp (h : by' ≠ .rtp) : s.teShareRefused by' t p v = some .denied := by
  rw [State.teShareRefused, if_pos h]

theorem State.teShareRefused_of_held (h : ∃ o, o < 8 ∧ o ≠ p ∧ t.rd o &&& v ≠ 0) :
    s.teShareRefused .rtp t p v = some .unsupported := by
  rw [State.teShareRefused, if_neg (not_not_intro rfl), if_pos (by simpa using h)]

/-- A share that no other parcel holds is refused under a bound image alone. -/
theorem State.teShareRefused_of_unheld (h : ∀ o, o < 8 → o ≠ p → t.rd o &&& v = 0) :
    s.teShareRefused .rtp t p v = if (s.te.ctx.rd p).image.isSome then some .busy else none := by
  rw [State.teShareRefused, if_neg (not_not_intro rfl), if_neg (by simpa using h)]

theorem State.teShareRefused_of_bound (h : ∀ o, o < 8 → o ≠ p → t.rd o &&& v = 0) (himg : (s.te.ctx.rd p).image ≠ none) :
    s.teShareRefused .rtp t p v = some .busy := by
  rw [State.teShareRefused_of_unheld h, if_pos (Option.isSome_iff_ne_none.mpr himg)]

theorem State.teShareRefused_of_unbound (h : ∀ o, o < 8 → o ≠ p → t.rd o &&& v = 0) (himg : (s.te.ctx.rd p).image = none) :
    s.teShareRefused .rtp t p v = none := by
  rw [State.teShareRefused_of_unheld h, himg]
  rfl

/-! ## What a granted write leaves -/

/-- The die with a parcel's segments replaced, those taken away emptied (01 R24). -/
def State.giveSegs (s : State) (p v : Nat) : State :=
  let s := s.clearSegs ((maskBits 64 (s.te.segments.rd p)).filter (fun g => !bitAt v g))
  { s with te := { s.te with segments := s.te.segments.wr p v } }

@[simp] theorem State.segments_giveSegs : (s.giveSegs p v).te.segments = s.te.segments.wr p v := rfl

theorem State.am_clearSegs (s : State) (segs : List Nat) (i : Nat) :
    (s.clearSegs segs).te.am.rd i = if i / 1024 ∈ segs then default else s.te.am.rd i := by
  refine (Tab.rd_filter_number (fun n => !segs.contains (n / 1024)) s.te.am i).trans ?_
  by_cases hmem : i / 1024 ∈ segs <;> simp [hmem]

/-- An entry goes with a segment that the parcel held and holds no more. -/
theorem State.am_giveSegs {i : Nat} (hi : i < 65536) : (s.giveSegs p v).te.am.rd i =
    if bitAt (s.te.segments.rd p) (i / 1024) = true ∧ bitAt v (i / 1024) = false then default else s.te.am.rd i := by
  have hseg : i / 1024 < 64 := Nat.div_lt_of_lt_mul hi
  have hgone : i / 1024 ∈ (maskBits 64 (s.te.segments.rd p)).filter (fun g => !bitAt v g) ↔
      bitAt (s.te.segments.rd p) (i / 1024) = true ∧ bitAt v (i / 1024) = false := by
    simp [mem_maskBits, hseg]
  exact (s.am_clearSegs _ i).trans (if_congr hgone rfl rfl)

/-- The die with a parcel's node ways replaced (06 R185). -/
def State.giveNodeWays (s : State) (p v : Nat) : State := { s with te := { s.te with nodeWays := s.te.nodeWays.wr p v } }

@[simp] theorem State.nodeWays_giveNodeWays : (s.giveNodeWays p v).te.nodeWays = s.te.nodeWays.wr p v := rfl

section
variable {p : Fin 8} {v : U64} {w : U16}

theorem exec_teSegmentsWrite_refused (h : s.serving) (href : s.teShareRefused by' s.te.segments p v.toNat = some st) :
    exec (.teSegmentsWrite by' p v) s = .next (s.answer st) := by
  change execTeSegmentsWrite by' p v s = _
  rw [execTeSegmentsWrite, State.served_serving h, href]

theorem exec_teSegmentsWrite_granted (h : s.serving) (hgrant : s.teShareRefused by' s.te.segments p v.toNat = none) :
    exec (.teSegmentsWrite by' p v) s = .next ((s.giveSegs p v.toNat).answer .ok) := by
  change execTeSegmentsWrite by' p v s = _
  rw [execTeSegmentsWrite, State.served_serving h, hgrant]
  rfl

theorem exec_teNodeWaysWrite_refused (h : s.serving) (href : s.teShareRefused by' s.te.nodeWays p w.toNat = some st) :
    exec (.teNodeWaysWrite by' p w) s = .next (s.answer st) := by
  change execTeNodeWaysWrite by' p w s = _
  rw [execTeNodeWaysWrite, State.served_serving h, href]

theorem exec_teNodeWaysWrite_granted (h : s.serving) (hgrant : s.teShareRefused by' s.te.nodeWays p w.toNat = none) :
    exec (.teNodeWaysWrite by' p w) s = .next ((s.giveNodeWays p w.toNat).answer .ok) := by
  change execTeNodeWaysWrite by' p w s = _
  rw [execTeNodeWaysWrite, State.served_serving h, hgrant]
  rfl

end

end Machine
end Sys2Proof

open Sys2Proof Sys2Proof.Machine

/-- Settles O10: a write by what refuses it, and a granted one by the share it replaces and the entries that go with it. -/
theorem treeEngineSharesAreExclusive : Obligations.TreeEngineSharesAreExclusive := by
  unfold Obligations.TreeEngineSharesAreExclusive
  refine fun s by' p h => ⟨fun hby v w => ⟨exec_teSegmentsWrite_refused h (State.teShareRefused_of_ne_rtp hby),
      exec_teNodeWaysWrite_refused h (State.teShareRefused_of_ne_rtp hby)⟩,
    fun v hheld => exec_teSegmentsWrite_refused h (State.teShareRefused_of_held hheld),
    fun v hheld => exec_teNodeWaysWrite_refused h (State.teShareRefused_of_held hheld),
    fun v hfree => ⟨fun himg => exec_teSegmentsWrite_refused h (State.teShareRefused_of_bound hfree himg), fun himg =>
      ⟨_, exec_teSegmentsWrite_granted h (State.teShareRefused_of_unbound hfree himg), ?_⟩⟩,
    fun v hfree => ⟨fun himg => exec_teNodeWaysWrite_refused h (State.teShareRefused_of_bound hfree himg), fun himg =>
      ⟨_, exec_teNodeWaysWrite_granted h (State.teShareRefused_of_unbound hfree himg), ?_⟩⟩⟩
  · rw [State.answer_te, State.segments_giveSegs]
    exact ⟨Tab.rd_wr_same .., rfl, fun o hother => Tab.rd_wr_other _ _ hother, fun i hi => State.am_giveSegs hi, rfl⟩
  · rw [State.answer_te, State.nodeWays_giveNodeWays]
    exact ⟨Tab.rd_wr_same .., rfl, fun o hother => Tab.rd_wr_other _ _ hother, rfl⟩

end

section
/-! O11: TREE_LOAD and TREE_RUN as they start, one action of an open run, and the background check (06 R188-R226). -/
namespace Sys2Proof.Machine
open Sys2Proof

/-! ## The head command of a tree queue -/

section
variable {s u : State} {q op p slot : Nat} {c : Cmd}

theorem State.headToStart_eq_some (h : s.headToStart q op = some (p, slot, c)) :
    (∃ cs, (s.queue q).consumed = c :: cs) ∧ s.jobOf q = some (p, slot) ∧ c.started = false := by
  simp only [State.headToStart] at h
  split at h
  · next c' cs p' slot' hc hj =>
    split at h
    · next hmay =>
      cases h
      refine ⟨⟨cs, hc⟩, hj, ?_⟩
      revert hmay
      cases c.started <;> simp
    · cases h
  · cases h

/-- A tree command that starts is handed on where its context has no open run and the engine is not withdrawn. -/
theorem State.teHead_starts (h : s.starts q op p slot c u) (hrun : (s.te.ctx.rd p).run = none) (hin : s.te.withdrawn = false)
    (k : State → Nat → Cmd → State) : s.teHead q op k = k u p c := by
  obtain ⟨c0, v, hhead, -⟩ := id h
  obtain ⟨⟨cs, hconsumed⟩, hjob, hunstarted⟩ := State.headToStart_eq_some hhead
  simp only [State.teHead, hconsumed, hunstarted, hjob, hrun, hin, Bool.false_and, Bool.false_eq_true, Option.isSome_none, Bool.or_self,
    if_false, State.startHead_starts h]

end

/-! ## TREE_LOAD -/

section
variable {s u w : State} {p slot dva bytes : Nat} {q : Fin 1024} {c : Cmd} {exts : List Extent}

theorem Acc.andThen_eq_ok {α β : Type} {x : Acc α} {k : α → State → Acc β} {b : β} (h : x.andThen k = .ok b w) :
    ∃ a v, x = .ok a v ∧ k a v = .ok b w := by
  cases x with
  | ok a v => exact ⟨a, v, rfl, h⟩
  | wait v => cases h
  | remote d a => cases h
  | fail st ca => cases h

theorem State.ctx_updTe_same (s : State) (p : Nat) (f : TeCtx → TeCtx) : (s.updTe p f).te.ctx.rd p = f (s.te.ctx.rd p) :=
  Tab.rd_upd_same ..

theorem State.ctx_updTe_other (s : State) {p o : Nat} (h : o ≠ p) (f : TeCtx → TeCtx) : (s.updTe p f).te.ctx.rd o = s.te.ctx.rd o :=
  Tab.rd_upd_other _ _ h

/-- An image that passes its checks is bound to the context at its DVA (06 R188). -/
theorem State.image_of_bindForest {x : Unit} (h : u.bindForest p dva bytes exts = .ok x w) :
    (w.te.ctx.rd p).image.map TeImage.dva = some dva := by
  obtain ⟨r, v, -, hbound⟩ := Acc.andThen_eq_ok h
  cases hbound
  rw [State.ctx_updTe_same]
  rfl

/-- How a TREE_LOAD ends by what its binding gave (06 R189). -/
def State.settleLoad (u : State) (q serial : Nat) : Acc Unit → State
  | .ok _ w => w.endCmd q serial .ok .none
  | .wait w => w
  | .remote _ _ => u.endCmd q serial .faulted .exec
  | .fail st ca => u.endCmd q serial st ca

theorem exec_treeLoad_starts (h : s.starts q 2 p slot c u) (hrun : (s.te.ctx.rd p).run = none) (hin : s.te.withdrawn = false)
    (hret : u.teRetired = false) (hidle : (u.te.ctx.rd p).run = none) :
    exec (.treeLoad q) s = .next (u.settleLoad q c.serial
      (u.bindForest p (field c.bytes 32 8) (field c.bytes 40 8) (recOf c.record 0))) := by
  change execTreeLoad q s = _
  simp only [execTreeLoad, State.teHead_starts h hrun hin, hret, hidle, Bool.false_eq_true, Option.isSome_none, if_false]
  cases u.bindForest p (field c.bytes 32 8) (field c.bytes 40 8) (recOf c.record 0) <;> rfl

end

/-! ## TREE_RUN -/

section
variable {s u : State} {p slot : Nat} {q : Fin 1024} {c : Cmd} {img : TeImage}

/-- The run that a TREE_RUN opens: its samples, its buffers and its command (06 R217). -/
def Cmd.teRun (c : Cmd) (q : Nat) : TeRun :=
  { queue := q, cmd := c.serial, b := field c.bytes 24 4, ins := field c.bytes 32 8, outs := field c.bytes 40 8, flags := field c.bytes 48 8,
    inExts := recOf c.record 0, outExts := recOf c.record 1, flagExts := recOf c.record 2 }

/-- The input or the output buffer of a TREE_RUN holds fewer bytes than its samples take (06 R217). -/
abbrev Cmd.shortBuffers (c : Cmd) (f : Forest) : Prop :=
  field c.bytes 56 4 < field c.bytes 24 4 * f.sampleStride ∨ field c.bytes 60 4 < field c.bytes 24 4 * f.outBytes

/-- The die with a run open in a parcel's context and its command's item waiting for the samples. -/
def State.openRun (u : State) (p q : Nat) (c : Cmd) : State :=
  (u.updTe p (fun x => { x with run := some (c.teRun q) })).setItem q c.serial 0 .waiting

theorem State.ctx_openRun_same (p q : Nat) : (u.openRun p q c).te.ctx.rd p = { u.te.ctx.rd p with run := some (c.teRun q) } :=
  u.ctx_updTe_same p _

theorem State.ctx_openRun_other {o : Nat} (p q : Nat) (h : o ≠ p) : (u.openRun p q c).te.ctx.rd o = u.te.ctx.rd o :=
  u.ctx_updTe_other h _

variable (h : s.starts q 3 p slot c u) (hrun : (s.te.ctx.rd p).run = none) (hin : s.te.withdrawn = false) (hret : u.teRetired = false)
  (hidle : (u.te.ctx.rd p).run = none)
include h hrun hin hret hidle

theorem exec_treeRun_unbound (himg : (u.te.ctx.rd p).image = none) :
    exec (.treeRun q) s = .next (u.endCmd q c.serial .faulted .exec) := by
  change execTreeRun q s = _
  simp only [execTreeRun, State.teHead_starts h hrun hin, hret, hidle, himg, Bool.false_eq_true, Option.isSome_none, if_false]

/-- Over a bound image the buffers alone decide whether the run opens. -/
theorem exec_treeRun_bound (himg : (u.te.ctx.rd p).image = some img) : exec (.treeRun q) s = .next (
    if c.shortBuffers (forestOf img.hdr) then u.endCmd q c.serial .faulted .exec else u.openRun p q c) := by
  change execTreeRun q s = _
  simp only [execTreeRun, State.teHead_starts h hrun hin, hret, hidle, himg, Bool.false_eq_true, Option.isSome_none, if_false]
  rfl

end

/-! ## The samples of an open run -/

section
variable {s : State} {p : Fin 8} {bad : List (Fin 65536)} {r : TeRun} {img : TeImage}

/-- An action that gives a run its new state ends the run with its last sample (06 R217). -/
theorem State.teSettle_ok (s s' : State) (p : Nat) (r r' : TeRun) : s.teSettle p r (.ok r' s') =
    if r'.done < r'.b then s'.updTe p (fun c => { c with run := some r' }) else s'.teEnd p r' .ok .none := by
  by_cases hmore : r'.done < r'.b
  · rw [if_pos hmore, State.teSettle, if_neg (Nat.not_le.mpr hmore)]
  · rw [if_neg hmore, State.teSettle, if_pos (Nat.not_lt.mp hmore)]

section
variable (hrun : (s.te.ctx.rd p).run = some r) (himg : (s.te.ctx.rd p).image = some img) (hon : s.teRuns = true) (hmore : r.next < r.b)
include hrun himg hon hmore

theorem exec_teSampleAdmit_complete (hmode : (forestOf img.hdr).mode ≠ 0) : exec (.teSampleAdmit p bad) s =
    .next (s.teSettle p r (admitGo p (forestOf img.hdr) img (256 - s.teSlotsUsed) r s)) := by
  change execTeSampleAdmit p bad s = _
  simp only [execTeSampleAdmit, hrun, himg, hon, hmode, Nat.not_le.mpr hmore, Bool.not_true, decide_false, Bool.or_self, Bool.false_eq_true,
    if_false]

/-- A rule-mode sample that is coded, looked up and written counts as taken and done at once (06 R206, R220). -/
theorem exec_teSampleAdmit_rule (hmode : (forestOf img.hdr).mode = 0) {x : TeSample} {y : List Nat × Bool} {s1 s2 s3 : State}
    (hcoded : nextSample p (forestOf img.hdr) img r s = .ok x s1)
    (hlooked : lookups p (forestOf img.hdr) img x.codes (List.range (forestOf img.hdr).groups) (bad.map (·.val)) x.sums false s1 = .ok y s2)
    (hwritten : writeSample p (forestOf img.hdr) r x.n y.1 (x.flags + (if y.2 then 4 else 0)) s2 = .ok () s3) :
    exec (.teSampleAdmit p bad) s = .next (s.teSettle p r (.ok { r with next := r.next + 1, done := r.done + 1 } s3)) := by
  change execTeSampleAdmit p bad s = _
  simp only [execTeSampleAdmit, hrun, himg, hon, hmode, Nat.not_le.mpr hmore, Bool.not_true, decide_false, Bool.or_self, Bool.false_eq_true,
    if_false, if_true, hcoded, hlooked, hwritten, Acc.andThen]

end

theorem exec_teNodeReturn_walks {k : Fin 256} {x : TeSample} (hrun : (s.te.ctx.rd p).run = some r)
    (himg : (s.te.ctx.rd p).image = some img) (hslot : r.slots[k.val]? = some x) (hon : x.node = 0 → s.teRuns = true) :
    exec (.teNodeReturn p k) s = .next (s.teSettle p r (walkSample p (forestOf img.hdr) img r x s)) := by
  have hgoes : ¬(x.node = 0 ∧ s.teRuns = false) := fun ⟨hroot, hoff⟩ => Bool.false_ne_true (hoff.symm.trans (hon hroot))
  change execTeNodeReturn p k s = _
  simp only [execTeNodeReturn, hrun, himg, hslot, if_neg hgoes]

end

/-! ## The background check -/

/-- An entry that fails is rewritten from the image of the parcel that holds its segment, and the check goes on (06 R226). -/
theorem exec_teBackgroundCheck_cons {s u : State} {i : Fin 65536} {bad : List (Fin 65536)} {p : Nat} {img : TeImage}
    (hp : (List.range 8).find? (fun p => bitAt (s.te.segments.rd p) (i.val / 1024)) = some p) (himg : (s.te.ctx.rd p).image = some img)
    (hu : s.amRewrite p (forestOf img.hdr) img i = .ok () u) :
    exec (.teBackgroundCheck (i :: bad)) s = exec (.teBackgroundCheck bad) u := by
  change execTeBackgroundCheck (i :: bad) s = execTeBackgroundCheck bad u
  simp only [execTeBackgroundCheck, List.foldl_cons, hp, himg, hu]

end Sys2Proof.Machine

open Sys2Proof Sys2Proof.Machine

/-- Settles O11: a load by how its binding ends, a run by its context's new entry, an action of a run by what it settles. -/
theorem forestsLoadRunAndAreChecked : Obligations.ForestsLoadRunAndAreChecked := by
  unfold Obligations.ForestsLoadRunAndAreChecked
  refine ⟨fun s u q p slot c h hrun hin hret hidle => ⟨_, exec_treeLoad_starts h hrun hin hret hidle, ?_⟩,
    fun s u q p slot c h hrun hin hret hidle => ⟨exec_treeRun_unbound h hrun hin hret hidle,
      fun img himg hshort => (exec_treeRun_bound h hrun hin hret hidle himg).trans (congrArg _ (if_pos hshort)), fun img himg hins houts => ?_⟩,
    fun s p bad r img hrun himg hon hmore => ⟨exec_teSampleAdmit_complete hrun himg hon hmore,
      fun hmode x s1 y s2 s3 hcoded hlooked hwritten => ?_⟩,
    fun s p k r img x => exec_teNodeReturn_walks, fun s => rfl, fun s u i bad p img => exec_teBackgroundCheck_cons⟩
  · cases hbind : u.bindForest p (field c.bytes 32 8) (field c.bytes 40 8) (recOf c.record 0) with
    | ok x w => exact ⟨rfl, State.image_of_bindForest hbind⟩
    | wait w => rfl
    | remote d a => rfl
    | fail st ca => rfl
  · have hfits : ¬c.shortBuffers (forestOf img.hdr) := not_or.mpr ⟨Nat.not_lt.mpr hins, Nat.not_lt.mpr houts⟩
    refine ⟨_, c.teRun q, (exec_treeRun_bound h hrun hin hret hidle himg).trans (congrArg _ (if_neg hfits)), ?_⟩
    rw [State.ctx_openRun_same]
    exact ⟨rfl, rfl, rfl, rfl, rfl, rfl, rfl, rfl, rfl, himg, fun o hother => State.ctx_openRun_other p q hother, rfl⟩
  · rw [exec_teSampleAdmit_rule hrun himg hon hmore hmode hcoded hlooked hwritten, State.teSettle_ok]

end

section
/-! The directory's lines: their records after an update, and what the directory's work leaves of the die (07 R249-R258; 10 R397). -/
namespace Sys2Proof.Machine
open Sys2Proof

/-! ## Reads after updates -/

theorem State.dirLine_updLine (s : State) (l m : Nat) (f : DirLine → DirLine) :
    (s.updLine l f).dirLine m = if m = l then f (s.dirLine l) else s.dirLine m := Tab.rd_upd ..

@[simp] theorem State.dirLine_updLine_same (s : State) (l : Nat) (f : DirLine → DirLine) : (s.updLine l f).dirLine l = f (s.dirLine l) := by
  rw [State.dirLine_updLine, if_pos rfl]

theorem State.dirLine_updLine_other (s : State) {l m : Nat} (h : m ≠ l) (f : DirLine → DirLine) : (s.updLine l f).dirLine m = s.dirLine m := by
  rw [State.dirLine_updLine, if_neg h]

@[simp] theorem State.dirLine_send (s : State) (x : Sent) (l : Nat) : (s.send x).dirLine l = s.dirLine l := rfl

/-- A line that passes through the Device Cache changes the cache and its replacement state alone (07 R235). -/
theorem State.dcTouch_only (s : State) (w : Who) (pa dva : Nat) (write alloc : Bool) :
    ∃ dc plru, s.dcTouch w pa dva write alloc = { s with mem := { s.mem with dc := dc, plru := plru } } := by
  unfold State.dcTouch
  dsimp only
  (repeat' split) <;> exact ⟨_, _, rfl⟩

/-! ## Snoops and grants -/

/-- A snoop sent to each of some agents. -/
def State.snoopAll (s : State) (wait : List Agent) (inval : Bool) (l : Nat) : State :=
  wait.foldl (fun s x => s.send (.snoop x inval l)) s

theorem State.snoopAll_eq (s : State) (wait : List Agent) (inval : Bool) (l : Nat) :
    s.snoopAll wait inval l = { s with sent := (wait.map (.snoop · inval l)).reverse ++ s.sent } := by
  unfold State.snoopAll
  induction wait generalizing s with
  | nil => rfl
  | cons a wait ih => rw [List.foldl_cons, ih]; simp [State.send]

/-- The bytes a grant carries: the line, but none for an UPG (07 R257). -/
def State.grantData (s : State) (l : Nat) (rq : DirReq) : List Byte := if rq = .upg then [] else memRead s.mem.loc (l * 128) 128

/-- A line's record as its grant goes out. -/
def DirLine.granted (d : DirLine) : DirLine := { d with txn := d.txn.map (fun t => { t with granted := true, awaiting := [] }) }

/-- A grant is sent, and the line's transaction awaits its acknowledgement (07 R253). -/
theorem State.sendGrant_only (s : State) (l : Nat) (rq : DirReq) (a : Agent) : ∃ u dc plru,
    u = { s with sent := .grant a rq l (s.grantData l rq) (s.mem.badLoc.contains l) :: s.sent, mem := { s.mem with dc := dc, plru := plru } } ∧
    s.sendGrant l rq a = u.updLine l DirLine.granted := by
  obtain ⟨dc, plru, h⟩ := s.dcTouch_only .host (l * 128) 0 false true
  refine ⟨_, dc, plru, rfl, ?_⟩
  unfold State.sendGrant State.grantData
  rw [h]
  cases rq <;> rfl

/-- What a request is served as: an UPG of an agent that holds the line no more is an RD_O (07 R257). -/
def LineState.effective (st : LineState) (rq : DirReq) (a : Agent) : DirReq :=
  match rq with
  | .upg => if st.holders.contains a then .upg else .rdO
  | rq => rq

theorem LineState.effective_eq (st : LineState) (rq : DirReq) (a : Agent) :
    st.effective rq a = if rq = .upg ∧ a ∉ st.holders then .rdO else rq := by
  unfold LineState.effective
  cases rq <;> simp

theorem LineState.effective_eq_rdS {st : LineState} {rq : DirReq} {a : Agent} : st.effective rq a = .rdS ↔ rq = .rdS := by
  rw [LineState.effective_eq]
  split
  · next h => simp [h.1]
  · rfl

/-- The host agents in the way of what a request is served as: another owner of a line to share, every other holder of one to own (07 R258). -/
def LineState.inWay (st : LineState) (rq : DirReq) (a : Agent) : List Agent :=
  hostAgents (match rq with
    | .rdS => match st with
      | .owned h => if Agent.host h = a then [] else [.host h]
      | _ => []
    | _ => st.holders.filter (· ≠ a))

/-- What a line keeps of its holders as a request's snoops go out: the device's own caches answer at once (07 R258). -/
def LineState.kept (st : LineState) (rq : DirReq) (a : Agent) : LineState :=
  match rq, st with
  | .rdS, st => st
  | _, .owned h => .owned h
  | _, .shared hs => .shared (hs.filter (fun x => (hostAgents [x]) ≠ [] || x = a))
  | _, .uncached => .uncached

theorem LineState.kept_holders (st : LineState) (rq : DirReq) (a : Agent) : (st.kept rq a).holders ⊆ st.holders := by
  cases st with
  | uncached | owned h => cases rq <;> exact fun _ => id
  | shared hs =>
    cases rq with
    | rdS => exact fun _ => id
    | rdO | upg | homeWrite | homeRead | backInval => exact List.filter_sublist.subset

/-- A line's record as its transaction begins. -/
def DirLine.begun (d : DirLine) (st : LineState) (rq : DirReq) (a : Agent) : DirLine :=
  { d with st := st.kept (st.effective rq a) a
           txn := some { req := st.effective rq a, agent := some a, asked := rq, awaiting := st.inWay (st.effective rq a) a } }

/-- The die as a transaction's snoops have gone out. -/
def State.snoopFor (s : State) (l : Nat) (rq : DirReq) (a : Agent) : State :=
  let st := (s.dirLine l).st
  (s.updLine l (fun d => d.begun st rq a)).snoopAll (st.inWay (st.effective rq a) a) (decide (rq ≠ .rdS)) l

/-- A transaction begins: what is in its way is snooped, and with nothing in its way it is granted (07 R257, R258). -/
theorem State.beginTxn_eq (s : State) (l : Nat) (rq : DirReq) (a : Agent) : s.beginTxn l rq a =
    if (s.dirLine l).st.inWay ((s.dirLine l).st.effective rq a) a = [] then (s.snoopFor l rq a).sendGrant l ((s.dirLine l).st.effective rq a) a
    else s.snoopFor l rq a := by
  have hinval (rq : DirReq) : (match rq with | .rdS => false | _ => true) = decide (rq ≠ .rdS) := by cases rq <;> rfl
  have hrq : decide (rq ≠ .rdS) = decide ((s.dirLine l).st.effective rq a ≠ .rdS) :=
    decide_eq_decide.mpr (not_congr LineState.effective_eq_rdS.symm)
  refine Eq.trans ?_ (if_congr List.isEmpty_iff rfl rfl)
  rw [State.snoopFor, hrq, ← hinval]
  rfl

/-! ## What the directory's work leaves -/

/-- State `t` is `s` after some of the directory's work: messages have gone out, holders have at most been given up, and only the directory,
the Device Cache and the count of free choices have moved besides. -/
structure DirServed (s t : State) : Prop where
  frame : t = { s with sent := t.sent, freeCtr := t.freeCtr
                       mem := { s.mem with dir := t.mem.dir, dc := t.mem.dc, plru := t.mem.plru } }
  sent : s.sent ⊆ t.sent
  holders : ∀ l, (t.dirLine l).st.holders ⊆ (s.dirLine l).st.holders

section
variable {s t u : State} {l : Nat} {a : Agent}

theorem DirServed.refl (s : State) : DirServed s s := ⟨rfl, fun _ => id, fun _ _ => id⟩

theorem DirServed.trans (h : DirServed s t) (h' : DirServed t u) : DirServed s u where
  frame := h'.frame.trans (by rw [h.frame])
  sent := List.Subset.trans h.sent h'.sent
  holders l := List.Subset.trans (h'.holders l) (h.holders l)

theorem DirServed.loc (h : DirServed s t) : t.mem.loc = s.mem.loc := by rw [h.frame]

theorem DirServed.foldl {γ : Type} {g : State → γ → State} (h : ∀ s a, DirServed s (g s a)) (xs : List γ) (s : State) :
    DirServed s (xs.foldl g s) := by
  induction xs generalizing s with
  | nil => exact .refl s
  | cons a xs ih => exact (h s a).trans (ih _)

theorem State.send_dirServed (x : Sent) : DirServed s (s.send x) := ⟨rfl, List.subset_cons_self .., fun _ _ => id⟩
theorem State.bump_dirServed : DirServed s s.bump := ⟨rfl, fun _ => id, fun _ _ => id⟩

/-- A line's record may change as it will, so long as it names no new holder. -/
theorem State.updLine_dirServed {f : DirLine → DirLine} (hf : (f (s.dirLine l)).st.holders ⊆ (s.dirLine l).st.holders) :
    DirServed s (s.updLine l f) where
  frame := rfl
  sent _ := id
  holders m := by
    rw [State.dirLine_updLine]
    split
    · next h => exact h ▸ hf
    · exact fun _ => id

theorem State.snoopAll_dirServed (wait : List Agent) (inval : Bool) : DirServed s (s.snoopAll wait inval l) :=
  .foldl (fun _ _ => State.send_dirServed _) wait s

theorem State.sendGrant_dirServed (rq : DirReq) : DirServed s (s.sendGrant l rq a) := by
  obtain ⟨u, dc, plru, hu, h⟩ := s.sendGrant_only l rq a
  have hsent : DirServed s u := hu ▸ ⟨rfl, List.subset_cons_self .., fun _ _ => id⟩
  rw [h]
  exact hsent.trans (State.updLine_dirServed fun _ => id)

theorem State.beginTxn_dirServed (rq : DirReq) : DirServed s (s.beginTxn l rq a) := by
  have hsnoop : DirServed s (s.snoopFor l rq a) := (State.updLine_dirServed (LineState.kept_holders ..)).trans (State.snoopAll_dirServed ..)
  rw [State.beginTxn_eq]
  split
  · exact hsnoop.trans (State.sendGrant_dirServed _)
  · exact hsnoop

theorem State.backInval_dirServed : DirServed s (s.backInval l) := by
  unfold State.backInval
  dsimp only
  split
  · exact State.updLine_dirServed (List.nil_subset _)
  · exact (State.snoopAll_dirServed _ true).trans (State.updLine_dirServed fun _ => id)

theorem State.pumpLine_dirServed : DirServed s (s.pumpLine l) := by
  unfold State.pumpLine
  dsimp only
  split
  · next rq a rest _ _ =>
    have hbegin (v : State) : DirServed v ((v.updLine l (fun d => { d with queue := rest })).beginTxn l rq a) :=
      (State.updLine_dirServed fun _ => id).trans (State.beginTxn_dirServed rq)
    split
    · split
      · exact .refl s
      · next v _ =>
        have hfree : DirServed s (s.bump.backInval v) := State.bump_dirServed.trans State.backInval_dirServed
        split
        · exact hfree.trans (hbegin _)
        · exact hfree
    · exact hbegin s
  · exact .refl s

theorem State.endTxn_dirServed : DirServed s (s.endTxn l) := by
  have hnext : DirServed s ((s.updLine l (fun d => { d with txn := none })).pumpLine l) :=
    (State.updLine_dirServed fun _ => id).trans State.pumpLine_dirServed
  unfold State.endTxn
  dsimp only
  split
  · exact hnext.trans State.pumpLine_dirServed
  · exact hnext

/-- A line whose owner keeps a shared copy. -/
def LineState.downgraded : LineState → LineState
  | .owned h => .shared [.host h]
  | st => st

theorem LineState.downgraded_holders (st : LineState) : st.downgraded.holders ⊆ st.holders := by cases st <;> exact fun _ => id

theorem State.snoopDone_dirServed : DirServed s (s.snoopDone a l) := by
  have hst {v : State} {st : LineState} (hsub : st.holders ⊆ (v.dirLine l).st.holders) : DirServed v (v.updLine l (fun d => { d with st := st })) :=
    State.updLine_dirServed hsub
  unfold State.snoopDone
  split
  · exact .refl s
  · next x hx =>
    have htake : DirServed s (s.updLine l (fun d => { d with txn := some { x with awaiting := x.awaiting.erase a } })) :=
      State.updLine_dirServed fun _ => id
    refine htake.trans ?_
    dsimp only
    split
    · exact .refl _
    · split
      · exact (State.updLine_dirServed (List.nil_subset _)).trans State.endTxn_dirServed
      · exact (State.updLine_dirServed (List.nil_subset _)).trans State.endTxn_dirServed
      · exact (State.updLine_dirServed (LineState.downgraded_holders _)).trans State.endTxn_dirServed
      · exact (State.updLine_dirServed (LineState.downgraded_holders _)).trans (State.sendGrant_dirServed _)
      · refine DirServed.trans (State.updLine_dirServed ?_) (State.sendGrant_dirServed _)
        dsimp only
        split
        · next hb => simpa [LineState.holders] using hb
        · exact List.nil_subset _
      · exact .refl _

end

end Sys2Proof.Machine
end

section
/-! O19: requests of host agents, what takes a line back from its owner, answers to snoops and acknowledged grants (07 R249-R259). -/
namespace Sys2Proof.Machine
open Sys2Proof

/-! ## Transactions -/

section
variable {s : State} {l m : Nat} {rq : DirReq} {a b : Agent} {x : DirTxn}

theorem State.dirLine_sendGrant (s : State) (l m : Nat) (rq : DirReq) (a : Agent) :
    (s.sendGrant l rq a).dirLine m = if m = l then (s.dirLine l).granted else s.dirLine m := by
  obtain ⟨u, dc, plru, rfl, h⟩ := s.sendGrant_only l rq a
  rw [h, State.dirLine_updLine]
  rfl

theorem State.sent_sendGrant (s : State) (l : Nat) (rq : DirReq) (a : Agent) :
    (s.sendGrant l rq a).sent = .grant a rq l (s.grantData l rq) (s.mem.badLoc.contains l) :: s.sent := by
  obtain ⟨u, dc, plru, rfl, h⟩ := s.sendGrant_only l rq a
  rw [h]
  rfl

theorem State.sendGrant_frame (s : State) (l : Nat) (rq : DirReq) (a : Agent) :
    s.sendGrant l rq a = { s with mem := (s.sendGrant l rq a).mem, sent := (s.sendGrant l rq a).sent } := by
  obtain ⟨u, dc, plru, rfl, h⟩ := s.sendGrant_only l rq a
  rw [h]
  rfl

theorem State.snoopFor_eq (s : State) (l : Nat) (rq : DirReq) (a : Agent) : s.snoopFor l rq a =
    let wait := (s.dirLine l).st.inWay ((s.dirLine l).st.effective rq a) a
    State.updLine { s with sent := (wait.map (.snoop · (decide (rq ≠ .rdS)) l)).reverse ++ s.sent } l (fun d => d.begun (s.dirLine l).st rq a) := by
  rw [State.snoopFor, State.snoopAll_eq]
  rfl

/-- A transaction that begins is its line's, and granted where nothing was in its way (07 R253). -/
theorem State.dirLine_beginTxn (s : State) (l m : Nat) (rq : DirReq) (a : Agent) : (s.beginTxn l rq a).dirLine m =
    if m = l then
      (if (s.dirLine l).st.inWay ((s.dirLine l).st.effective rq a) a = [] then ((s.dirLine l).begun (s.dirLine l).st rq a).granted
       else (s.dirLine l).begun (s.dirLine l).st rq a)
    else s.dirLine m := by
  have hline (k : Nat) : (s.snoopFor l rq a).dirLine k = if k = l then (s.dirLine l).begun (s.dirLine l).st rq a else s.dirLine k := by
    rw [State.snoopFor_eq, State.dirLine_updLine]
    rfl
  rw [State.beginTxn_eq]
  split
  · rw [State.dirLine_sendGrant, hline, hline, if_pos rfl]
    split <;> rfl
  · exact hline m

theorem State.sent_beginTxn_granted (h : (s.dirLine l).st.inWay ((s.dirLine l).st.effective rq a) a = []) :
    (s.beginTxn l rq a).sent = .grant a ((s.dirLine l).st.effective rq a) l (s.grantData l ((s.dirLine l).st.effective rq a))
      (s.mem.badLoc.contains l) :: s.sent := by
  rw [State.beginTxn_eq, if_pos h, State.sent_sendGrant, State.snoopFor_eq, h]
  rfl

theorem State.sent_beginTxn_snoops (h : (s.dirLine l).st.inWay ((s.dirLine l).st.effective rq a) a ≠ []) :
    (s.beginTxn l rq a).sent =
      (((s.dirLine l).st.inWay ((s.dirLine l).st.effective rq a) a).map (.snoop · (decide (rq ≠ .rdS)) l)).reverse ++ s.sent := by
  rw [State.beginTxn_eq, if_neg h, State.snoopFor_eq]
  rfl

theorem State.beginTxn_frame (s : State) (l : Nat) (rq : DirReq) (a : Agent) :
    s.beginTxn l rq a = { s with mem := (s.beginTxn l rq a).mem, sent := (s.beginTxn l rq a).sent } := by
  rw [State.beginTxn_eq, State.snoopFor_eq]
  split
  · exact State.sendGrant_frame ..
  · rfl

/-! ## Serving a line -/

theorem State.pumpLine_of_txn (h : (s.dirLine l).txn ≠ none) : s.pumpLine l = s := by
  unfold State.pumpLine
  dsimp only
  split
  · next hnone _ => exact absurd hnone h
  · rfl

theorem State.pumpLine_of_no_request (h : (s.dirLine l).queue = []) : s.pumpLine l = s := by
  unfold State.pumpLine
  dsimp only
  split
  · next hq => exact nomatch h.symm.trans hq
  · rfl

theorem State.pumpLine_of_request {rest : List (DirReq × Agent)} (htxn : (s.dirLine l).txn = none) (hq : (s.dirLine l).queue = (rq, a) :: rest)
    (hst : (s.dirLine l).st ≠ .uncached) : s.pumpLine l = (s.updLine l (fun d => { d with queue := rest })).beginTxn l rq a := by
  unfold State.pumpLine
  simp only [htxn, hq, hst, false_and, if_false]

/-- Where no request waits, the end of a transaction serves none (07 R253). -/
theorem State.endTxn_of_no_request (h : ∀ m, (s.dirLine m).queue = []) : s.endTxn l = s.updLine l (fun d => { d with txn := none }) := by
  have hq (m : Nat) : ((s.updLine l (fun d => { d with txn := none })).dirLine m).queue = [] := by
    rw [State.dirLine_updLine]
    split
    · exact h l
    · exact h m
  unfold State.endTxn
  dsimp only
  rw [State.pumpLine_of_no_request (hq l)]
  split
  · exact State.pumpLine_of_no_request (hq _)
  · rfl

/-! ## Requests -/

/-- A request behind a transaction in service waits in its line's queue (07 R253). -/
theorem State.request_of_txn (h : (s.dirLine l).txn ≠ none) :
    s.request l rq a = s.updLine l (fun d => { d with queue := d.queue ++ [(rq, a)] }) :=
  State.pumpLine_of_txn (by simpa using h)

/-- The die with a request taken from its line's queue again as it is served. -/
def State.popped (s : State) (l : Nat) (rq : DirReq) (a : Agent) : State :=
  (s.updLine l (fun d => { d with queue := d.queue ++ [(rq, a)] })).updLine l (fun d => { d with queue := [] })

/-- A request that a listed line has to itself is served at once (07 R253). -/
theorem State.request_of_idle (htxn : (s.dirLine l).txn = none) (hq : (s.dirLine l).queue = []) (hst : (s.dirLine l).st ≠ .uncached) :
    s.request l rq a = (s.popped l rq a).beginTxn l rq a :=
  State.pumpLine_of_request (by simpa using htxn) (by simp [hq]) (by simpa using hst)

theorem State.dirLine_popped (hq : (s.dirLine l).queue = []) (m : Nat) : (s.popped l rq a).dirLine m = s.dirLine m := by
  rw [State.popped, State.dirLine_updLine, State.dirLine_updLine_same, State.dirLine_updLine]
  split
  · next h => rw [h, ← hq]
  · rfl

section
variable (htxn : (s.dirLine l).txn = none) (hq : (s.dirLine l).queue = []) (hst : (s.dirLine l).st ≠ .uncached)
include htxn hq hst

theorem State.dirLine_request_of_idle : (s.request l rq a).dirLine l =
    let st := (s.dirLine l).st
    let wait := st.inWay (st.effective rq a) a
    { st := st.kept (st.effective rq a) a
      txn := some { req := st.effective rq a, agent := some a, asked := rq, awaiting := wait, granted := wait.isEmpty } } := by
  rw [State.request_of_idle htxn hq hst, State.dirLine_beginTxn, if_pos rfl, State.dirLine_popped hq]
  dsimp only
  split
  · next hnone => simp [DirLine.granted, DirLine.begun, hnone, hq]
  · next hsome => simp [DirLine.begun, hq, List.isEmpty_eq_false_iff.mpr hsome]

theorem State.dirLine_request_of_idle_other (hm : m ≠ l) : (s.request l rq a).dirLine m = s.dirLine m := by
  rw [State.request_of_idle htxn hq hst, State.dirLine_beginTxn, if_neg hm, State.dirLine_popped hq]

theorem State.request_of_idle_frame : s.request l rq a = { s with mem := (s.request l rq a).mem, sent := (s.request l rq a).sent } := by
  rw [State.request_of_idle htxn hq hst, State.beginTxn_frame]
  rfl

theorem State.sent_request_granted (hnone : (s.dirLine l).st.inWay ((s.dirLine l).st.effective rq a) a = []) :
    (s.request l rq a).sent = .grant a ((s.dirLine l).st.effective rq a) l (s.grantData l ((s.dirLine l).st.effective rq a))
      (s.mem.badLoc.contains l) :: s.sent := by
  have hline := State.dirLine_popped (rq := rq) (a := a) hq l
  rw [State.request_of_idle htxn hq hst, State.sent_beginTxn_granted (hline ▸ hnone), hline]
  rfl

theorem State.sent_request_snoops (hsome : (s.dirLine l).st.inWay ((s.dirLine l).st.effective rq a) a ≠ []) : (s.request l rq a).sent =
    (((s.dirLine l).st.inWay ((s.dirLine l).st.effective rq a) a).map (.snoop · (decide (rq ≠ .rdS)) l)).reverse ++ s.sent := by
  have hline := State.dirLine_popped (rq := rq) (a := a) hq l
  rw [State.request_of_idle htxn hq hst, State.sent_beginTxn_snoops (hline ▸ hsome), hline]
  rfl

end

end

theorem State.request_dirServed {s : State} {l : Nat} {rq : DirReq} {a : Agent} : DirServed s (s.request l rq a) :=
  (State.updLine_dirServed fun _ => id).trans State.pumpLine_dirServed

theorem LineState.inWay_of_ne {st : LineState} {rq : DirReq} {a : Agent} (h : rq ≠ .rdS) :
    st.inWay rq a = hostAgents (st.holders.filter (· ≠ a)) := by
  cases rq with
  | rdS => exact absurd rfl h
  | _ => rfl

theorem LineState.inWay_rdS_owned (o h : Nat) : (LineState.owned o).inWay .rdS (.host h) = if o = h then [] else [.host o] := by
  unfold LineState.inWay
  by_cases heq : o = h <;> simp [heq, hostAgents]

/-- What a host agent's request for a line comes to (07 R245, R246, R249). -/
theorem agentRequest_cases (s : State) (l : Nat) (k : State → State) :
    (s.straps.hostLink = false → agentRequest s l k = s) ∧
    (s.straps.hostLink = true → s.paReaches (l * 128) 128 = false → agentRequest s l k = s.answer .faulted) ∧
    (s.straps.hostLink = true → s.paReaches (l * 128) 128 = true → s.paAllowed .host (l * 128) 128 = false →
      agentRequest s l k = s.answer .denied) ∧
    (s.straps.hostLink = true → s.paReaches (l * 128) 128 = true → s.paAllowed .host (l * 128) 128 = true → agentRequest s l k = k s) := by
  unfold agentRequest
  exact ⟨fun h => by simp [h], fun h h' => by simp [h, h'], fun h h' h'' => by simp [h, h', h''], fun h h' h'' => by simp [h, h', h'']⟩

theorem exec_request {c : Instr} {rq : DirReq} {h : Fin 16} {l : Nat}
    (hc : (c, rq) ∈ [(Instr.rdS h l, DirReq.rdS), (.rdO h l, .rdO), (.upg h l, .upg)]) (s : State) :
    exec c s = .next (agentRequest s l (·.request l rq (.host h))) := by
  simp only [List.mem_cons, List.not_mem_nil, or_false, Prod.mk.injEq] at hc
  obtain ⟨rfl, rfl⟩ | ⟨rfl, rfl⟩ | ⟨rfl, rfl⟩ := hc <;> rfl

/-! ## Lines given back -/

section
variable {s : State} {l : Nat} {data : List Byte}

/-- A whole line of data is taken at its home (07 R254, R836). -/
theorem State.takeLine_only (s : State) (l : Nat) (hlen : data.length = 128) : ∃ dc plru, s.takeLine l data =
    { s with mem := { s.mem with dc := dc, plru := plru, loc := memWrite s.mem.loc (l * 128) data, badLoc := s.mem.badLoc.filter (· ≠ l) } } := by
  obtain ⟨dc, plru, h⟩ := s.dcTouch_only .host (l * 128) 0 true true
  have hpad : padTo 128 data = data := by rw [padTo, ← hlen, List.take_left]
  refine ⟨dc, plru, ?_⟩
  unfold State.takeLine
  rw [h, hpad]

theorem State.dirLine_takeLine (hlen : data.length = 128) (m : Nat) : (s.takeLine l data).dirLine m = s.dirLine m := by
  obtain ⟨dc, plru, h⟩ := s.takeLine_only l hlen
  rw [h]
  rfl

theorem State.sent_takeLine (hlen : data.length = 128) : (s.takeLine l data).sent = s.sent := by
  obtain ⟨dc, plru, h⟩ := s.takeLine_only l hlen
  rw [h]

theorem State.loc_takeLine (hlen : data.length = 128) : (s.takeLine l data).mem.loc = memWrite s.mem.loc (l * 128) data := by
  obtain ⟨dc, plru, h⟩ := s.takeLine_only l hlen
  rw [h]

theorem State.fresh_takeLine (hlen : data.length = 128) : (s.takeLine l data).mem.badLoc.contains l = false := by
  obtain ⟨dc, plru, h⟩ := s.takeLine_only l hlen
  rw [h]
  simp

/-- The line holds the data that came, and every other byte stands. -/
theorem State.bytes_takeLine (hlen : data.length = 128) : memRead (s.takeLine l data).mem.loc (l * 128) 128 = data ∧
    ∀ a, a < l * 128 ∨ l * 128 + 128 ≤ a → (s.takeLine l data).mem.loc.rd a = s.mem.loc.rd a := by
  have hread := memRead_memWrite s.mem.loc (l * 128) data
  rw [hlen] at hread
  rw [State.loc_takeLine hlen]
  exact ⟨hread, fun a ha => memWrite_rd_outside _ _ _ _ (hlen.symm ▸ ha)⟩

variable (s l)

/-- An owner's line given up, its WB_DONE sent (07 R254). -/
def State.released (h : Nat) : State := (s.updLine l (fun d => { d with st := .uncached })).send (.wbDone (.host h) l)

theorem State.loc_giveUp (h : Nat) : (s.giveUp h l).mem.loc = s.mem.loc := (s.released l h).pumpLine_dirServed.loc

theorem State.wbDone_giveUp (h : Nat) : .wbDone (.host h) l ∈ (s.giveUp h l).sent := State.pumpLine_dirServed.sent List.mem_cons_self

theorem State.giveUp_of_no_request (h : Nat) (hq : (s.dirLine l).queue = []) : s.giveUp h l = s.released l h :=
  State.pumpLine_of_no_request (by simpa [State.released] using hq)

theorem State.st_released (h : Nat) : ((s.released l h).dirLine l).st = .uncached := by simp [State.released]

end

section
variable {s : State} {h : Fin 16} {l : Nat} {data : List Byte}

theorem exec_wb_or_evict_other (hown : (s.dirLine l).st ≠ .owned h) : exec (.wb h l data) s = .next s ∧ exec (.evict h l) s = .next s := by
  refine ⟨congrArg Host.Outcome.next (if_neg ?_), congrArg Host.Outcome.next (if_neg ?_)⟩ <;> simp [hown]

theorem exec_wb_owner (hlink : s.straps.hostLink = true) (hown : (s.dirLine l).st = .owned h) :
    exec (.wb h l data) s = .next ((s.takeLine l data).giveUp h l) := congrArg Host.Outcome.next (if_pos (by simp [hlink, hown]))

theorem exec_evict_owner (hlink : s.straps.hostLink = true) (hown : (s.dirLine l).st = .owned h) :
    exec (.evict h l) s = .next (s.giveUp h l) := congrArg Host.Outcome.next (if_pos (by simp [hlink, hown]))

end

/-! ## Answers to snoops -/

section
variable {s : State} {h : Fin 16} {l : Nat} {a b : Agent} {x : DirTxn} {data : List Byte}

/-- The die with an agent taken off those a transaction awaits. -/
def State.answered (s : State) (l : Nat) (x : DirTxn) (a : Agent) : State :=
  s.updLine l (fun d => { d with txn := some { x with awaiting := x.awaiting.erase a } })

/-- While other answers are outstanding an answer is noted and nothing else happens (07 R253). -/
theorem State.snoopDone_of_more (hx : (s.dirLine l).txn = some x) (hmore : x.awaiting.erase a ≠ []) : s.snoopDone a l = s.answered l x a := by
  unfold State.snoopDone
  simp only [hx, List.isEmpty_eq_false_iff.mpr hmore]
  rfl

/-- After the last answer a shared read is granted, the owner keeping a shared copy (07 R258). -/
theorem State.snoopDone_of_last_rdS (hx : (s.dirLine l).txn = some x) (hlast : x.awaiting.erase a = []) (hreq : x.req = .rdS)
    (hb : x.agent = some b) : s.snoopDone a l = ((s.answered l x a).updLine l (fun d => { d with st := d.st.downgraded })).sendGrant l .rdS b := by
  unfold State.snoopDone
  simp only [hx, hlast, hreq, hb]
  rw [State.answered, hlast, hreq, hb]
  rfl

theorem State.snooped_eq_true (hx : (s.dirLine l).txn = some x) (ha : .host h ∈ x.awaiting) : s.snooped h l = true := by
  unfold State.snooped
  simpa only [hx, List.contains_iff_mem] using ha

theorem exec_ack_unawaited (hs : s.snooped h l = false) : exec (.ack h l) s = .next s ∧ exec (.ackD h l data) s = .next s :=
  ⟨congrArg Host.Outcome.next (if_neg (by simp [hs])), congrArg Host.Outcome.next (if_neg (by simp [hs]))⟩

theorem exec_ack_awaited (hs : s.snooped h l = true) :
    exec (.ack h l) s = .next (s.snoopDone (.host h) l) ∧ exec (.ackD h l data) s = .next ((s.takeLine l data).snoopDone (.host h) l) :=
  ⟨congrArg Host.Outcome.next (if_pos hs), congrArg Host.Outcome.next (if_pos hs)⟩

/-! ## Acknowledged grants and slow snoops -/

/-- A line's holders once the agent has acknowledged what it was granted (07 R253). -/
def LineState.held (st : LineState) (rq : DirReq) (h : Nat) : LineState :=
  match rq with
  | .rdS => match st with
    | .shared hs => .shared (hs.filter (· ≠ .host h) ++ [.host h])
    | _ => .shared [.host h]
  | _ => .owned h

theorem LineState.held_of_ne {st : LineState} {rq : DirReq} {n : Nat} (hrq : rq ≠ .rdS) : st.held rq n = .owned n := by
  cases rq with
  | rdS => exact absurd rfl hrq
  | _ => rfl

theorem exec_gntAck_other (hno : ∀ x, (s.dirLine l).txn = some x → x.granted = false ∨ x.agent ≠ some (.host h)) :
    exec (.gntAck h l) s = .next s := by
  change execGntAck h l s = _
  unfold execGntAck
  split
  · next x hx =>
    have hcond : ¬(x.granted && x.agent == some (.host h)) = true := by
      rw [Bool.and_eq_true, beq_iff_eq]
      exact fun ⟨hg, ha⟩ => (hno x hx).elim (fun hg' => Bool.false_ne_true (hg'.symm.trans hg)) (· ha)
    rw [if_neg hcond]
  · rfl

theorem exec_gntAck_granted (hx : (s.dirLine l).txn = some x) (hg : x.granted = true) (ha : x.agent = some (.host h)) :
    exec (.gntAck h l) s = .next ((s.updLine l (fun d => { d with st := (s.dirLine l).st.held x.req h })).endTxn l) := by
  change execGntAck h l s = _
  unfold execGntAck
  simp only [hx, hg, ha, Bool.true_and, beq_self_eq_true, if_true]
  rfl

theorem exec_snoopSlow (us : Nat) : exec (.snoopSlow h l us) s =
    .next (if s.snooped h l && decide (10 ≤ us) then s.emit 52 0x314 0xFF us else s) := rfl

end

end Sys2Proof.Machine

open Sys2Proof Sys2Proof.Machine

/-- Settles O19: a request by its line's queue or the transaction that begins, an answer by the awaited agents it leaves, an acknowledged grant
by the end of its transaction. -/
theorem coherenceRequestsAndAnswersMoveLines : Obligations.CoherenceRequestsAndAnswersMoveLines := by
  unfold Obligations.CoherenceRequestsAndAnswersMoveLines
  refine ⟨fun s h l c rq hc => ?_, fun s h l data hlink hlen => ⟨fun hown => exec_wb_or_evict_other hown, fun hown => ?_⟩,
    fun s h l data => exec_ack_unawaited, fun s h l data x hx ha hlen => ⟨fun hmore => ?_, fun b hlast hreq hb => ?_⟩,
    fun s h l => ⟨exec_gntAck_other, fun x hx hg ha hq => ?_⟩,
    fun s h l us => ⟨fun hs hus => ?_, fun hno => ?_⟩⟩
  · rw [exec_request hc]
    obtain ⟨hoff, hunreached, hdenied, hreached⟩ := agentRequest_cases s l (·.request l rq (.host h))
    refine ⟨fun hl => congrArg _ (hoff hl), fun hl hr => congrArg _ (hunreached hl hr), fun hl hr hp => congrArg _ (hdenied hl hr hp),
      fun hl hr hp => ⟨fun htxn => ?_, fun htxn hq hst => ?_⟩⟩
    · refine ⟨_, congrArg _ ((hreached hl hr hp).trans (State.request_of_txn htxn)), ?_, fun m hm => ?_, rfl⟩
      · rw [State.dirLine_updLine_same]
      · rw [State.dirLine_updLine_other _ hm]
    · intro me hs eff wait
      have heff : eff = (s.dirLine l).st.effective rq me := (LineState.effective_eq ..).symm
      have hwait : wait = (s.dirLine l).st.inWay ((s.dirLine l).st.effective rq me) me := by
        by_cases hrq : rq = .rdS
        · subst hrq
          cases hst : (s.dirLine l).st with
          | uncached | shared hs => simp only [wait, hst]; rfl
          | owned o => simp only [wait, hst, if_true]; exact (LineState.inWay_rdS_owned o h).symm
        · rw [LineState.inWay_of_ne (mt LineState.effective_eq_rdS.mp hrq)]
          exact if_neg hrq
      clear_value eff wait
      subst heff hwait
      have hline := State.dirLine_request_of_idle (rq := rq) (a := me) htxn hq hst
      refine ⟨_, _, congrArg _ (hreached hl hr hp), congrArg DirLine.txn hline, rfl, rfl, rfl, rfl, congrArg DirLine.queue hline,
        State.request_dirServed.loc, fun m => State.dirLine_request_of_idle_other htxn hq hst, fun hnone => ?_, ?_, fun a ha => ?_,
        State.request_of_idle_frame htxn hq hst⟩
      · exact State.sent_request_granted htxn hq hst hnone
      · split
        · next hnone => rw [State.sent_request_granted htxn hq hst hnone, List.length_cons]
        · next hsome => rw [State.sent_request_snoops htxn hq hst hsome]; simp [Nat.add_comm]
      · rw [State.sent_request_snoops htxn hq hst (List.ne_nil_of_mem ha)]
        exact List.mem_append_left _ (List.mem_reverse.mpr (List.mem_map_of_mem ha))
  · have hown' : ((s.takeLine l data).dirLine l).st = .owned h := by rw [State.dirLine_takeLine hlen, hown]
    obtain ⟨hread, hrest⟩ := s.bytes_takeLine (l := l) hlen
    refine ⟨_, _, exec_wb_owner hlink hown, exec_evict_owner hlink hown, ?_, ?_, State.loc_giveUp .., State.wbDone_giveUp ..,
      State.wbDone_giveUp .., fun hq => ?_⟩
    · rw [State.loc_giveUp]; exact hread
    · rw [State.loc_giveUp]; exact hrest
    · rw [State.giveUp_of_no_request _ _ _ hq, State.giveUp_of_no_request _ _ _ (by rw [State.dirLine_takeLine hlen, hq])]
      exact ⟨State.st_released .., State.st_released .., congrArg _ (State.sent_takeLine hlen), rfl⟩
  · obtain ⟨hack, hackD⟩ := exec_ack_awaited (data := data) (State.snooped_eq_true hx ha)
    have hx' : ((s.takeLine l data).dirLine l).txn = some x := by rw [State.dirLine_takeLine hlen, hx]
    rw [State.snoopDone_of_more hx hmore] at hack
    rw [State.snoopDone_of_more hx' hmore] at hackD
    obtain ⟨hread, hrest⟩ := s.bytes_takeLine (l := l) hlen
    exact ⟨_, _, hack, hackD, by simp [State.answered], rfl, rfl, by simp [State.answered], hread, hrest⟩
  · obtain ⟨hack, hackD⟩ := exec_ack_awaited (data := data) (State.snooped_eq_true hx ha)
    have hx' : ((s.takeLine l data).dirLine l).txn = some x := by rw [State.dirLine_takeLine hlen, hx]
    rw [State.snoopDone_of_last_rdS hx hlast hreq hb] at hack
    rw [State.snoopDone_of_last_rdS hx' hlast hreq hb] at hackD
    obtain ⟨hread, -⟩ := s.bytes_takeLine (l := l) hlen
    refine ⟨_, _, hack, hackD, ?_, State.sent_sendGrant .., ?_⟩
    · rw [State.dirLine_sendGrant, if_pos rfl, State.dirLine_updLine_same, State.answered, State.dirLine_updLine_same]
      cases (s.dirLine l).st <;> rfl
    · refine (State.sent_sendGrant ..).trans ?_
      change Sent.grant b .rdS l (memRead (s.takeLine l data).mem.loc (l * 128) 128) ((s.takeLine l data).mem.badLoc.contains l) ::
        (s.takeLine l data).sent = _
      rw [hread, State.fresh_takeLine hlen, State.sent_takeLine hlen]
  · have hq' (m : Nat) : ((s.updLine l (fun d => { d with st := (s.dirLine l).st.held x.req h })).dirLine m).queue = [] := by
      rw [State.dirLine_updLine]
      split
      · exact hq l
      · exact hq m
    rw [exec_gntAck_granted hx hg ha, State.endTxn_of_no_request hq']
    refine ⟨_, rfl, by simp, ?_, fun m hm => ?_, rfl⟩
    · rw [State.dirLine_updLine_same, State.dirLine_updLine_same]
      dsimp only
      split
      · next hrq => rw [hrq]; cases (s.dirLine l).st <;> rfl
      · next hrq => exact LineState.held_of_ne hrq
    · rw [State.dirLine_updLine_other _ hm, State.dirLine_updLine_other _ hm]
  · exact (exec_snoopSlow us).trans (congrArg _ (if_pos (by simp [hs, hus])))
  · have hquiet : ¬(s.snooped h l && decide (10 ≤ us)) = true := by
      rw [Bool.and_eq_true, decide_eq_true_eq]
      exact fun ⟨hs, hus⟩ => hno.elim (fun hs' => Bool.false_ne_true (hs'.symm.trans hs)) (Nat.not_lt.mpr hus)
    exact (exec_snoopSlow us).trans (congrArg _ (if_neg hquiet))

end

section
/-! O20: what the patrols count and poison, and the Device Cache under a change of the host's ways (07 R236-R240, R261-R266; 20 R753). -/
namespace Sys2Proof
open Sys2Proof.Machine

theorem bitAt_eq_testBit (v i : Nat) : bitAt v i = v.testBit i := by
  rw [Nat.testBit_eq_decide_div_mod_eq, bitAt, Nat.shiftRight_eq_div_pow]
  rfl

/-- The mask of some numbers has just their bits set. -/
theorem bitAt_maskOf (l : List Nat) (i : Nat) : bitAt (maskOf l) i = true ↔ i ∈ l := by
  have hfold (a : Nat) : (l.foldl (fun a k => a ||| (1 <<< k)) a).testBit i = true ↔ a.testBit i = true ∨ i ∈ l := by
    induction l generalizing a with
    | nil => simp
    | cons k l ih =>
      rw [List.foldl_cons, ih, Nat.testBit_or, Nat.one_shiftLeft, Nat.testBit_two_pow]
      simp only [Bool.or_eq_true, decide_eq_true_eq, List.mem_cons, or_assoc, @eq_comm _ i]
  rw [bitAt_eq_testBit, maskOf, hfold]
  simp

namespace Machine

/-! ## Counts of errors -/

/-- State `t` is `s` but for the queue of events and the counts of lost ones. -/
def EventsOnly (s t : State) : Prop := t = { s with events := t.events, gaps := t.gaps }

section
variable {s t u : State}

theorem EventsOnly.trans (h : EventsOnly s t) (h' : EventsOnly t u) : EventsOnly s u := Eq.trans h' (by rw [h])

theorem EventsOnly.foldl {γ : Type} {g : State → γ → State} (h : ∀ s a, EventsOnly s (g s a)) (xs : List γ) (s : State) :
    EventsOnly s (xs.foldl g s) := by
  induction xs generalizing s with
  | nil => rfl
  | cons a xs ih => exact (h s a).trans (ih _)

theorem State.emit_eventsOnly (s : State) (isl code parcel value : Nat) : EventsOnly s (s.emit isl code parcel value) := by
  obtain ⟨e, g, h⟩ := s.emit_only isl code parcel value
  rw [h]
  rfl

end

/-- An array's counts with errors added (07 R266). -/
def EccCount.plus (e : EccCount) (data check uncorr refetch : Nat) : EccCount :=
  { dataCorr := e.dataCorr + BitVec.ofNat 32 data, checkCorr := e.checkCorr + BitVec.ofNat 32 check
    uncorr := e.uncorr + BitVec.ofNat 32 uncorr, refetch := e.refetch + BitVec.ofNat 32 refetch }

theorem EccCount.plus_data (e : EccCount) : e.plus 1 0 0 0 = { e with dataCorr := e.dataCorr + 1 } := by simp [EccCount.plus]
theorem EccCount.plus_check (e : EccCount) : e.plus 0 1 0 0 = { e with checkCorr := e.checkCorr + 1 } := by simp [EccCount.plus]

/-- The events of the errors that an array counts (07 R266). -/
def State.eccEvents (s : State) (isl arr data check uncorr : Nat) : State :=
  let s := (List.range data).foldl (fun s _ => s.emit isl 0x310 0xFF arr) s
  let s := (List.range check).foldl (fun s _ => s.emit isl 0x311 0xFF arr) s
  (List.range uncorr).foldl (fun s _ => s.emit isl 0x312 0xFF arr) s

theorem State.eccEvents_eventsOnly (s : State) (isl arr data check uncorr : Nat) : EventsOnly s (s.eccEvents isl arr data check uncorr) := by
  have hkind (code n : Nat) (v : State) : EventsOnly v ((List.range n).foldl (fun s _ => s.emit isl code 0xFF arr) v) :=
    .foldl (fun s _ => s.emit_eventsOnly isl code 0xFF arr) _ v
  exact ((hkind 0x310 data s).trans (hkind 0x311 check _)).trans (hkind 0x312 uncorr _)

/-- Errors raise their array's counts; events, the counts of lost ones and the ledger may change besides (07 R266; 20 R753). -/
theorem State.countEcc_only (s : State) (isl arr data check uncorr refetch : Nat) : ∃ e g p, s.countEcc isl arr data check uncorr refetch =
    { s with events := e, gaps := g, ledger := p
             mem := { s.mem with ecc := s.mem.ecc.wr arr ((s.mem.ecc.rd arr).plus data check uncorr refetch) } } := by
  have hevents (v : State) : ∃ e g, v.eccEvents isl arr data check uncorr = { v with events := e, gaps := g } :=
    ⟨_, _, v.eccEvents_eventsOnly isl arr data check uncorr⟩
  unfold State.countEcc
  dsimp only
  split
  · obtain ⟨e, g, h⟩ := hevents _
    exact ⟨e, g, _, h⟩
  · obtain ⟨e, g, h⟩ := hevents _
    exact ⟨e, g, _, h⟩

theorem State.ecc_countEcc (s : State) (isl arr data check uncorr refetch k : Nat) : (s.countEcc isl arr data check uncorr refetch).mem.ecc.rd k =
    if k = arr then (s.mem.ecc.rd arr).plus data check uncorr refetch else s.mem.ecc.rd k := by
  obtain ⟨e, g, p, h⟩ := s.countEcc_only isl arr data check uncorr refetch
  rw [h]
  exact Tab.rd_wr ..

theorem State.loc_countEcc (s : State) (isl arr data check uncorr refetch : Nat) :
    (s.countEcc isl arr data check uncorr refetch).mem.loc = s.mem.loc := by
  obtain ⟨e, g, p, h⟩ := s.countEcc_only isl arr data check uncorr refetch
  rw [h]

/-! ## Patrols -/

section
variable {s : State}

theorem exec_sramPatrol_unreached {data check : List (Fin 7 × Nat)} {bad : List (Fin 7 × Nat × Nat)} (h : s.awake = false ∨ s.start.step < 29) :
    exec (.sramPatrol data check bad) s = .next s := congrArg Host.Outcome.next (if_pos (by simpa using h))

/-- The die at an SRAM patrol's next period (07 R265). -/
def State.atSramPatrol (s : State) : State := s.reach (nextMultiple s.now (1000000 * Nat.max 1 s.mem.sramPatrolMs))

theorem sramPatrol_reached (ha : s.awake = true) (hstep : 29 ≤ s.start.step) : ¬(!s.awake ∨ s.start.step < 29) := by
  simpa [ha] using hstep

theorem exec_sramPatrol_data (ha : s.awake = true) (hstep : 29 ≤ s.start.step) (arr : Fin 7) (a : Nat) :
    exec (.sramPatrol [(arr, a)] [] []) s = .next (s.atSramPatrol.countEcc (arrayIsland arr a) arr 1 0 0 0) :=
  congrArg Host.Outcome.next (if_neg (sramPatrol_reached ha hstep))

theorem exec_sramPatrol_check (ha : s.awake = true) (hstep : 29 ≤ s.start.step) (arr : Fin 7) (a : Nat) :
    exec (.sramPatrol [] [(arr, a)] []) s = .next (s.atSramPatrol.countEcc (arrayIsland arr a) arr 0 1 0 0) :=
  congrArg Host.Outcome.next (if_neg (sramPatrol_reached ha hstep))

variable {c : Fin 4} {data check : Nat} {bad : List Nat}

theorem exec_mcPatrol_off (h : s.awake = false ∨ (s.mem.mc.rd c).st ≠ .running ∨ (s.mem.mc.rd c).eccInForce = 0) :
    exec (.mcPatrol c data check bad) s = .next s := congrArg Host.Outcome.next (if_pos (by simpa using h))

/-- The lines of a patrol's findings that lie inside a controller's reach (07 R264). -/
def State.patrolled (s : State) (c : Nat) (bad : List Nat) : List Nat :=
  (bad.filter (fun l => l * 128 / mcWindow == c && decide (l * 128 % mcWindow + 128 ≤ (s.mem.mc.rd c).reach))).eraseDups

theorem State.mem_patrolled (c : Nat) (bad : List Nat) (l : Nat) : l ∈ s.patrolled c bad ↔
    l ∈ bad ∧ l * 128 / mcWindow = c ∧ l * 128 % mcWindow + 128 ≤ (s.mem.mc.rd c).reach := by
  simp [State.patrolled]

/-- Lines marked as uncorrectable (07 R264). -/
def State.poison (s : State) (ls : List Nat) : State :=
  { s with mem := { s.mem with badLoc := s.mem.badLoc ++ ls.filter (fun l => !s.mem.badLoc.contains l) } }

theorem State.mem_badLoc_poison (ls : List Nat) (l : Nat) : l ∈ (s.poison ls).mem.badLoc ↔ l ∈ s.mem.badLoc ∨ l ∈ ls := by
  simp only [State.poison, List.mem_append, List.mem_filter, Bool.not_eq_true', List.contains_eq_mem, decide_eq_false_iff_not]
  tauto

/-- The die at a controller patrol's next period, with what it found counted (07 R264, R266). -/
def State.mcPatrolled (s : State) (c data check : Nat) (bad : List Nat) : State :=
  (s.reach (nextMultiple s.now (3600000000000 * Nat.max 1 s.mem.mcPatrolHours))).countEcc (53 + c) (7 + c) data check (s.patrolled c bad).length 0

theorem exec_mcPatrol_runs (ha : s.awake = true) (hrun : (s.mem.mc.rd c).st = .running) (hecc : (s.mem.mc.rd c).eccInForce ≠ 0) :
    exec (.mcPatrol c data check bad) s = .next ((s.mcPatrolled c data check bad).poison (s.patrolled c bad)) :=
  congrArg Host.Outcome.next (if_neg (by simpa [ha, hrun] using hecc))

end

/-! ## The host's ways -/

section
variable {s : State} {by' : Principal} {v : U16}

theorem State.dc_wayClear (s : State) (way i : Nat) : (s.wayClear way).mem.dc.rd i = if i / 8192 = way then default else s.mem.dc.rd i := by
  refine (Tab.rd_filter_number (fun n => !decide (n / 8192 = way)) s.mem.dc i).trans ?_
  by_cases h : i / 8192 = way <;> simp [h]

/-- Clearing ways takes every line of theirs from the cache, and no other line (07 R240). -/
theorem State.dc_waysClear (s : State) (mask i : Nat) :
    (s.waysClear mask).mem.dc.rd i = if i / 8192 ∈ maskBits 16 mask then default else s.mem.dc.rd i := by
  unfold State.waysClear
  induction maskBits 16 mask generalizing s with
  | nil => rfl
  | cons w ws ih =>
    rw [List.foldl_cons, ih, State.dc_wayClear]
    by_cases hw : i / 8192 = w <;> simp [hw]

theorem State.waysClear_only (s : State) (mask : Nat) : s.waysClear mask = { s with mem := { s.mem with dc := (s.waysClear mask).mem.dc } } := by
  unfold State.waysClear
  induction maskBits 16 mask generalizing s with
  | nil => rfl
  | cons w ws ih =>
    rw [List.foldl_cons, ih]
    rfl

/-- The ways of the host that a new mask takes from it. -/
def State.lostWays (s : State) (v : Nat) : Nat := maskOf ((maskBits 16 s.mem.hostWays).filter (fun w => !bitAt v w))

theorem State.mem_lostWays {w : Nat} (hw : w < 16) (v : Nat) :
    w ∈ maskBits 16 (s.lostWays v) ↔ bitAt s.mem.hostWays w = true ∧ bitAt v w = false := by
  simp [mem_maskBits, State.lostWays, bitAt_maskOf, hw]

/-- The host given the ways of a mask, those it loses cleared first (07 R236, R240). -/
def State.giveHostWays (s : State) (v : Nat) : State :=
  { s.waysClear (s.lostWays v) with mem := { (s.waysClear (s.lostWays v)).mem with hostWays := v } }

theorem State.giveHostWays_only (s : State) (v : Nat) :
    s.giveHostWays v = { s with mem := { s.mem with hostWays := v, dc := (s.giveHostWays v).mem.dc } } := by
  unfold State.giveHostWays
  rw [s.waysClear_only]

theorem State.dc_giveHostWays {w x : Nat} (hw : w < 16) (hx : x < 8192) (v : Nat) : (s.giveHostWays v).mem.dc.rd (dcKey w x) =
    if bitAt s.mem.hostWays w = true ∧ bitAt v w = false then default else s.mem.dc.rd (dcKey w x) := by
  have hway : dcKey w x / 8192 = w := by unfold dcKey; omega
  refine (s.dc_waysClear _ _).trans ?_
  rw [hway]
  exact if_congr (State.mem_lostWays hw v) rfl rfl

/-- Some parcel holds a way of a mask. -/
def State.waysHeld (s : State) (v : Nat) : Bool := (List.range 8).any (fun p => (s.parcel p).dcWays &&& v ≠ 0)

theorem State.waysHeld_iff (v : Nat) : s.waysHeld v = true ↔ ∃ p : Nat, p < 8 ∧ (s.parcel p).dcWays &&& v ≠ 0 := by
  simp [State.waysHeld]

theorem State.not_waysHeld {v : Nat} (h : ∀ p : Nat, p < 8 → (s.parcel p).dcWays &&& v = 0) : ¬s.waysHeld v = true := fun hheld =>
  have ⟨p, hp, hne⟩ := (State.waysHeld_iff v).mp hheld
  hne (h p hp)

theorem exec_hostDcWaysWrite (h : s.serving) : exec (.hostDcWaysWrite by' v) s = .next (
    if by' ≠ .rtp then s.answer .denied else if s.waysHeld v.toNat then s.answer .unsupported
    else if s.mem.retiredWays &&& v.toNat ≠ 0 then s.answer .retired else (s.giveHostWays v.toNat).answer .ok) :=
  congrArg Host.Outcome.next (State.served_serving h 31 _)

end

end Machine
end Sys2Proof

open Sys2Proof Sys2Proof.Machine

/-- Settles O20: a patrol by what it counts and poisons, a write of the host's ways by its refusals in order and the lines it clears. -/
theorem patrolsAndCacheWays : Obligations.PatrolsAndCacheWays := by
  unfold Obligations.PatrolsAndCacheWays
  refine ⟨fun s data check bad => exec_sramPatrol_unreached, fun s arr a ha hstep => ?_,
    fun s c data check bad => ⟨exec_mcPatrol_off, fun ha hrun hecc => ⟨_, exec_mcPatrol_runs ha hrun hecc, ?_⟩⟩,
    fun s by' v h => ⟨fun hby => ?_, fun hheld => ?_, fun hfree => ⟨fun hret => ?_, fun hret => ?_⟩⟩⟩
  · refine ⟨_, _, exec_sramPatrol_data ha hstep arr a, exec_sramPatrol_check ha hstep arr a, ?_⟩
    have hdata := s.atSramPatrol.ecc_countEcc (arrayIsland arr a) arr 1 0 0 0
    have hcheck := s.atSramPatrol.ecc_countEcc (arrayIsland arr a) arr 0 1 0 0
    refine ⟨?_, ?_, ?_, fun k hk => ⟨?_, ?_⟩, State.loc_countEcc .., State.loc_countEcc ..⟩
    · rw [hdata, if_pos rfl, EccCount.plus_data]
      rfl
    · rw [hcheck, if_pos rfl, EccCount.plus_check]
      rfl
    · obtain ⟨e, g, p, h⟩ := s.atSramPatrol.countEcc_only (arrayIsland arr a) arr 1 0 0 0
      rw [h]
      rfl
    · rw [hdata, if_neg hk]
      rfl
    · rw [hcheck, if_neg hk]
      rfl
  · obtain ⟨e, g, p, h⟩ := State.countEcc_only (s.reach (nextMultiple s.now (3600000000000 * Nat.max 1 s.mem.mcPatrolHours)))
      (53 + c) (7 + c) data check (s.patrolled c bad).length 0
    have hecc : (s.mcPatrolled c data check bad).mem.ecc.rd (7 + c) = (s.mem.ecc.rd (7 + c)).plus data check (s.patrolled c bad).length 0 := by
      rw [State.mcPatrolled, State.ecc_countEcc, if_pos rfl]
      rfl
    have hbad (l : Nat) := State.mem_badLoc_poison (s := s.mcPatrolled c data check bad) (s.patrolled c bad) l
    refine ⟨?_, congrArg EccCount.dataCorr hecc, congrArg EccCount.checkCorr hecc, fun l => (hbad l).trans ?_, ?_, ?_⟩
    · rw [State.mcPatrolled, h]
      rfl
    · rw [State.mem_patrolled, State.mcPatrolled, h]
      rfl
    · exact State.loc_countEcc ..
    · rw [State.mcPatrolled, h]
      rfl
  · exact (exec_hostDcWaysWrite h).trans (congrArg _ (if_pos hby))
  · rw [exec_hostDcWaysWrite h, if_neg (not_not.mpr rfl), if_pos ((State.waysHeld_iff _).mpr hheld)]
    rfl
  · rw [exec_hostDcWaysWrite h, if_neg (not_not.mpr rfl), if_neg (State.not_waysHeld hfree), if_pos hret]
    rfl
  · rw [exec_hostDcWaysWrite h, if_neg (not_not.mpr rfl), if_neg (State.not_waysHeld hfree), if_neg (not_not.mpr hret)]
    have honly := s.giveHostWays_only v.toNat
    refine ⟨_, rfl, rfl, rfl, ?_, fun w x hw hx => State.dc_giveHostWays hw hx _, ?_⟩
    · rw [State.answer_mem, honly]
    · rw [honly]
      rfl

end

section
/-! O26: what the host's accesses read and write in memory, and the burst guard of its masters (07 R245-R258; 10 R394-R397; 18 R679, R693). -/
namespace Sys2Proof.Machine
open Sys2Proof

/-! ## The host's access to a piece of memory -/

/-- State `t` is `s` but for the directory and the Device Cache. -/
def LinesOnly (s t : State) : Prop := t = { s with mem := { s.mem with dir := t.mem.dir, dc := t.mem.dc, plru := t.mem.plru } }

section
variable {s t u : State}

theorem LinesOnly.trans (h : LinesOnly s t) (h' : LinesOnly t u) : LinesOnly s u := Eq.trans h' (by rw [h])

theorem LinesOnly.loc (h : LinesOnly s t) : t.mem.loc = s.mem.loc := by rw [h]

theorem LinesOnly.foldl {γ : Type} {g : State → γ → State} (h : ∀ s a, LinesOnly s (g s a)) (xs : List γ) (s : State) :
    LinesOnly s (xs.foldl g s) := by
  induction xs generalizing s with
  | nil => rfl
  | cons a xs ih => exact (h s a).trans (ih _)

theorem State.dcTouch_linesOnly (w : Who) (pa dva : Nat) (write alloc : Bool) : LinesOnly s (s.dcTouch w pa dva write alloc) := by
  obtain ⟨dc, plru, h⟩ := s.dcTouch_only w pa dva write alloc
  rw [h]
  rfl

theorem State.homeInval_linesOnly (l : Nat) : LinesOnly s (s.homeInval l) := by
  unfold State.homeInval
  dsimp only
  split <;> rfl

end

section
variable {s : State} {a len : Nat} {bs : List Byte}

theorem State.reaches_of_hostBar (h : s.hostBar a len = none) : s.paReaches a len = true ∧ s.paAllowed .host a len = true := by
  unfold State.hostBar at h
  split at h
  · cases h
  · split at h
    · cases h
    · next hr hp => exact ⟨by simpa using hr, by simpa using hp⟩

theorem State.barred_locPiece (h : s.hostBar a len = none) :
    (!s.paReaches (locPiece a len).addr (locPiece a len).len || !s.paAllowed .host (locPiece a len).addr (locPiece a len).len) = false := by
  obtain ⟨hr, hp⟩ := State.reaches_of_hostBar h
  simp [locPiece, hr, hp]

theorem State.any_lineBusy {write : Bool} (h : ∀ l ∈ linesOf a len, s.lineBusy write l = false) :
    (linesOf a len).any (s.lineBusy write) = false := by
  simpa using h

/-- A line of a byte range is unreadable. -/
def State.poisoned (s : State) (a len : Nat) : Bool := s.mem.badLoc.any (fun l => (linesOf a len).contains l)

/-- The host reads the bytes that stand in memory, and through no unreadable line (07 R245-R249). -/
theorem State.readPiece_host (hbar : s.hostBar a len = none) (hfree : ∀ l ∈ linesOf a len, s.lineBusy false l = false) :
    (s.poisoned a len = true → s.readPiece .host (locPiece a len) = .fail .faulted .uncorr) ∧
    (s.poisoned a len = false → ∃ t, LinesOnly s t ∧ s.readPiece .host (locPiece a len) = .ok (memRead s.mem.loc a len) t) := by
  have hlines := LinesOnly.foldl (fun (s : State) l =>
    State.dcTouch_linesOnly (s := s) .host (l * 128) (a + l * 128 - a) false (s.mayAlloc .host (locPiece a len))) (linesOf a len) s
  generalize hu : List.foldl _ s (linesOf a len) = u at hlines
  have hgo : s.readPiece .host (locPiece a len) = if s.poisoned a len then .fail .faulted .uncorr else .ok (memRead u.mem.loc a len) u := by
    rw [← hu]
    exact (if_neg (Bool.eq_false_iff.mp (State.barred_locPiece hbar))).trans (if_neg (Bool.eq_false_iff.mp (State.any_lineBusy hfree)))
  exact ⟨fun hp => hgo.trans (if_pos hp), fun hp => ⟨u, hlines, hlines.loc ▸ hgo.trans (if_neg (Bool.eq_false_iff.mp hp))⟩⟩

/-- Bytes stored in LOCAL memory; the lines stored whole are fresh (07 R836). -/
def State.storeLoc (s : State) (a len : Nat) (bs : List Byte) : State :=
  { s with mem := { s.mem with
    loc := memWrite s.mem.loc a bs
    badLoc := s.mem.badLoc.filter (fun l => !((linesOf a len).filter (fun l => decide (a ≤ l * 128 ∧ l * 128 + 128 ≤ a + len))).contains l) } }

/-- The host writes just its bytes, and the lines it writes whole are fresh (07 R245-R249, R836; 08 R315). -/
theorem State.writePiece_host (hbar : s.hostBar a len = none) (hfree : ∀ l ∈ linesOf a len, s.lineBusy true l = false) (bs : List Byte) :
    ∃ t, s.writePiece .host (locPiece a len) bs = .ok () t ∧ t.mem.loc = memWrite s.mem.loc a bs ∧ t = { s with mem := t.mem } := by
  have hlines := LinesOnly.foldl (fun (s : State) l => (State.homeInval_linesOnly (s := s) l).trans
    (State.dcTouch_linesOnly .host (l * 128) (a + l * 128 - a) true (s.mayAlloc .host (locPiece a len)))) (linesOf a len) s
  generalize hu : List.foldl _ s (linesOf a len) = u at hlines
  have hwrite : s.writePiece .host (locPiece a len) bs = .ok () (u.storeLoc a len bs) := by
    rw [← hu]
    exact (if_neg (Bool.eq_false_iff.mp (State.barred_locPiece hbar))).trans (if_neg (Bool.eq_false_iff.mp (State.any_lineBusy hfree)))
  refine ⟨_, hwrite, ?_, ?_⟩ <;> (unfold State.storeLoc; rw [hlines])

end

/-! ## Reads -/

section
variable {s : State} {agent : Fin 16} {tag : BitVec 12} {a len : Nat} {st : Status}

theorem exec_mrd_memory (hatt : s.attached = true) :
    exec (.mrd agent tag false a len) s = .next (s.hostRead agent tag.toNat a len) := congrArg Host.Outcome.next (if_neg (by simp [hatt]))

theorem exec_mrd_window (hatt : s.attached = true) :
    exec (.mrd agent tag true a len) s = .next (s.complete' agent tag.toNat .ok (s.windowRead a len)) :=
  congrArg Host.Outcome.next (if_neg (by simp [hatt]))

section
variable (agent tag : Nat) (hburst : s.badBurst a len = false) (hwait : s.memoryWaits = false)
include hburst hwait

/-- A host read of memory is answered by what bars it (07 R245, R246; 10 R394). -/
theorem State.hostRead_barred (hbar : s.hostBar a len = some st) :
    s.hostRead agent tag a len = (s.dropRead agent tag).complete' agent tag st [] := by
  unfold State.hostRead
  simp only [hburst, hwait, hbar, Bool.false_eq_true, if_false]

variable (hbar : s.hostBar a len = none) (hfree : ∀ l ∈ linesOf a len, s.lineBusy false l = false)
include hbar hfree

theorem State.hostRead_poisoned (hp : s.poisoned a len = true) :
    s.hostRead agent tag a len = (s.dropRead agent tag).complete' agent tag .faulted [] := by
  unfold State.hostRead
  simp only [hburst, hwait, hbar, (State.readPiece_host hbar hfree).1 hp, Bool.false_eq_true, if_false]

theorem State.hostRead_read (hp : s.poisoned a len = false) : ∃ t, LinesOnly s t ∧
    s.hostRead agent tag a len = (t.dropRead agent tag).complete' agent tag .ok (memRead s.mem.loc a len) := by
  obtain ⟨t, ht, hread⟩ := (State.readPiece_host hbar hfree).2 hp
  refine ⟨t, ht, ?_⟩
  unfold State.hostRead
  simp only [hburst, hwait, hbar, hread, Bool.false_eq_true, if_false]

end

end

/-! ## Writes -/

section
variable {s : State} {agent : Fin 16} {tag : BitVec 12} {a : Nat} {data : List Byte} {st : Status}

theorem exec_mwrP_memory (hatt : s.attached = true) :
    exec (.mwrP agent tag false a data) s = .next (s.hostPartial agent tag.toNat a data) := congrArg Host.Outcome.next (if_neg (by simp [hatt]))

theorem exec_mwrP_window (hatt : s.attached = true) (h1 : 1 ≤ data.length) (h64 : data.length ≤ 64) :
    exec (.mwrP agent tag true a data) s = .next ((s.windowWrite a data).complete' agent tag.toNat .ok []) :=
  congrArg Host.Outcome.next ((if_neg (by simp [hatt])).trans (if_neg (not_or.mpr ⟨Nat.ne_of_gt h1, Nat.not_lt.mpr h64⟩)))

/-- A partial write that is not 1 to 64 bytes within a line (10 R395). -/
def partialBreaks (a len : Nat) : Prop := len = 0 ∨ 64 < len ∨ 128 < a % 128 + len

theorem not_partialBreaks {len : Nat} (h1 : 1 ≤ len) (h64 : len ≤ 64) (hline : a % 128 + len ≤ 128) : ¬partialBreaks a len := by
  unfold partialBreaks
  omega

theorem State.hostPartial_unsupported (agent tag : Nat) (h : partialBreaks a data.length) :
    s.hostPartial agent tag a data = s.complete' agent tag .unsupported [] := if_pos h

section
variable (agent tag : Nat) (hfits : ¬partialBreaks a data.length) (hwait : s.memoryWaits = false)
include hfits hwait

theorem State.hostPartial_barred (hbar : s.hostBar a data.length = some st) :
    s.hostPartial agent tag a data = s.complete' agent tag st [] := by
  refine (if_neg hfits).trans ?_
  simp only [hwait, hbar, Bool.false_eq_true, if_false]

theorem State.hostPartial_written {t : State} (hbar : s.hostBar a data.length = none)
    (hwrite : s.writePiece .host (locPiece a data.length) data = .ok () t) :
    s.hostPartial agent tag a data = t.complete' agent tag .ok [] := by
  refine (if_neg hfits).trans ?_
  simp only [hwait, hbar, hwrite, Bool.false_eq_true, if_false]

end

theorem exec_mwr_memory (hatt : s.attached = true) (beats : Fin 17) :
    exec (.mwr agent tag false a beats data) s = .next (s.hostBurst agent tag.toNat a beats data) :=
  congrArg Host.Outcome.next (if_neg (by simp [hatt]))

theorem State.hostBurst_barred (agent tag : Nat) {beats : Nat} (hbeats : beats ≤ 16) (hburst : s.badBurst a (128 * beats) = false)
    (hwait : s.memoryWaits = false) (hbar : s.hostBar a (128 * beats) = some st) :
    s.hostBurst agent tag a beats data = s.complete' agent tag st [] := by
  unfold State.hostBurst
  simp only [hburst, hwait, hbar, Nat.not_lt.mpr hbeats, Bool.false_eq_true, or_self, if_false]

theorem linesOf_line (h : a % 128 = 0) : linesOf a 128 = [a / 128] := by
  have hcount : (a + 128 - 1) / 128 + 1 - a / 128 = 1 := by omega
  unfold linesOf
  rw [if_neg (by decide), hcount]
  simp

/-- A burst of one beat is done with the write of its line (10 R395, R396). -/
theorem State.hostBurst_line (agent tag : Nat) (hburst : s.badBurst a 128 = false) (hwait : s.memoryWaits = false) (hnew : s.burst agent a = none)
    (hlen : data.length = 128) (hbar : s.hostBar a 128 = none) {t : State} (hwrite : s.writePiece .host (locPiece a 128) data = .ok () t) :
    s.hostBurst agent tag a 1 data =
      State.complete' { t with link := { t.link with bursts := s.link.bursts.filter (fun b => !(b.agent == agent && b.addr == a)) } }
        agent tag .ok [] := by
  have hbeats : writeBeats a data 0 (Nat.min 1 (128 / 128) - 0) s = (t, 1) := by
    have hslice : slice data (128 * 0) 128 = data := by simp [slice, ← hlen]
    change writeBeats a data 0 1 s = _
    simp only [writeBeats, hslice, Nat.mul_zero, Nat.add_zero, hwrite]
  unfold State.hostBurst
  simp only [hburst, hwait, hnew, hlen, hbar, hbeats]
  rfl

end

/-! ## The burst guard -/

/-- A line's holders without a master. -/
def LineState.without (st : LineState) (h : Nat) : LineState :=
  match st with
  | .owned k => if k = h then .uncached else .owned k
  | .shared hs => if (hs.filter (· ≠ Agent.host h)).isEmpty then .uncached else .shared (hs.filter (· ≠ Agent.host h))
  | .uncached => .uncached

theorem LineState.not_mem_without (st : LineState) (h : Nat) : Agent.host h ∉ (st.without h).holders := by
  cases st with
  | uncached => exact List.not_mem_nil
  | owned k =>
    by_cases hk : k = h
    · simp [LineState.without, LineState.holders, hk]
    · simp [LineState.without, LineState.holders, hk, Ne.symm hk]
  | shared hs =>
    unfold LineState.without
    dsimp only
    split
    · exact List.not_mem_nil
    · simp [LineState.holders]

theorem LineState.without_without (st : LineState) (h : Nat) : (st.without h).without h = st.without h := by
  cases st with
  | uncached => rfl
  | owned k => by_cases hk : k = h <;> simp [LineState.without, hk]
  | shared hs =>
    by_cases hnone : (hs.filter (· ≠ Agent.host h)).isEmpty
    · have hun : (LineState.shared hs).without h = .uncached := if_pos hnone
      rw [hun]
      rfl
    · have hsh : (LineState.shared hs).without h = .shared (hs.filter (· ≠ Agent.host h)) := if_neg hnone
      have htwice : (hs.filter (· ≠ Agent.host h)).filter (· ≠ Agent.host h) = hs.filter (· ≠ Agent.host h) := by
        rw [List.filter_filter]
        simp only [Bool.and_self]
      rw [hsh]
      exact (if_neg (htwice.symm ▸ hnone)).trans (congrArg _ htwice)

/-- A transaction of a master that is gone gives it nothing (10 R397). -/
def DirTxn.without (x : DirTxn) (h : Nat) : DirTxn :=
  if x.agent = some (.host h) then { x with agent := none, req := if x.req = .rdS then .homeRead else .backInval, granted := false } else x

theorem DirTxn.without_without (x : DirTxn) (h : Nat) : (x.without h).without h = x.without h := by
  by_cases ha : x.agent = some (.host h) <;> simp [DirTxn.without, ha]

theorem DirLine.forget_eq (d : DirLine) (h : Nat) :
    d.forget h = ⟨d.st.without h, d.txn.map (·.without h), d.queue.filter (·.2 != .host h)⟩ := rfl

theorem DirLine.forget_forget (d : DirLine) (h : Nat) : (d.forget h).forget h = d.forget h := by
  simp only [DirLine.forget_eq, LineState.without_without, Option.map_map, Function.comp_def, DirTxn.without_without, List.filter_filter,
    Bool.and_self]

theorem DirLine.forget_default (h : Nat) : (default : DirLine).forget h = default := rfl

section
variable {s t : State} {h l : Nat}

theorem State.guardBursts_only (s : State) (h : Nat) : ∃ e g, s.guardBursts h = { s with
    events := e, gaps := g
    link := { s.link with bursts := s.link.bursts.filter (fun b => b.agent != h), reads := s.link.reads.filter (fun r => r.agent != h) } } :=
  ⟨_, _, EventsOnly.foldl (fun s (b : Burst) => s.emit_eventsOnly _ 0x340 0xFF (b.beats - b.received)) _ _⟩

theorem State.settleLine_dirServed : DirServed s (s.settleLine h l) := by
  unfold State.settleLine
  split
  · exact State.pumpLine_dirServed
  · split
    · exact State.endTxn_dirServed
    · split
      · exact State.snoopDone_dirServed
      · exact .refl s

/-- State `t` is `s` with a master forgotten: its bursts and its reads are gone, no line names it as a holder, and memory's bytes stand. -/
structure Guarded (h : Nat) (s t : State) : Prop where
  bursts : t.link.bursts = s.link.bursts.filter (fun b => b.agent != h)
  reads : t.link.reads = s.link.reads.filter (fun r => r.agent != h)
  holders : ∀ l, Agent.host h ∉ (t.dirLine l).st.holders
  loc : t.mem.loc = s.mem.loc
  frame : t = { s with events := t.events, gaps := t.gaps, sent := t.sent, freeCtr := t.freeCtr, mem := t.mem
                       link := { s.link with bursts := t.link.bursts, reads := t.link.reads } }

/-- The die with a master forgotten by every line. -/
def State.forgotten (s : State) (h : Nat) : State :=
  { s.guardBursts h with mem := { (s.guardBursts h).mem with dir := (s.guardBursts h).mem.dir.updListed (fun _ d => d.forget h) } }

theorem State.forgotten_guarded (s : State) (h : Nat) : Guarded h s (s.forgotten h) := by
  obtain ⟨e, g, hb⟩ := s.guardBursts_only h
  unfold State.forgotten
  rw [hb]
  refine ⟨rfl, rfl, fun l => ?_, rfl, rfl⟩
  change Agent.host h ∉ (Tab.rd (s.mem.dir.updListed (fun _ d => d.forget h)) l).st.holders
  rw [Tab.rd_updListed (fun _ d => d.forget_forget h) (fun _ => DirLine.forget_default h)]
  exact LineState.not_mem_without _ h

theorem Guarded.dirServed {u : State} (hg : Guarded h s t) (hd : DirServed t u) : Guarded h s u where
  bursts := by rw [hd.frame, ← hg.bursts]
  reads := by rw [hd.frame, ← hg.reads]
  holders l hl := hg.holders l (hd.holders l hl)
  loc := hd.loc.trans hg.loc
  frame := by rw [hd.frame, hg.frame]

theorem Guarded.eventsOnly {u : State} (hg : Guarded h s t) (he : EventsOnly t u) : Guarded h s u where
  bursts := by rw [he, ← hg.bursts]
  reads := by rw [he, ← hg.reads]
  holders l hl := hg.holders l (by rw [he] at hl; exact hl)
  loc := by rw [he, ← hg.loc]
  frame := by rw [he, hg.frame]

/-- The burst guard forgets its master (10 R396, R397). -/
theorem State.guard_guarded (s : State) (h : Nat) : Guarded h s (s.guard h) := by
  have hlines : Guarded h s (((s.guardBursts h).mem.dir.map Prod.fst).foldl (fun s l => s.settleLine h l) (s.forgotten h)) :=
    (s.forgotten_guarded h).dirServed (.foldl (fun _ _ => State.settleLine_dirServed) _ _)
  unfold State.guard
  dsimp only
  split
  · exact hlines
  · exact hlines.eventsOnly (State.emit_eventsOnly ..)

/-- The guard for the masters below a number leaves none of their bursts and reads (10 R396). -/
theorem State.foldl_guard (s : State) (n : Nat) :
    let t := (List.range n).foldl (fun s h => State.guard s h) s
    (∀ b ∈ t.link.bursts, n ≤ b.agent) ∧ (∀ r ∈ t.link.reads, n ≤ r.agent) ∧ t.mem.loc = s.mem.loc ∧ t.power = s.power := by
  induction n with
  | zero => exact ⟨fun _ _ => Nat.zero_le _, fun _ _ => Nat.zero_le _, rfl, rfl⟩
  | succ n ih =>
    dsimp only at ih ⊢
    rw [List.range_succ, List.foldl_append, List.foldl_cons, List.foldl_nil]
    obtain ⟨hb, hr, hloc, hpower⟩ := ih
    generalize List.foldl _ s (List.range n) = u at hb hr hloc hpower
    have hg := u.guard_guarded n
    refine ⟨fun b hmem => ?_, fun r hmem => ?_, hg.loc.trans hloc, ?_⟩
    · rw [hg.bursts, List.mem_filter, bne_iff_ne] at hmem
      exact Nat.lt_of_le_of_ne (hb b hmem.1) (Ne.symm hmem.2)
    · rw [hg.reads, List.mem_filter, bne_iff_ne] at hmem
      exact Nat.lt_of_le_of_ne (hr r hmem.1) (Ne.symm hmem.2)
    · rw [hg.frame, ← hpower]

/-- What the end of a step leaves, truncating every unsent host step leaves (10 R389). -/
theorem State.truncateHost_same {β : Type} (fld : State → β) (hfld : ∀ s q k x, fld (s.stepDone q k x .truncated .none) = fld s) (s : State) :
    fld s.truncateHost = fld s := by
  refine State.foldl_same fld _ (fun s q => State.foldl_same fld _ (fun s k => ?_) _ s) _ s
  (repeat' split) <;> simp only [hfld]

/-- What the guard of every master and the end of every unsent host step leave (10 R389, R396): no burst and no read of a master. -/
theorem State.guarded_truncated (s : State) :
    (∀ b ∈ s.guardAll.truncateHost.link.bursts, 16 ≤ b.agent) ∧ (∀ r ∈ s.guardAll.truncateHost.link.reads, 16 ≤ r.agent) ∧
    s.guardAll.truncateHost.mem.loc = s.mem.loc ∧ s.guardAll.truncateHost.power = s.power := by
  have hguard := s.foldl_guard 16
  rw [← State.guardAll] at hguard
  dsimp only at hguard
  generalize s.guardAll = t at hguard
  have hlink : t.truncateHost.link = t.link := State.truncateHost_same State.link (fun _ _ _ _ => rfl) t
  have hmem : t.truncateHost.mem = t.mem := State.truncateHost_same State.mem (fun _ _ _ _ => rfl) t
  have hpower : t.truncateHost.power = t.power := State.truncateHost_same State.power (fun _ _ _ _ => rfl) t
  rw [hlink, hmem, hpower]
  exact hguard

end

@[simp] theorem State.updStart_link (s : State) (f : Start → Start) : (s.updStart f).link = s.link := rfl
@[simp] theorem State.updStart_mem (s : State) (f : Start → Start) : (s.updStart f).mem = s.mem := rfl
@[simp] theorem State.updStart_power (s : State) (f : Start → Start) : (s.updStart f).power = s.power := rfl
@[simp] theorem State.updStart_start (s : State) (f : Start → Start) : (s.updStart f).start = f s.start := rfl

section
variable {s : State}

theorem exec_agentReset (hatt : s.attached = true) (hlink : s.straps.hostLink = true) (h : Fin 16) :
    exec (.agentReset h) s = .next (s.guard h) := congrArg Host.Outcome.next (if_pos (by simp [hatt, hlink]))

/-- The die after a reset of its host link or attach: guarded, and the link up or down (10 R389, R396; 18 R679). -/
def State.linkReset (s : State) (up : Bool) : State :=
  s.guardAll.truncateHost.updStart (fun x => { x with env := { x.env with linkUp := up } })

/-- A reset link has no burst and no read of a master, is up or down as told, and memory's bytes stand (10 R396). -/
theorem State.linkReset_leaves (s : State) (up : Bool) :
    (∀ b ∈ (s.linkReset up).link.bursts, 16 ≤ b.agent) ∧ (∀ r ∈ (s.linkReset up).link.reads, 16 ≤ r.agent) ∧
    (s.linkReset up).start.env.linkUp = up ∧ (s.linkReset up).mem.loc = s.mem.loc ∧ (s.linkReset up).power = s.power := by
  obtain ⟨hb, hr, hloc, hpower⟩ := s.guarded_truncated
  rw [State.linkReset, State.updStart_link, State.updStart_mem, State.updStart_power, State.updStart_start]
  exact ⟨hb, hr, rfl, hloc, hpower⟩

theorem exec_linkReset (hatt : s.attached = true) (hlink : s.straps.hostLink = true) (up : Bool) :
    exec (.linkReset up) s = .next (s.linkReset up) := congrArg Host.Outcome.next (if_pos (by simp [hatt, hlink]))

theorem exec_attachReset (h : s.awake = true) (up : Bool) : exec (.attachReset up) s =
    .next (if up then (s.linkReset up).updPower (fun p => { p with wakeOut := false }) else s.linkReset up) :=
  congrArg Host.Outcome.next (if_neg (by simp [h]))

theorem not_attached_and_hostLink (h : s.attached = false ∨ s.straps.hostLink = false) : ¬(s.attached && s.straps.hostLink) = true := by
  rw [Bool.and_eq_true]
  exact fun ⟨ha, hl⟩ => h.elim (fun h => Bool.false_ne_true (h.symm.trans ha)) (fun h => Bool.false_ne_true (h.symm.trans hl))

end

end Sys2Proof.Machine

open Sys2Proof Sys2Proof.Machine

/-- Settles O26: a read and a write by what bars them or the piece of memory they reach, a reset by the masters its guard forgets. -/
theorem hostAccessesAndTheBurstGuard : Obligations.HostAccessesAndTheBurstGuard := by
  unfold Obligations.HostAccessesAndTheBurstGuard
  refine ⟨⟨fun s agent tag a len hatt hwait hburst => ⟨fun st hbar => ?_, fun hbar hfree => ?_⟩,
    fun s agent tag a data hatt hwait h1 h64 hline => ⟨fun st hbar => ?_, fun hbar hfree => ?_⟩,
    fun s agent tag a data hatt hbad => ?_, fun s agent tag a data hatt hwait hburst hnew hlen hal hbar hfree => ?_,
    fun s agent tag a beats h data st hatt hwait hburst hbar => ?_,
    fun s agent tag a len data hatt => ⟨exec_mrd_window hatt, fun h1 h64 => ⟨_, exec_mwrP_window hatt h1 h64, rfl⟩⟩,
    fun s agent tag status a data => ⟨fun hatt hst hdata => ?_, fun hno => ?_⟩⟩,
    fun s h hatt hlink => ⟨_, exec_agentReset hatt hlink h, ?_⟩, fun s up hatt hlink => ⟨_, exec_linkReset hatt hlink up, ?_⟩,
    fun s up haw => ⟨_, exec_attachReset haw up, ?_⟩, fun s h up hoff => ?_, fun s up haw => ?_⟩
  · rw [exec_mrd_memory hatt, State.hostRead_barred agent tag.toNat hburst hwait hbar]
    exact ⟨_, rfl, rfl, rfl⟩
  · rw [exec_mrd_memory hatt]
    cases hp : s.poisoned a len with
    | true =>
      rw [State.hostRead_poisoned agent tag.toNat hburst hwait hbar hfree hp]
      exact ⟨_, rfl, congrArg (· :: s.sent) (if_pos hp).symm, rfl, rfl⟩
    | false =>
      obtain ⟨t, ht, hread⟩ := State.hostRead_read agent tag.toNat hburst hwait hbar hfree hp
      rw [hread]
      refine ⟨_, rfl, ?_, ht.loc, ?_⟩
      · refine Eq.trans ?_ (congrArg (· :: s.sent) (if_neg (Bool.eq_false_iff.mp hp)).symm)
        rw [ht]
        rfl
      · rw [ht]
        rfl
  · exact (exec_mwrP_memory hatt).trans (congrArg _ (State.hostPartial_barred _ _ (not_partialBreaks h1 h64 hline) hwait hbar))
  · obtain ⟨t, hwrite, hloc, hframe⟩ := State.writePiece_host hbar hfree data
    refine ⟨_, (exec_mwrP_memory hatt).trans (congrArg _ (State.hostPartial_written _ _ (not_partialBreaks h1 h64 hline) hwait hbar hwrite)),
      ?_, hloc, ?_, ?_, ?_⟩
    · rw [hframe]
      rfl
    · exact (congrArg (fun m => memRead m a data.length) hloc).trans (memRead_memWrite ..)
    · exact fun x hx => (congrArg (fun m => Tab.rd m x) hloc).trans (memWrite_rd_outside _ _ _ _ hx)
    · rw [hframe]
      rfl
  · exact (exec_mwrP_memory hatt).trans (congrArg _ (State.hostPartial_unsupported _ _ (hbad.imp_left (congrArg List.length))))
  · have hfree' : ∀ l ∈ linesOf a 128, s.lineBusy true l = false := by
      rw [linesOf_line hal]
      exact fun l hl => List.mem_singleton.mp hl ▸ hfree
    obtain ⟨t, hwrite, hloc, hframe⟩ := State.writePiece_host hbar hfree' data
    have hread := memRead_memWrite s.mem.loc a data
    rw [hlen] at hread
    refine ⟨_, (exec_mwr_memory hatt 1).trans (congrArg _ (State.hostBurst_line _ _ hburst hwait hnew hlen hbar hwrite)), ?_,
      (congrArg (fun m => memRead m a 128) hloc).trans hread, fun x hx => ?_, ?_⟩
    · rw [hframe]
      rfl
    · exact (congrArg (fun m => Tab.rd m x) hloc).trans (memWrite_rd_outside _ _ _ _ (hlen.symm ▸ hx))
    · rw [hframe]
      rfl
  · exact (exec_mwr_memory hatt _).trans (congrArg _ (State.hostBurst_barred _ _ (Nat.le_of_lt_succ h) hburst hwait hbar))
  · exact congrArg _ (if_neg (by simp [hatt, hst, hdata]))
  · exact congrArg _ (if_pos (by simpa using hno))
  · have hg := s.guard_guarded h
    exact ⟨hg.bursts, hg.reads, hg.holders, hg.loc, hg.frame⟩
  · obtain ⟨hb, hr, hup, hloc, -⟩ := s.linkReset_leaves up
    exact ⟨hb, hr, hup, hloc⟩
  · obtain ⟨hb, hr, hup, hloc, hpower⟩ := s.linkReset_leaves up
    generalize s.linkReset up = t at hb hr hup hloc hpower
    cases up with
    | true => exact ⟨hb, hr, hup, hloc, congrArg (fun p : Power => { p with wakeOut := false }) hpower⟩
    | false => exact ⟨hb, hr, hup, hloc, hpower⟩
  · exact ⟨congrArg _ (if_neg (not_attached_and_hostLink hoff)), congrArg _ (if_neg (not_attached_and_hostLink hoff))⟩
  · exact congrArg _ (if_pos (by simp [haw]))

end

section
/-! O21: the entries of the fault ring on an open die, and the delivery of the oldest held fault record (08 R301, R302). -/
namespace Sys2Proof.Machine
open Sys2Proof

section
variable {s : State} {by' : Principal} {base : U64} {kind log2 : Byte} {tail v : U32}

/-- The die with its fault ring named, TAIL and FAULT_RING_HEAD at 0 (08 R301). -/
def State.nameRing (s : State) (base : U64) (kind log2 : Byte) : State :=
  { s with xlat := { s.xlat with ringBase := base.toNat, ringKind := kind.toNat, ringLog2 := log2.toNat, ringTail := 0, ringHead := 0 } }

/-- The die with FAULT_RING_HEAD moved. -/
def State.moveRingHead (s : State) (v : U32) : State := { s with xlat := { s.xlat with ringHead := v } }

theorem exec_faultRingWrite (h : s.serving) : exec (.faultRingWrite by' base kind log2 tail) s = .next (
    if by' ≠ .hostk ∧ by' ≠ .rtp then s.answer .denied
    else if base.toNat % 32 ≠ 0 ∨ (kind ≠ 0 ∧ kind ≠ 2) ∨ ¬(log2 = 0 ∨ (6 ≤ log2.toNat ∧ log2.toNat ≤ 12)) then s.answer .unsupported
    else (s.nameRing base kind log2).answer .ok) :=
  congrArg Host.Outcome.next (State.served_serving h 36 _)

theorem exec_faultRingHeadWrite (h : s.serving) : exec (.faultRingHeadWrite by' v) s = .next (
    if by' ≠ .hostk then s.answer .denied
    else if (s.xlat.ringTail - s.xlat.ringHead).toNat < (v - s.xlat.ringHead).toNat then s.answer .unsupported
    else (s.moveRingHead v).answer .ok) :=
  congrArg Host.Outcome.next (State.served_serving h 36 _)

end

/-! ## Held records -/

section
variable {s t : State} {f : FaultRec} {fs : List FaultRec}

/-- The slot of the fault ring that TAIL names (08 R301). -/
def Xlat.tailSlot (x : Xlat) : Piece :=
  { back := if x.ringKind = 2 then .host else .loc, addr := x.ringBase + 32 * (x.ringTail.toNat % 2 ^ x.ringLog2),
    len := 32, nocache := false, dva := 0 }

/-- A record that was written: TAIL rises and the fault interrupt goes out (08 R301, R302). -/
def State.recorded (s : State) : State :=
  ({ s with xlat := { s.xlat with ringTail := s.xlat.ringTail + 1 } }).interrupt s.link.faultVector

theorem State.recorded_leaves (s : State) : s.recorded.xlat = { s.xlat with ringTail := s.xlat.ringTail + 1 } ∧
    s.recorded.mem = s.mem ∧ s.recorded.sent = if s.link.faultVector = 0xFFFF then s.sent else .intr s.link.faultVector :: s.sent := by
  unfold State.recorded State.interrupt
  split <;> exact ⟨rfl, rfl, rfl⟩

theorem State.writeRecord_of_ok {a : Unit} (h : s.writePiece .host s.xlat.tailSlot (faultBytes f) = .ok a t) :
    s.writeRecord f = t.recorded := by
  unfold Xlat.tailSlot at h
  unfold State.writeRecord
  dsimp only
  rw [h]
  rfl

theorem State.writeRecord_of_wait (h : s.writePiece .host s.xlat.tailSlot (faultBytes f) = .wait t) :
    s.writeRecord f = { t with xlat := { t.xlat with held := f :: t.xlat.held } } := by
  unfold Xlat.tailSlot at h
  unfold State.writeRecord
  dsimp only
  rw [h]

theorem State.writeRecord_of_lost (hok : ∀ a t, s.writePiece .host s.xlat.tailSlot (faultBytes f) ≠ .ok a t)
    (hwait : ∀ t, s.writePiece .host s.xlat.tailSlot (faultBytes f) ≠ .wait t) :
    s.writeRecord f = s.emit 58 0x321 f.parcel f.cause.code := by
  unfold Xlat.tailSlot at hok hwait
  unfold State.writeRecord
  dsimp only
  split
  · next h => exact absurd h (hok _ _)
  · next h => exact absurd h (hwait _)
  · rfl

theorem exec_faultRecordDelivery_idle (h : s.xlat.held = [] ∨ s.xlat.ringFull = true) : exec .faultRecordDelivery s = .next s := by
  change execFaultRecordDelivery s = _
  unfold execFaultRecordDelivery
  obtain hnone | hfull := h
  · rw [hnone]
  · cases s.xlat.held with
    | nil => rfl
    | cons f fs => exact congrArg _ (if_pos hfull)

theorem exec_faultRecordDelivery_held (hheld : s.xlat.held = f :: fs) (hfull : s.xlat.ringFull = false) :
    exec .faultRecordDelivery s = .next (State.writeRecord { s with xlat := { s.xlat with held := fs } } f) := by
  change execFaultRecordDelivery s = _
  unfold execFaultRecordDelivery
  rw [hheld]
  exact congrArg _ (if_neg (Bool.eq_false_iff.mp hfull))

end

end Sys2Proof.Machine

open Sys2Proof Sys2Proof.Machine

/-- Settles O21: each write of the ring by its refusals in order, a delivery by what the write of TAIL's slot answers. -/
theorem faultRingKeepsItsRanges : Obligations.FaultRingKeepsItsRanges := by
  unfold Obligations.FaultRingKeepsItsRanges
  refine ⟨fun s by' base kind log2 tail h => ⟨fun hk hr => ?_, fun hby => ⟨fun hbad => ?_, fun hbase hkind hlog2 => ?_⟩⟩,
    fun s by' v h => ⟨fun hk => ?_, fun hback => ?_, fun hin => ?_⟩, fun s => exec_faultRecordDelivery_idle,
    fun s f fs hheld hfull => ⟨_, exec_faultRecordDelivery_held hheld hfull, ?_⟩⟩
  · exact (exec_faultRingWrite h).trans (congrArg _ (if_pos ⟨hk, hr⟩))
  · rw [exec_faultRingWrite h, if_neg (not_other_writer hby), if_pos hbad]
    rfl
  · have hgood : ¬(base.toNat % 32 ≠ 0 ∨ (kind ≠ 0 ∧ kind ≠ 2) ∨ ¬(log2 = 0 ∨ (6 ≤ log2.toNat ∧ log2.toNat ≤ 12))) := by
      rintro (hb | ⟨h0, h2⟩ | hl)
      · exact hb hbase
      · exact hkind.elim h0 h2
      · exact hl hlog2
    rw [exec_faultRingWrite h, if_neg (not_other_writer hby), if_neg hgood]
    rfl
  · exact (exec_faultRingHeadWrite h).trans (congrArg _ (if_pos hk))
  · rw [exec_faultRingHeadWrite h, if_neg (not_not.mpr rfl), if_pos hback]
    rfl
  · rw [exec_faultRingHeadWrite h, if_neg (not_not.mpr rfl), if_neg (Nat.not_lt.mpr hin)]
    rfl
  · split
    · next a w hw =>
      rw [State.writeRecord_of_ok hw]
      exact w.recorded_leaves
    · next w hw => rw [State.writeRecord_of_wait hw]
    · next hok hwait => exact State.writeRecord_of_lost hok hwait

end

section
/-! O23, the configuration: which writes of it are refused, and what an installed one leaves (08 R275-R279, R308). -/
namespace Sys2Proof.Machine
open Sys2Proof

/-! ## The ranges of a configuration -/

section
variable {s : State} {c : XlatConfig}

/-- Ranges of Table 8.2 that every accepted configuration keeps (08 R275, R279). -/
theorem State.ranges_of_cfgOk (h : s.cfgOk c = true) : c.mode ≤ 2 ∧ (c.tableKind = 0 ∨ c.tableKind = 2) ∧ c.apBase + c.apLen ≤ 2 ^ 48 ∧
    (c.tableKind = 0 → c.mode ≠ 0 → c.base + c.tableBytes ≤ 2 ^ 36) := by
  unfold State.cfgOk at h
  simp only [Bool.and_eq_true, Bool.or_eq_true, decide_eq_true_eq, beq_iff_eq, bne_iff_ne] at h
  obtain ⟨⟨⟨⟨⟨⟨⟨⟨hmode, hkind⟩, -⟩, -⟩, -⟩, -⟩, -⟩, hap⟩, htable⟩ := h
  refine ⟨hmode, hkind, hap, fun hloc hon => ?_⟩
  obtain (hhost | hoff) | ⟨hfits, -⟩ := htable
  · exact absurd hloc hhost
  · exact absurd hoff hon
  · exact hfits

end

/-! ## Entries of the translation cache that go -/

section
variable {s : State} {p : Nat}

theorem State.cache_cacheDrop (p lo hi : Nat) : (s.cacheDrop p lo hi).xlat.cache.rd p =
    (s.xlat.cache.rd p).filter (fun e => !decide (e.start < hi ∧ lo < e.start + e.len)) := Tab.rd_upd_same ..

theorem State.cache_cacheDrop_other (lo hi : Nat) {o : Nat} (h : o ≠ p) : (s.cacheDrop p lo hi).xlat.cache.rd o = s.xlat.cache.rd o :=
  Tab.rd_upd_other _ _ h

/-- No cached translation of a parcel meets a range that was dropped. -/
theorem State.outside_of_cacheDrop {lo hi : Nat} {e : XlatEntry} (h : e ∈ (s.cacheDrop p lo hi).xlat.cache.rd p) :
    hi ≤ e.start ∨ e.start + e.len ≤ lo := by
  rw [State.cache_cacheDrop, List.mem_filter, Bool.not_eq_true', decide_eq_false_iff_not, not_and_or, Nat.not_lt, Nat.not_lt] at h
  exact h.2

end

/-! ## Writes of the configuration -/

section
variable {s : State} {by' : Principal} {p : Fin 8} {mode kind : Byte} {count : U16} {reserved : U32} {base apBase apLen apOff : U64}

/-- The configuration that the fields of a write spell out (08 Table 8.2). -/
def writtenConfig (mode kind : Byte) (count : U16) (base apBase apLen apOff : U64) : XlatConfig :=
  { mode := mode.toNat, tableKind := kind.toNat, count := count.toNat, base := base.toNat, apBase := apBase.toNat, apLen := apLen.toNat,
    apOff := apOff }

/-- The die with a parcel's configuration replaced and its cached translations gone (08 R279). -/
def State.configure (s : State) (p : Nat) (c : XlatConfig) : State :=
  { s with xlat := { s.xlat with cfg := s.xlat.cfg.wr p c } }.cacheDrop p 0 (2 ^ 48)

/-- The shootdown of a parcel's whole space that a write of its configuration starts (08 R308). -/
def wholeShoot (p : Nat) : Shoot := { parcel := p, tag := none, start := 0, len := 0 }

/-- The die with the table of a parcel's bound jobs replaced: the holder's configuration, the cached translations and the shootdown of the
whole space that ends the write (08 R308). -/
def State.retable (s : State) (p : Nat) (c : XlatConfig) : State :=
  let s := { s with xlat := { s.xlat with cfg := s.xlat.cfg.wr p c, shoots := s.xlat.shoots ++ [wholeShoot p] } }
  let s := match (s.parcel p).holder with
    | some k => s.updJob p k (fun j => { j with cfg := c })
    | none => s
  let s := s.cacheDrop p 0 (2 ^ 48)
  { s with queues := s.queues.updListed (fun q x =>
      if s.queueParcel q = some p then
        { x with consumed := x.consumed.map (fun d => if d.started then d else { d with retrans := true }) }
      else x) }

theorem State.retable_leaves (s : State) (p : Nat) (c : XlatConfig) : (s.retable p c).xlat.cfg = s.xlat.cfg.wr p c ∧
    (s.retable p c).xlat.shoots = s.xlat.shoots ++ [wholeShoot p] ∧ (s.retable p c).reply = s.reply ∧
    s.retable p c = { s with
      xlat := { s.xlat with cfg := (s.retable p c).xlat.cfg, cache := (s.retable p c).xlat.cache, shoots := (s.retable p c).xlat.shoots }
      queues := (s.retable p c).queues
      jobs := (s.retable p c).jobs } := by
  unfold State.retable
  dsimp only
  split <;> exact ⟨rfl, rfl, rfl, rfl⟩

theorem exec_xlatConfigWrite (h : s.serving) : exec (.xlatConfigWrite by' p mode kind count reserved base apBase apLen apOff) s = .next (
    let c := writtenConfig mode kind count base apBase apLen apOff
    if by' ≠ .hostk ∧ by' ≠ .rtp then s.answer .denied
    else if reserved ≠ 0 ∨ s.cfgOk c = false then s.answer .unsupported
    else if s.hasJob p then
      if { s.xlat.cfg.rd p with base := c.base, count := c.count } ≠ c then s.answer .busy
      else if s.xlat.shoots.length ≥ 8 then s.busy 10
      else s.retable p c
    else (s.configure p c).answer .ok) :=
  congrArg Host.Outcome.next (State.served_serving h 36 _)

theorem exec_xlatConfigWrite_checked (h : s.serving) (hby : by' = .hostk ∨ by' = .rtp) (hres : reserved = 0)
    (hok : s.cfgOk (writtenConfig mode kind count base apBase apLen apOff) = true) :
    exec (.xlatConfigWrite by' p mode kind count reserved base apBase apLen apOff) s = .next (
      let c := writtenConfig mode kind count base apBase apLen apOff
      if s.hasJob p then
        if { s.xlat.cfg.rd p with base := c.base, count := c.count } ≠ c then s.answer .busy
        else if s.xlat.shoots.length ≥ 8 then s.busy 10
        else s.retable p c
      else (s.configure p c).answer .ok) :=
  (exec_xlatConfigWrite h).trans (congrArg _ ((if_neg (not_other_writer hby)).trans (if_neg (by simp [hres, hok]))))

end

end Sys2Proof.Machine
end

section
/-! O23, advice, prefetch and the forced abandonment of a semaphore (08 R316-R324; 09 R356). -/
namespace Sys2Proof.Machine
open Sys2Proof

/-! ## Advice -/

section
variable {s : State} {p : Nat} {l : List AdviceRange}

theorem State.setAdvice_frame (s : State) (p : Nat) (l : List AdviceRange) : ∃ e g, s.setAdvice p l =
    { s with xlat := { s.xlat with advice := s.xlat.advice.wr p (l.drop (l.length - 16)) }, events := e, gaps := g } := by
  unfold State.setAdvice
  dsimp only
  split
  · obtain ⟨e, g, h⟩ := State.emit_only { s with xlat := { s.xlat with advice := s.xlat.advice.wr p (l.drop (l.length - 16)) } } 58 0x323 p p
    exact ⟨e, g, h⟩
  · exact ⟨_, _, rfl⟩

/-- The advice of a parcel is the newest 16 of the ranges it is set to (08 R324). -/
theorem State.advice_setAdvice (s : State) (p : Nat) (l : List AdviceRange) : (s.setAdvice p l).xlat.advice.rd p = l.drop (l.length - 16) := by
  obtain ⟨e, g, h⟩ := s.setAdvice_frame p l
  rw [h]
  exact Tab.rd_wr_same ..

theorem State.advice_setAdvice_other {o : Nat} (ho : o ≠ p) : (s.setAdvice p l).xlat.advice.rd o = s.xlat.advice.rd o := by
  obtain ⟨e, g, h⟩ := s.setAdvice_frame p l
  rw [h]
  exact Tab.rd_wr_other _ _ ho

/-- Advice of at most 16 ranges loses none, and no loss is counted (08 R324). -/
theorem State.setAdvice_of_le (h : l.length ≤ 16) : s.setAdvice p l =
    { s with xlat := { s.xlat with advice := (s.setAdvice p l).xlat.advice } } := by
  unfold State.setAdvice
  dsimp only
  rw [if_neg (Nat.not_lt.mpr h)]

/-- Nothing that is left of advice meets the range taken out of it (08 R323). -/
theorem outside_of_mem_cutAdvice {lo hi : Nat} {r : AdviceRange} (h : r ∈ cutAdvice lo hi l) : r.start + r.len ≤ lo ∨ hi ≤ r.start := by
  unfold cutAdvice at h
  obtain ⟨x, -, hr⟩ := List.mem_flatMap.mp h
  dsimp only at hr
  split at hr
  · next hout =>
    rw [List.mem_singleton.mp hr]
    exact hout
  · rw [List.mem_append, List.mem_ite_nil_right, List.mem_ite_nil_right, List.mem_singleton, List.mem_singleton] at hr
    obtain ⟨hbelow, rfl⟩ | ⟨-, rfl⟩ := hr
    · exact .inl (Nat.add_sub_of_le (Nat.le_of_lt hbelow)).le
    · exact .inr le_rfl

end

section
variable {s u : State} {q : Fin 1024} {kind p slot : Nat} {c : Cmd}

theorem State.advise_starts (h : s.startsForm q 5 kind p slot c u) (f : State → Nat → Nat → Nat → Cmd → State) : s.advise q kind f =
    (f u p (dRange c.bytes).1 ((dRange c.bytes).1 + (dRange c.bytes).2) c).endCmd q c.serial .ok .none := State.runHead_starts h _

/-- The advice of a parcel with a range of a kind as its newest. -/
def State.adviseRange (s : State) (p : Nat) (k : Advice) (r : Nat × Nat) : State :=
  s.setAdvice p (s.xlat.advice.rd p ++ [{ kind := k, start := r.1, len := r.2 }])

/-- ADVISE STREAM and KEEP end with their range as the newest advice of the parcel (08 R323, R324). -/
theorem exec_adviseRange {i : Instr} {k : Advice} (hi : (i, k, kind) ∈ [(Instr.adviseStream q, Advice.stream, 1), (.adviseKeep q, .keep, 2)])
    (h : s.startsForm q 5 kind p slot c u) : exec i s = .next ((u.adviseRange p k (dRange c.bytes)).endCmd q c.serial .ok .none) := by
  have hgo := State.advise_starts h (fun s p lo hi _ => s.adviseRange p k (lo, hi - lo))
  rw [Nat.add_sub_cancel_left] at hgo
  simp only [List.mem_cons, Prod.mk.injEq, List.not_mem_nil, or_false] at hi
  obtain ⟨rfl, rfl, rfl⟩ | ⟨rfl, rfl, rfl⟩ := hi
  · exact congrArg _ hgo
  · exact congrArg _ hgo

theorem exec_adviseNormal (h : s.startsForm q 5 0 p slot c u) : exec (.adviseNormal q) s = .next (
    (u.setAdvice p (cutAdvice (dRange c.bytes).1 ((dRange c.bytes).1 + (dRange c.bytes).2) (u.xlat.advice.rd p))).endCmd q c.serial .ok .none) :=
  congrArg Host.Outcome.next (State.advise_starts h _)

/-- Advice set by a command that ends leaves the rest of the die but for its events and queues. -/
theorem State.endCmd_setAdvice_only (u : State) (p q serial : Nat) (l : List AdviceRange) :
    let t := (u.setAdvice p l).endCmd q serial .ok .none
    t = { u with xlat := { u.xlat with advice := t.xlat.advice }, events := t.events, gaps := t.gaps, queues := t.queues } := by
  obtain ⟨e, g, h⟩ := u.setAdvice_frame p l
  dsimp only
  rw [h]
  rfl

end

/-! ## DROP -/

section
variable {s t u : State}

/-- State `t` is `s` but for the lines of the Device Cache. -/
def DcOnly (s t : State) : Prop := t = { s with mem := { s.mem with dc := t.mem.dc } }

theorem DcOnly.trans (h : DcOnly s t) (h' : DcOnly t u) : DcOnly s u := Eq.trans h' (by rw [h])

theorem DcOnly.foldl {γ : Type} {g : State → γ → State} (h : ∀ s a, DcOnly s (g s a)) (xs : List γ) (s : State) : DcOnly s (xs.foldl g s) := by
  induction xs generalizing s with
  | nil => rfl
  | cons a xs ih => exact (h s a).trans (ih _)

theorem DcOnly.loc (h : DcOnly s t) : t.mem.loc = s.mem.loc := by rw [h]

theorem DcOnly.endCmd (h : DcOnly s t) (q serial : Nat) (st : Status) (ca : Cause) : t.endCmd q serial st ca =
    State.setItem { s with mem := { s.mem with dc := t.mem.dc } } q serial 0 (.done st ca) := congrArg (State.endCmd · q serial st ca) h

theorem State.dcDrop_dcOnly (s : State) (pa : Nat) : DcOnly s (s.dcDrop pa) := by
  unfold State.dcDrop
  split <;> rfl

/-- Every line of a command's range is taken out of the Device Cache (08 R323). -/
def State.dropRange (s : State) (c : Cmd) (lo len : Nat) : State :=
  match runPieces (recOf c.record 0) lo len with
  | none => s
  | some ps => (ps.filter (fun x => x.back == .loc)).foldl (fun (s : State) x =>
      (linesOf x.addr x.len).foldl (fun (s : State) l => s.dcDrop (l * 128)) s) s

theorem State.dropRange_dcOnly (s : State) (c : Cmd) (lo len : Nat) : DcOnly s (s.dropRange c lo len) := by
  unfold State.dropRange
  split
  · rfl
  · exact .foldl (fun s x => .foldl (fun s l => s.dcDrop_dcOnly _) _ s) _ s

theorem exec_adviseDrop {q : Fin 1024} {p slot : Nat} {c : Cmd} (h : s.startsForm q 5 3 p slot c u) : exec (.adviseDrop q) s =
    .next ((u.dropRange c (dRange c.bytes).1 (dRange c.bytes).2).endCmd q c.serial .ok .none) := by
  have hgo := State.advise_starts h (fun s _ lo hi c => s.dropRange c lo (hi - lo))
  rw [Nat.add_sub_cancel_left] at hgo
  exact congrArg _ hgo

end

/-! ## PREFETCH -/

section
variable {s u : State} {q : Fin 1024} {p slot : Nat} {c : Cmd}

/-- The lines of a command's range that may be cached are read (08 R322). -/
def State.warm (s : State) (q p : Nat) (c : Cmd) : State :=
  match runPieces (recOf c.record 0) (dRange c.bytes).1 (dRange c.bytes).2 with
  | none => s.endCmd q c.serial .faulted .exec
  | some ps =>
      match s.readPieces (.parcel p) (ps.filter (fun x => x.back == .loc && !x.nocache)) with
      | .ok _ s => s.endCmd q c.serial .ok .none
      | .wait s => s
      | .remote _ _ => s.endCmd q c.serial .ok .none
      | .fail st ca => s.endCmd q c.serial st ca

theorem exec_prefetchWarm (h : s.startsForm q 4 1 p slot c u) : exec (.prefetchWarm q) s = .next (u.warm q p c) :=
  congrArg Host.Outcome.next (State.runHead_starts h _)

/-- Without a range table there is nothing to migrate (08 R317). -/
theorem State.migrate_of_no_range_table (h : (s.job p slot).cfg.mode ≠ 1) : s.migrate q p slot c = s.endCmd q c.serial .unsupported .none :=
  if_pos h

theorem exec_prefetchMigrate (h : s.startsForm q 4 0 p slot c u) : exec (.prefetchMigrate q) s = .next (u.migrate q p slot c) :=
  congrArg Host.Outcome.next (State.runHead_starts h _)

end

/-! ## SEM_FORCE_ABANDON -/

section
variable {s : State} {by' : Principal} {n : Byte}

/-- A semaphore is ABANDONED by force and counted, and its first waiter granted (09 R356). -/
def State.forceAbandon (s : State) (k : Nat) : State :=
  (State.emit { s with sems := s.sems.wr k { s.sems.rd k with st := .abandoned, abandons := (s.sems.rd k).abandons + 1 } } 57 0x330 0xFF k).semSettle

theorem exec_semForceAbandon (h : s.serving) : exec (.semForceAbandon by' n) s = .next (
    if by' ≠ .hostk ∧ by' ≠ .rtp then s.answer .denied
    else if (s.sems.rd n.toNat).st = .held then (s.forceAbandon n.toNat).answer .ok
    else s.answer .ok) :=
  congrArg Host.Outcome.next (State.served_serving h 35 _)

end

end Sys2Proof.Machine

open Sys2Proof Sys2Proof.Machine

/-- Settles O23: a configuration by its refusals in order and what an installed one leaves, a command that starts by the advice, the lines or
the status it leaves, a forced abandonment by the semaphore's state. -/
theorem translationConfigurationAndAdvice : Obligations.TranslationConfigurationAndAdvice := by
  unfold Obligations.TranslationConfigurationAndAdvice
  refine ⟨fun s by' p mode kind count reserved base apBase apLen apOff h => ⟨fun hk hr => ?_, fun hby => ⟨fun hbad => ?_, fun hrange => ?_,
      fun hres hok => ⟨fun hfree => ?_, fun hjob => ⟨fun hother => ?_, fun hsame hfull => ?_, fun hsame hroom => ?_⟩⟩⟩⟩,
    fun s u q p slot c i k arg hi h => ?_, fun s u q p slot c h => ⟨_, exec_adviseNormal h, State.advice_setAdvice .., fun r hr => ?_,
      u.endCmd_setAdvice_only ..⟩,
    fun s u q p slot c h => ⟨_, exec_adviseDrop h, ?_⟩, fun s u q p slot c h => ⟨_, exec_prefetchWarm h, ?_⟩,
    fun s u q p slot c h hmode => (exec_prefetchMigrate h).trans (congrArg _ (State.migrate_of_no_range_table hmode)),
    fun s by' n h => ⟨fun hk hr => ?_, fun hby => ⟨fun hfree => ?_, fun hheld => ?_⟩⟩⟩
  · exact (exec_xlatConfigWrite h).trans (congrArg _ (if_pos ⟨hk, hr⟩))
  · exact (exec_xlatConfigWrite h).trans (congrArg _ ((if_neg (not_other_writer hby)).trans (if_pos hbad)))
  · refine Bool.eq_false_iff.mpr fun hok => ?_
    obtain ⟨hmode, hkind, hap, htable⟩ := State.ranges_of_cfgOk hok
    obtain hm | ⟨h0, h2⟩ | ha | ⟨h0, hon, hfar⟩ := hrange
    · exact Nat.not_lt.mpr hmode hm
    · exact hkind.elim (fun hk => h0 (BitVec.eq_of_toNat_eq hk)) (fun hk => h2 (BitVec.eq_of_toNat_eq hk))
    · exact Nat.not_lt.mpr hap ha
    · exact Nat.not_lt.mpr (htable (congrArg BitVec.toNat h0) hon) hfar
  · refine ⟨_, (exec_xlatConfigWrite_checked h hby hres hok).trans (congrArg _ (if_neg (Bool.eq_false_iff.mp hfree))), Tab.rd_wr_same ..,
      fun o ho => Tab.rd_wr_other _ _ ho, fun e he => ?_, fun o ho => State.cache_cacheDrop_other _ _ ho, rfl, rfl⟩
    exact (State.outside_of_cacheDrop he).imp_right Nat.le_zero.mp
  · exact (exec_xlatConfigWrite_checked h hby hres hok).trans (congrArg _ ((if_pos hjob).trans (if_pos hother)))
  · exact (exec_xlatConfigWrite_checked h hby hres hok).trans (congrArg _ ((if_pos hjob).trans ((if_neg (not_not.mpr hsame)).trans (if_pos hfull))))
  · obtain ⟨hcfg, hshoots, hreply, honly⟩ := s.retable_leaves p (writtenConfig mode kind count base apBase apLen apOff)
    refine ⟨_, (exec_xlatConfigWrite_checked h hby hres hok).trans (congrArg _ ((if_pos hjob).trans ((if_neg (not_not.mpr hsame)).trans
      (if_neg (Nat.not_le.mpr hroom))))), ?_, hshoots, hreply, honly⟩
    rw [hcfg]
    exact Tab.rd_wr_same ..
  · exact ⟨_, exec_adviseRange hi h, State.advice_setAdvice .., fun o ho => State.advice_setAdvice_other ho,
      fun hle => congrArg (fun t => State.endCmd t q c.serial .ok .none) (State.setAdvice_of_le hle), u.endCmd_setAdvice_only ..⟩
  · exact outside_of_mem_cutAdvice (List.mem_of_mem_drop (u.advice_setAdvice p _ ▸ hr))
  · have honly := u.dropRange_dcOnly c (dRange c.bytes).1 (dRange c.bytes).2
    exact ⟨honly.loc, honly.endCmd ..⟩
  · unfold State.warm
    cases runPieces (recOf c.record 0) (dRange c.bytes).1 (dRange c.bytes).2 with
    | none => rfl
    | some ps =>
      dsimp only
      cases u.readPieces (.parcel p) (ps.filter (fun x => x.back == .loc && !x.nocache)) <;> rfl
  · exact (exec_semForceAbandon h).trans (congrArg _ (if_pos ⟨hk, hr⟩))
  · exact (exec_semForceAbandon h).trans (congrArg _ ((if_neg (not_other_writer hby)).trans (if_neg hfree)))
  · exact (exec_semForceAbandon h).trans (congrArg _ ((if_neg (not_other_writer hby)).trans (if_pos hheld)))

end

section
/-! Masked writes: the bytes they store, the runs they are made of, and the slices and pieces of memory they land in (03 R81; 14 R541, R545). -/
namespace Sys2Proof
open Sys2Proof.Machine

/-! ## Masked bytes in memory -/

theorem memWrite_append (m : Tab Byte) (a : Nat) (bs cs : List Byte) :
    memWrite m a (bs ++ cs) = memWrite (memWrite m a bs) (a + bs.length) cs := by
  induction bs generalizing m a with
  | nil => rfl
  | cons b bs ih => rw [List.cons_append, memWrite, ih, List.length_cons, memWrite, Nat.add_right_comm a 1, Nat.add_assoc]

/-- A masked write leaves every byte outside its range. -/
theorem memWriteMasked_rd_outside (m : Tab Byte) (a : Nat) (xs : List (Byte × Bool)) (y : Nat) (h : y < a ∨ a + xs.length ≤ y) :
    Tab.rd (memWriteMasked m a xs) y = Tab.rd m y := by
  induction xs generalizing m a with
  | nil => rfl
  | cons x xs ih =>
    rw [List.length_cons] at h
    rw [memWriteMasked, ih _ _ (by omega)]
    split
    · exact Tab.rd_wr_other _ _ (by omega)
    · rfl

/-- A masked write stores the bytes whose mask bit is set, in order, and leaves the others. -/
theorem memWriteMasked_rd_inside (m : Tab Byte) (a : Nat) (xs : List (Byte × Bool)) (k : Nat) (h : k < xs.length) :
    Tab.rd (memWriteMasked m a xs) (a + k) = if (xs.getD k (0, false)).2 = true then (xs.getD k (0, false)).1 else Tab.rd m (a + k) := by
  induction xs generalizing m a k with
  | nil => cases h
  | cons x xs ih =>
    cases k with
    | zero =>
      rw [memWriteMasked, memWriteMasked_rd_outside _ _ _ _ (by omega), List.getD_cons_zero, Nat.add_zero, apply_ite (Tab.rd · a), Tab.rd_wr_same]
    | succ k =>
      rw [memWriteMasked, Nat.add_comm k 1, ← Nat.add_assoc, ih _ _ k (Nat.lt_of_succ_lt_succ h), Nat.add_comm 1 k, List.getD_cons_succ]
      congr 1
      split
      · exact Tab.rd_wr_other _ _ (by omega)
      · rfl

/-- The runs of a masked write store what the masked write stores (14 R541). -/
theorem foldl_writtenRuns (off : Nat) (xs : List (Byte × Bool)) (n : Nat) (acc : List Byte) (m : Tab Byte) (h : acc.length ≤ n) :
    (writtenRuns xs n acc).foldl (fun m r => memWrite m (off + r.1) r.2) m =
      memWriteMasked (memWrite m (off + (n - acc.length)) acc) (off + n) xs := by
  induction xs generalizing n acc m with
  | nil =>
    cases acc with
    | nil => rfl
    | cons b acc => rfl
  | cons x xs ih =>
    obtain ⟨b, keep⟩ := x
    rw [memWriteMasked, Nat.add_assoc off n 1]
    cases keep with
    | true =>
      have hlen : (acc ++ [b]).length = acc.length + 1 := List.length_append
      rw [writtenRuns, if_pos rfl, ih _ _ _ (by omega), hlen, Nat.add_sub_add_right, memWrite_append, Nat.add_assoc, Nat.sub_add_cancel h]
      rfl
    | false =>
      cases acc with
      | nil => exact ih _ _ _ (Nat.zero_le _)
      | cons a acc => exact ih _ _ _ (Nat.zero_le _)

/-- A write with every byte kept is one run. -/
theorem writtenRuns_kept (bs : List Byte) (n : Nat) (acc : List Byte) :
    writtenRuns (bs.map (fun b => (b, true))) n acc = writtenRuns [] (n + bs.length) (acc ++ bs) := by
  induction bs generalizing n acc with
  | nil => rw [List.map_nil, List.append_nil, List.length_nil, Nat.add_zero]
  | cons b bs ih =>
    refine (ih (n + 1) (acc ++ [b])).trans ?_
    rw [List.append_assoc, List.singleton_append, List.length_cons, Nat.add_assoc, Nat.add_comm 1]

theorem writtenRuns_whole {bs : List Byte} (h : bs ≠ []) : writtenRuns (bs.map (fun b => (b, true))) 0 [] = [(0, bs)] := by
  rw [writtenRuns_kept, List.nil_append, Nat.zero_add, writtenRuns, if_neg (by simpa using h), Nat.sub_self]

/-- A whole write whose lines all arrived keeps every byte of its payload (14 R538, R545). -/
theorem writeData_whole {m : Msg} (hop : m.op ≠ 3) (hkept : m.kept = none) (hlen : m.payload.length = 128 * (m.ctl % 4 + 1)) :
    writeData m = m.payload.map (fun b => (b, true)) := by
  unfold writeData
  rw [if_neg hop, hkept]
  refine List.ext_getElem (by simp) fun i h1 h2 => ?_
  have hi : i < 128 * (m.ctl % 4 + 1) := hlen ▸ (by simpa using h2)
  simp only [List.getElem_map, List.getElem_zipIdx, Prod.mk.injEq, decide_eq_true_eq, true_and]
  omega

namespace Machine

/-! ## A slice filled by a masked write -/

section
variable {u : State} {sl : Nat}

theorem State.slc_storeRuns_other (runs : List (Nat × List Byte)) {n : Nat} (h : n ≠ sl) : (u.storeRuns sl runs).slc.rd n = u.slc.rd n := by
  unfold State.storeRuns
  induction runs generalizing u with
  | nil => rfl
  | cons r runs ih => exact ih.trans (State.slc_updSlc_other _ h _)

theorem State.slc_complete_other {cs : List Claim} {n : Nat} (h : ∀ c ∈ cs, n ≠ c.slice) : (u.complete cs).slc.rd n = u.slc.rd n := by
  unfold State.complete
  induction cs generalizing u with
  | nil => rfl
  | cons c cs ih => exact (ih fun a ha => h a (List.mem_cons_of_mem c ha)).trans (State.slc_updSlc_other _ (h c List.mem_cons_self) _)

theorem State.slice_of_mem_takeClaims {gs : List Nat} {c : Claim} (h : c ∈ (u.takeClaims sl gs).2) : c.slice = sl :=
  beq_iff_eq.mp (List.all_eq_true.mp (u.slice_takeClaims sl gs) c h)

/-- A slice's granules claimed, masked bytes stored at an offset, and the claims complete (03 R81; 14 R541). -/
def State.fill (u : State) (sl off : Nat) (gs : List Nat) (xs : List (Byte × Bool)) : State :=
  ((u.takeClaims sl gs).1.storeRuns sl ((writtenRuns xs 0 []).map (fun r => (off + r.1, r.2)))).complete (u.takeClaims sl gs).2

variable (off : Nat) (gs : List Nat) (xs : List (Byte × Bool))

theorem State.bytes_fill : ((u.fill sl off gs xs).slc.rd sl).bytes = memWriteMasked (u.slc.rd sl).bytes off xs := by
  unfold State.fill
  rw [(State.complete_granOnly ..).bytes, State.bytes_storeRuns, if_pos rfl, List.foldl_map, foldl_writtenRuns _ _ _ _ _ (Nat.zero_le _),
    (State.takeClaims_granOnly ..).bytes]
  rfl

theorem State.slc_fill_other {n : Nat} (h : n ≠ sl) : (u.fill sl off gs xs).slc.rd n = u.slc.rd n := by
  unfold State.fill
  rw [State.slc_complete_other fun c hc => (State.slice_of_mem_takeClaims hc).symm ▸ h, State.slc_storeRuns_other _ h, State.slc_takeClaims_other _ h]

theorem State.present_fill {g : Nat} (h : g ∈ gs) : (((u.fill sl off gs xs).slc.rd sl).gran.rd g).st = .present := by
  obtain ⟨c, hc, rfl⟩ := List.mem_map.mp (u.gran_takeClaims sl gs ▸ h)
  have hpresent := State.present_complete ((u.takeClaims sl gs).1.storeRuns sl ((writtenRuns xs 0 []).map (fun r => (off + r.1, r.2)))) hc
  rwa [State.slice_of_mem_takeClaims hc] at hpresent

theorem State.fill_frame : u.fill sl off gs xs = { u with slc := (u.fill sl off gs xs).slc } := by
  unfold State.fill
  rw [(State.complete_granOnly ..).frame, State.storeRuns_frame, (State.takeClaims_granOnly ..).frame]

end

end Machine
end Sys2Proof
end

section
/-! O38: requests of a parcel's member dies served at the target, and the refusals of others (08 R271, R272; 09 R342-R354; 10 R371, R380; 14 R538,
R541). -/
namespace Sys2Proof
open Sys2Proof.Machine

/-- The bytes of an atomic: 8 where its control's bit 6 is set, else 4 (09 R342). -/
def Msg.width (m : Msg) : Nat := if bitAt m.ctl 6 = true then 8 else 4

/-- The owner that a remote acquire or release names: its die and queue (09 R354). -/
def Msg.semOwner (m : Msg) : SemOwner := .die m.src (m.addr / 256 % 1024)

namespace Machine

/-! ## Who is served -/

section
variable {s : State} {m : Msg} {p : Nat} {st : Status}

theorem State.serveGate_quarantined (h : s.agree.standing = .quarantined) : s.serveGate p m = some .quarantined := by
  rw [State.serveGate, h]

theorem State.serveGate_fenced (h : s.agree.standing = .fenced) : s.serveGate p m = some .denied := by
  rw [State.serveGate, h]

/-- On an admitted die an active parcel serves the requests of its fabric ID that come from its members (14 R541). -/
theorem State.serveGate_admitted (h : s.agree.standing = .admitted) : s.serveGate p m =
    if (s.parcel p).active && (s.parcel p).fabricId == m.fabric && s.fabricMember m.fabric m.src then none else some .denied := by
  rw [State.serveGate, h]

/-- Lines of a parcel that does not serve the requester are refused with the gate's status. -/
theorem State.spot_of_serveGate (h : s.serveGate (bitsOf m.addr 47 45) m = some st) (len : Nat) (r w : Bool) : s.spot m len r w = .refuse st s := by
  unfold State.spot
  dsimp only
  rw [h]

/-- A request that names a parcel's resource is served where that parcel serves its sender. -/
def State.serves (s : State) (m : Msg) : Option Nat → Bool
  | some p => (s.serveGate p m).isNone
  | none => false

theorem State.serves_eq_false {o : Option Nat} (h : o = none ∨ ∃ p, o = some p ∧ s.serveGate p m ≠ none) : s.serves m o = false := by
  obtain rfl | ⟨p, rfl, hgate⟩ := h
  · rfl
  · exact Option.isNone_eq_false_iff.mpr (Option.isSome_iff_ne_none.mpr hgate)

theorem State.serves_eq_true {o : Option Nat} (ho : o = some p) (hgate : s.serveGate p m = none) : s.serves m o = true := by
  rw [ho, State.serves, hgate, Option.isNone_none]

end

/-! ## Reads and writes of lines -/

section
variable {s u v : State} {m : Msg} {c : Instr} {p sl off : Nat} {ps : List Piece} {st : Status}

theorem exec_of_mem_lineReads (h : c ∈ lineReads m) : exec c s = .next (s.serveRead m) := by
  simp only [lineReads, List.mem_cons, List.not_mem_nil, or_false] at h
  obtain rfl | rfl := h <;> rfl

theorem exec_of_mem_lineWrites (h : c ∈ lineWrites m) : exec c s = .next (s.serveWrite m) := by
  simp only [lineWrites, List.mem_cons, List.not_mem_nil, or_false] at h
  obtain rfl | rfl | rfl | rfl := h <;> rfl

theorem exec_of_mem_lines {t : State} (h : s.serveRead m = t ∧ s.serveWrite m = t) (hc : c ∈ lineReads m ++ lineWrites m) : exec c s = .next t := by
  obtain hc | hc := List.mem_append.mp hc
  · rw [exec_of_mem_lineReads hc, h.1]
  · rw [exec_of_mem_lineWrites hc, h.2]

theorem State.serve_unaligned (h : Msg.aligned m = false) :
    s.serveRead m = s.replyTo m .unsupported 0 [] ∧ s.serveWrite m = s.replyTo m .unsupported 0 [] := by
  rw [State.serveRead, State.serveWrite, h]
  exact ⟨rfl, rfl⟩

section
variable (ha : Msg.aligned m = true)
include ha

theorem State.serveRead_refused (h : s.spot m (128 * (m.ctl % 4 + 1)) true false = .refuse st u) : s.serveRead m = u.replyTo m st 0 [] := by
  unfold State.serveRead
  simp only [ha, h, Bool.not_true, Bool.false_eq_true, if_false]

theorem State.serveWrite_refused (h : s.spot m (128 * (m.ctl % 4 + 1)) false true = .refuse st u) : s.serveWrite m = u.replyTo m st 0 [] := by
  unfold State.serveWrite
  simp only [ha, h, Bool.not_true, Bool.false_eq_true, if_false]

/-- A request of lines of a parcel that does not serve the requester is refused with the gate's status (14 R541). -/
theorem State.serve_ungated (h : s.serveGate (bitsOf m.addr 47 45) m = some st) :
    s.serveRead m = s.replyTo m st 0 [] ∧ s.serveWrite m = s.replyTo m st 0 [] :=
  ⟨State.serveRead_refused ha (State.spot_of_serveGate h ..), State.serveWrite_refused ha (State.spot_of_serveGate h ..)⟩

theorem State.serveRead_mem {bs : List Byte} (h : s.spot m (128 * (m.ctl % 4 + 1)) true false = .mem p ps u)
    (hread : u.readPieces (.parcel p) ps = .ok bs v) : s.serveRead m = v.replyTo m .ok 0 bs := by
  unfold State.serveRead
  simp only [ha, h, hread, Bool.not_true, Bool.false_eq_true, if_false]

/-- A slice is read once its granules can be held, and answers its bytes or that a word of them is bad (03 R83, R90; 14 R541). -/
theorem State.serveRead_slice (h : s.spot m (128 * (m.ctl % 4 + 1)) true false = .slice p sl off u) : s.serveRead m =
    let x := u.slc.rd sl
    let len := 128 * (m.ctl % 4 + 1)
    if x.withdrawn || !x.powered || !(granules off len).all (fun g => (x.gran.rd g).holdable) then u
    else if x.badRange off len then u.replyTo m .faulted 0 [] else u.replyTo m .ok 0 (memRead x.bytes off len) := by
  unfold State.serveRead
  simp only [ha, h, Bool.not_true, Bool.false_eq_true, if_false]

/-- A slice is written once its granules can be claimed (03 R81; 14 R541). -/
theorem State.serveWrite_slice (h : s.spot m (128 * (m.ctl % 4 + 1)) false true = .slice p sl off u) : s.serveWrite m =
    let gs := granules off (128 * (m.ctl % 4 + 1))
    if u.canClaim sl gs then (u.fill sl off gs (writeData m)).replyTo m .ok 0 [] else u := by
  unfold State.serveWrite
  simp only [ha, h, Bool.not_true, Bool.false_eq_true, if_false]
  cases u.canClaim sl (granules off (128 * (m.ctl % 4 + 1))) with
  | false => rfl
  | true => simp only [Bool.not_true, Bool.false_eq_true, if_false, if_true, State.fill, State.storeRuns, List.foldl_map]

/-- A whole write to lines that no agent holds is one write of its payload (14 R538, R541). -/
theorem State.serveWrite_mem (hop : m.op ≠ 3) (hkept : m.kept = none) (hlen : m.payload.length = 128 * (m.ctl % 4 + 1))
    (h : s.spot m (128 * (m.ctl % 4 + 1)) false true = .mem p ps u) (hfree : ∀ x ∈ ps, u.pieceBusy x = false)
    (hwrite : u.writePieces (.parcel p) (subPieces ps 0 m.payload.length) m.payload = .ok () v) : s.serveWrite m = v.replyTo m .ok 0 [] := by
  have hidle : ps.filter u.pieceBusy = [] := List.filter_eq_nil_iff.mpr fun x hx => Bool.eq_false_iff.mp (hfree x hx)
  have hruns : writtenRuns (writeData m) 0 [] = [(0, m.payload)] := by
    rw [writeData_whole hop hkept hlen, writtenRuns_whole]
    exact List.ne_nil_of_length_pos (by omega)
  unfold State.serveWrite
  simp only [ha, h, hidle, hruns, hwrite, Bool.not_true, Bool.false_eq_true, List.isEmpty_nil, List.foldl_cons, List.foldl_nil, if_false, if_true]

end

end

/-! ## Atomics -/

section
variable {s u v w : State} {m : Msg} {p sl off : Nat} {ps : List Piece} {st : Status}

theorem exec_atom_misaligned (h : m.addr % m.width ≠ 0) : exec (.atom m) s = .next (s.replyTo m .faulted 0 []) :=
  congrArg Host.Outcome.next (if_pos h)

section
variable (hal : m.addr % m.width = 0)
include hal

theorem exec_atom_refused (h : s.spot m m.width true true = .refuse st u) : exec (.atom m) s = .next (u.replyTo m st 0 []) := by
  refine congrArg Host.Outcome.next ((if_neg (not_not.mpr hal)).trans ?_)
  rw [Msg.width] at h
  rw [h]

theorem exec_atom_slice (h : s.spot m m.width true true = .slice p sl off u) : exec (.atom m) s = .next (u.replyTo m .unsupported 0 []) := by
  refine congrArg Host.Outcome.next ((if_neg (not_not.mpr hal)).trans ?_)
  rw [Msg.width] at h
  rw [h]

variable (h : s.spot m m.width true true = .mem p ps u)
include h

theorem exec_atom_unoffered (hno : ∃ x ∈ ps, u.atomicOffered (bitsOf m.ctl 5 2) x.back = false) :
    exec (.atom m) s = .next (u.replyTo m .unsupported 0 []) := by
  have hall : ps.all (fun x => u.atomicOffered (bitsOf m.ctl 5 2) x.back) = false := List.all_eq_false.mpr (by simpa using hno)
  refine congrArg Host.Outcome.next ((if_neg (not_not.mpr hal)).trans ?_)
  rw [Msg.width] at h
  rw [h]
  exact if_pos (by rw [hall]; rfl)

/-- An atomic that is offered writes its new value once and answers the old one (09 R342-R344). -/
theorem exec_atom_done {bs : List Byte} {new : Nat}
    (hyes : ∀ x ∈ ps, u.atomicOffered (bitsOf m.ctl 5 2) x.back = true ∧ u.pieceBusy x = false) (hread : u.readPieces (.parcel p) ps = .ok bs v)
    (hnew : atomicNew (bitsOf m.ctl 5 2) m.width (leNat bs) (field m.payload 0 m.width) (field m.payload 8 m.width) = some new)
    (hwrite : v.writePieces (.parcel p) ps (leBytes m.width new) = .ok () w) :
    exec (.atom m) s = .next (w.replyTo m .ok 0 (leBytes 8 (leNat bs))) := by
  have hall : ps.all (fun x => u.atomicOffered (bitsOf m.ctl 5 2) x.back) = true := List.all_eq_true.mpr fun x hx => (hyes x hx).1
  have hidle : ps.any u.pieceBusy = false := List.any_eq_false.mpr fun x hx => Bool.eq_false_iff.mp (hyes x hx).2
  refine congrArg Host.Outcome.next ((if_neg (not_not.mpr hal)).trans ?_)
  rw [Msg.width] at h hnew hwrite
  simp only [h, hall, hidle, hread, hnew, hwrite, Bool.not_true, Bool.false_eq_true, if_false]

end

end

/-! ## Semaphores and doorbells -/

section
variable {s : State} {m : Msg} {p : Nat}

/-- What a served acquire leaves and answers (09 R347, R354). -/
def State.acquireFor (s : State) (m : Msg) : State :=
  let k := m.addr % 256
  let r := (s.sems.rd k).acquire m.semOwner (bitAt m.ctl 3) m.tag
  match r.2 with
  | .acquired => ({ s with sems := s.sems.wr k r.1 }).replyTo m .ok 0 (leBytes 8 0)
  | .abandoned =>
      if bitAt m.ctl 3 then ({ s with sems := s.sems.wr k r.1 }).replyTo m .ok 0 (leBytes 8 1)
      else s.replyTo m .abandoned 0 (leBytes 8 1)
  | .waits => ({ s with sems := s.sems.wr k r.1 }).take m
  | .fault => s.replyTo m .faulted 0 (leBytes 8 0)

/-- A SEM outside the parcels that serve its sender is denied; one inside is a release, an acquire that finds the 64 places full, or another
acquire (09 R347, R351, R354). -/
theorem exec_sem (s : State) (m : Msg) : exec (.sem m) s = .next (
    let k := m.addr % 256
    let x := s.sems.rd k
    if !s.serves m (s.semParcel k) then s.replyTo m .denied 0 (leBytes 8 0)
    else if bitAt m.ctl 2 then
      if x.st = .held ∧ x.owner = some m.semOwner then
        (State.replyTo { s with sems := s.sems.wr k { x with st := .free, owner := none } } m .ok 0 (leBytes 8 0)).semSettle
      else s.replyTo m .faulted 0 (leBytes 8 0)
    else if x.st = .held ∧ x.owner ≠ some m.semOwner ∧ 64 ≤ s.remoteWaiters then (s.replyTo m .busy 2 (leBytes 8 0)).emit 57 0x331 0xFF k
    else s.acquireFor m) := rfl

theorem exec_sem_denied (h : s.serves m (s.semParcel (m.addr % 256)) = false) : exec (.sem m) s = .next (s.replyTo m .denied 0 (leBytes 8 0)) :=
  (exec_sem s m).trans (congrArg _ (if_pos (by rw [h]; rfl)))

section
variable (h : s.serves m (s.semParcel (m.addr % 256)) = true)
include h

theorem exec_sem_release (hrel : bitAt m.ctl 2 = true) : exec (.sem m) s = .next (
    let k := m.addr % 256
    let x := s.sems.rd k
    if x.st = .held ∧ x.owner = some m.semOwner then
      (State.replyTo { s with sems := s.sems.wr k { x with st := .free, owner := none } } m .ok 0 (leBytes 8 0)).semSettle
    else s.replyTo m .faulted 0 (leBytes 8 0)) :=
  (exec_sem s m).trans (congrArg _ ((if_neg (by rw [h]; decide)).trans (if_pos hrel)))

theorem exec_sem_acquire (hacq : bitAt m.ctl 2 = false) : exec (.sem m) s = .next (
    let k := m.addr % 256
    let x := s.sems.rd k
    if x.st = .held ∧ x.owner ≠ some m.semOwner ∧ 64 ≤ s.remoteWaiters then (s.replyTo m .busy 2 (leBytes 8 0)).emit 57 0x331 0xFF k
    else s.acquireFor m) :=
  (exec_sem s m).trans (congrArg _ ((if_neg (by rw [h]; decide)).trans (if_neg (Bool.eq_false_iff.mp hacq))))

/-- An acquire that does not find the 64 places full is answered by the semaphore (09 R347). -/
theorem exec_sem_acquires (hacq : bitAt m.ctl 2 = false)
    (hroom : ¬((s.sems.rd (m.addr % 256)).st = .held ∧ (s.sems.rd (m.addr % 256)).owner ≠ some m.semOwner ∧ 64 ≤ s.remoteWaiters)) :
    exec (.sem m) s = .next (s.acquireFor m) := (exec_sem_acquire h hacq).trans (congrArg _ (if_neg hroom))

end

theorem State.acquireFor_free (hst : (s.sems.rd (m.addr % 256)).st = .free) : s.acquireFor m = State.replyTo { s with
    sems := s.sems.wr (m.addr % 256) { s.sems.rd (m.addr % 256) with st := .held, owner := some m.semOwner } } m .ok 0 (leBytes 8 0) := by
  simp only [State.acquireFor, Sem.acquire, hst]

theorem State.acquireFor_abandoned (hst : (s.sems.rd (m.addr % 256)).st = .abandoned) : s.acquireFor m =
    if bitAt m.ctl 3 then State.replyTo { s with
      sems := s.sems.wr (m.addr % 256) { s.sems.rd (m.addr % 256) with st := .held, owner := some m.semOwner } } m .ok 0 (leBytes 8 1)
    else s.replyTo m .abandoned 0 (leBytes 8 1) := by
  simp only [State.acquireFor, Sem.acquire, hst]

theorem State.acquireFor_own (hst : (s.sems.rd (m.addr % 256)).st = .held) (hown : (s.sems.rd (m.addr % 256)).owner = some m.semOwner) :
    s.acquireFor m = s.replyTo m .faulted 0 (leBytes 8 0) := by
  simp only [State.acquireFor, Sem.acquire, hst, hown, if_true]

theorem State.acquireFor_held (hst : (s.sems.rd (m.addr % 256)).st = .held) (hown : (s.sems.rd (m.addr % 256)).owner ≠ some m.semOwner) :
    s.acquireFor m = State.take { s with sems := s.sems.wr (m.addr % 256) { s.sems.rd (m.addr % 256) with
      waiters := (s.sems.rd (m.addr % 256)).waiters ++ [{ owner := m.semOwner, abnOk := bitAt m.ctl 3, tag := m.tag }] } } m := by
  simp only [State.acquireFor, Sem.acquire, hst, hown, if_false]

theorem exec_ringMessage (s : State) (m : Msg) : exec (.ringMessage m) s = .next (
    if !s.serves m (s.queueParcel (m.addr % 1024)) then s.replyTo m .denied 0 []
    else (s.ringTail (m.addr % 1024) (BitVec.ofNat 32 (field m.payload 0 4))).replyTo m .ok 0 []) := rfl

end

end Machine
end Sys2Proof

open Sys2Proof Sys2Proof.Machine

/-- Settles O38: lines by the gate and where they lie, an atomic by what its lines offer, a semaphore by its state, a doorbell by its parcel. -/
theorem remoteRequestsAreServedAtTheTarget : Obligations.RemoteRequestsAreServedAtTheTarget := by
  unfold Obligations.RemoteRequestsAreServedAtTheTarget
  refine ⟨fun s m ha c => exec_of_mem_lines (State.serve_unaligned ha),
    fun s m => ⟨State.serveGate_quarantined, State.serveGate_fenced, fun hin hbad => ?_, fun hin hact hfab hmem => ?_,
      fun st ha hgate c => exec_of_mem_lines (State.serve_ungated ha hgate)⟩,
    fun s u v m p ps bs ha hspot hread c hc => ?_, fun s u m p sl off ha hspot => ⟨fun hwait c hc => ?_, fun hin hpow hall => ⟨fun hbad c hc => ?_,
      fun hgood c hc => ?_⟩⟩,
    fun s u m p sl off ha hspot => ⟨fun hno c hc => ?_, fun hyes => ⟨u.fill sl off (granules off (128 * (m.ctl % 4 + 1))) (writeData m),
      fun c hc => ?_, fun i hi => ?_, fun a hout => ?_, fun g hg => State.present_fill _ _ _ hg, fun n hn => State.slc_fill_other _ _ _ hn,
      State.fill_frame ..⟩⟩,
    fun s u v m p ps ha hop hkept hlen hspot hfree hwrite c hc => ?_,
    fun s m => ⟨exec_atom_misaligned, fun st u => exec_atom_refused, fun p sl off u => exec_atom_slice, fun p ps u hal hspot =>
      ⟨exec_atom_unoffered hal hspot, fun bs v new w => exec_atom_done hal hspot⟩⟩,
    fun s m => ⟨fun hno => exec_sem_denied (State.serves_eq_false hno), fun p hp hgate => ?_⟩,
    fun s m => ⟨fun hno => ?_, fun p hp hgate => ?_⟩⟩
  · rw [State.serveGate_admitted hin]
    refine if_neg ?_
    rw [Bool.and_eq_true, Bool.and_eq_true, beq_iff_eq]
    rintro ⟨⟨hact, hfab⟩, hmem⟩
    obtain h | h | h := hbad
    · exact Bool.false_ne_true (h.symm.trans hact)
    · exact h hfab
    · exact Bool.false_ne_true (h.symm.trans hmem)
  · rw [State.serveGate_admitted hin, hact, hfab, hmem, BEq.rfl]
    rfl
  · rw [exec_of_mem_lineReads hc, State.serveRead_mem ha hspot hread]
  · rw [exec_of_mem_lineReads hc, State.serveRead_slice ha hspot]
    refine congrArg _ (if_pos ?_)
    rw [Bool.or_eq_true, Bool.or_eq_true, Bool.not_eq_true', Bool.not_eq_true', List.all_eq_false, or_assoc]
    simpa only [Bool.not_eq_true] using hwait
  · rw [exec_of_mem_lineReads hc, State.serveRead_slice ha hspot]
    exact congrArg _ ((if_neg (by simp [hin, hpow, List.all_eq_true.mpr hall])).trans (if_pos hbad))
  · rw [exec_of_mem_lineReads hc, State.serveRead_slice ha hspot]
    exact congrArg _ ((if_neg (by simp [hin, hpow, List.all_eq_true.mpr hall])).trans (if_neg (Bool.eq_false_iff.mp hgood)))
  · rw [exec_of_mem_lineWrites hc, State.serveWrite_slice ha hspot]
    exact congrArg _ (if_neg (Bool.eq_false_iff.mp hno))
  · rw [exec_of_mem_lineWrites hc, State.serveWrite_slice ha hspot]
    exact congrArg _ (if_pos hyes)
  · rw [State.bytes_fill]
    exact memWriteMasked_rd_inside _ _ _ _ hi
  · rw [State.bytes_fill]
    exact memWriteMasked_rd_outside _ _ _ _ hout
  · rw [exec_of_mem_lineWrites hc, State.serveWrite_mem ha hop hkept hlen hspot hfree hwrite]
  · have h := State.serves_eq_true hp hgate
    refine ⟨fun hrel hst hown => ?_, fun hrel hother => ?_, fun hacq hst => ?_, fun hacq hst hok => ?_, fun hacq hst hok => ?_,
      fun hacq hst hown => ?_, fun hacq hst hown hroom => ?_, fun hacq hst hown hfull => ?_⟩
    · exact (exec_sem_release h hrel).trans (congrArg _ (if_pos ⟨hst, hown⟩))
    · exact (exec_sem_release h hrel).trans (congrArg _ (if_neg hother))
    · rw [exec_sem_acquires h hacq (by simp [hst]), State.acquireFor_free hst]
      rfl
    · rw [exec_sem_acquires h hacq (by simp [hst]), State.acquireFor_abandoned hst, if_pos hok]
      rfl
    · rw [exec_sem_acquires h hacq (by simp [hst]), State.acquireFor_abandoned hst, if_neg (Bool.eq_false_iff.mp hok)]
    · rw [exec_sem_acquires h hacq fun hfull => hfull.2.1 hown, State.acquireFor_own hst hown]
    · rw [exec_sem_acquires h hacq fun hfull => Nat.not_le.mpr hroom hfull.2.2, State.acquireFor_held hst hown]
      rfl
    · exact (exec_sem_acquire h hacq).trans (congrArg _ (if_pos ⟨hst, hown, hfull⟩))
  · exact (exec_ringMessage s m).trans (congrArg _ (if_pos (by rw [State.serves_eq_false hno]; rfl)))
  · exact (exec_ringMessage s m).trans (congrArg _ (if_neg (by rw [State.serves_eq_true hp hgate]; decide)))

end

section
/-! O12: the semaphore steps, the atomics and the doorbells of a running command (09 R342-R352; 10 R380). -/
namespace Sys2Proof.Machine
open Sys2Proof

/-! ## What an acquire answers -/

section
variable {m : Sem} {o : SemOwner} (ok : Bool) (tag : Nat)

theorem Sem.acquire_free (h : m.st = .free) : m.acquire o ok tag = ({ m with st := .held, owner := some o }, .acquired) := by
  simp only [Sem.acquire, h]

theorem Sem.acquire_abandoned (h : m.st = .abandoned) : m.acquire o ok tag = ({ m with st := .held, owner := some o }, .abandoned) := by
  simp only [Sem.acquire, h]

theorem Sem.acquire_own (h : m.st = .held) (ho : m.owner = some o) : m.acquire o ok tag = (m, .fault) := by
  simp only [Sem.acquire, h, ho, if_true]

theorem Sem.acquire_held (h : m.st = .held) (ho : m.owner ≠ some o) :
    m.acquire o ok tag = ({ m with waiters := m.waiters ++ [{ owner := o, abnOk := ok, tag := tag }] }, .waits) := by
  simp only [Sem.acquire, h, ho, if_false]

end

/-! ## SEM_ACQ and SEM_REL -/

section
variable {s : State} {q : Fin 1024} {k : Fin 64} {x : StepCtx}

theorem exec_semAcq_ungranted (h : s.stepStarts q k 5 x) (hno : bitAt (s.parcel x.p).sems x.x.sem = false) :
    exec (.semAcq q k) s = .next (s.stepDone q k x .denied .none) :=
  congrArg Host.Outcome.next ((State.runStep_starts h _ _).trans (if_pos (by rw [hno]; rfl)))

/-- What an acquire step leaves, given what the semaphore becomes and answers (09 R347, R351). -/
def State.acquireStep (s : State) (q k : Nat) (x : StepCtx) : Sem × AcqResult → State
  | (m, .acquired) => State.stepDone { s with sems := s.sems.wr x.x.sem m } q k x .ok .none
  | (m, .abandoned) =>
      if x.x.abnok = true then
        (State.updCmd { s with sems := s.sems.wr x.x.sem m } q x.c.serial (fun c => { c with flags := c.flags.or { abn := true } })).stepDone
          q k x .ok .none
      else (s.stepDone q k x .abandoned .none).semSettle
  | (m, .waits) => State.setItem { s with sems := s.sems.wr x.x.sem m } q x.c.serial k .waiting
  | (_, .fault) => s.stepDone q k x .faulted .exec

theorem exec_semAcq_granted {a : Sem × AcqResult} (h : s.stepStarts q k 5 x) (hyes : bitAt (s.parcel x.p).sems x.x.sem = true)
    (ha : (s.sems.rd x.x.sem).acquire (.queue q) x.x.abnok k = a) : exec (.semAcq q k) s = .next (s.acquireStep q k x a) := by
  refine congrArg Host.Outcome.next ((State.runStep_starts h _ _).trans ((if_neg (by rw [hyes]; decide)).trans ?_))
  obtain ⟨m, r⟩ := a
  rw [ha]
  cases r <;> rfl

theorem exec_semRel_ungranted (h : s.stepStarts q k 6 x) (hno : bitAt (s.parcel x.p).sems x.x.sem = false) :
    exec (.semRel q k) s = .next (s.stepDone q k x .denied .none) :=
  congrArg Host.Outcome.next ((State.runStep_starts h _ _).trans (if_pos (by rw [hno]; rfl)))

/-- A release of a granted semaphore frees it for its holder and faults for any other (09 R352). -/
theorem exec_semRel_granted (h : s.stepStarts q k 6 x) (hyes : bitAt (s.parcel x.p).sems x.x.sem = true) : exec (.semRel q k) s = .next (
    if (s.sems.rd x.x.sem).st = .held ∧ (s.sems.rd x.x.sem).owner = some (.queue q) then
      (State.stepDone { s with sems := s.sems.wr x.x.sem { s.sems.rd x.x.sem with st := .free, owner := none } } q k x .ok .none).semSettle
    else s.stepDone q k x .faulted .exec) :=
  congrArg Host.Outcome.next ((State.runStep_starts h _ _).trans (if_neg (by rw [hyes]; decide)))

/-! ## RING -/

/-- A doorbell for another die of the fabric parcel leaves as one request; any other is denied (10 R380). -/
theorem exec_ring (h : s.stepStarts q k 7 x) : exec (.ring q k) s = .next (
    if x.x.dva % 65536 = s.dieId ∨ s.fabricMember (s.parcel x.p).fabricId (x.x.dva % 65536) = false then s.stepDone q k x .denied .none
    else s.stepRemote q k x 0 [] [{ op := 6, dest := x.x.dva % 65536, addr := bitsOf x.x.dva 25 16, fabric := (s.parcel x.p).fabricId,
                                    payload := leBytes 8 (x.x.size % 2 ^ 32) }]) :=
  congrArg Host.Outcome.next (State.runStep_starts h _ _)

end

/-! ## ATOMIC -/

section
variable {s w v u : State} {q : Fin 1024} {k : Fin 64} {x : StepCtx} {ps rs : List Piece}

section
variable (h : s.stepStarts q k 4 x) (hps : runPieces (x.exts 0) x.x.dva x.x.width = some ps) (hrs : runPieces (x.exts 1) x.x.dva2 8 = some rs)
include h hps hrs

theorem exec_atomic_unoffered (hno : ∃ p ∈ ps, s.atomicOffered (x.x.mode % 16) p.back = false) :
    exec (.atomic q k) s = .next (s.stepDone q k x .unsupported .none) := by
  have hall : ps.all (fun p => s.atomicOffered (x.x.mode % 16) p.back) = false := List.all_eq_false.mpr (by simpa using hno)
  refine congrArg Host.Outcome.next ((State.runStep_starts h _ _).trans ?_)
  simp only [hps, hrs, hall, Bool.not_false, if_true]

/-- An offered atomic other than compare-and-swap needs no other operand (09 R342). -/
theorem exec_atomic_offered (hyes : ∀ p ∈ ps, s.atomicOffered (x.x.mode % 16) p.back = true) (hop : x.x.mode % 16 ≠ 6) :
    exec (.atomic q k) s = .next (s.atomGo q k x ps rs 0) := by
  have hall : ps.all (fun p => s.atomicOffered (x.x.mode % 16) p.back) = true := List.all_eq_true.mpr hyes
  refine congrArg Host.Outcome.next ((State.runStep_starts h _ _).trans ?_)
  simp only [hps, hrs, hall, Bool.not_true, Bool.false_eq_true, if_false]
  exact if_pos hop

end

/-- An atomic on lines of this die that no agent holds reads the old value and writes the new one (09 R343). -/
theorem State.atomGo_local {q k compare n : Nat} {old : List Byte} (hlocal : ∀ p ∈ ps, ∀ d, p.back ≠ .fabric d)
    (hfree : ∀ p ∈ ps ++ rs, s.pieceBusy p = false) (hread : s.readPieces (.parcel x.p) ps = .ok old w)
    (hnew : atomicNew (x.x.mode % 16) x.x.width (leNat old) (x.x.size % 2 ^ (8 * x.x.width)) compare = some n)
    (hwrite : w.writePieces (.parcel x.p) ps (leBytes x.x.width n) = .ok () v) :
    s.atomGo q k x ps rs compare = v.atomResult q k x rs (leNat old) := by
  have hidle : (ps ++ rs).filter s.pieceBusy = [] := List.filter_eq_nil_iff.mpr fun p hp => Bool.eq_false_iff.mp (hfree p hp)
  unfold State.atomGo
  dsimp only
  split
  · exact absurd rfl (hlocal _ List.mem_cons_self _)
  · simp only [hidle, hread, hnew, hwrite, List.isEmpty_nil, Bool.not_true, Bool.false_eq_true, if_false]

theorem State.atomResult_written {q k old : Nat}
    (hw : v.writeAll (.parcel x.p) 2 (v.parcel x.p).fabricId rs (leBytes 8 old) = .ok u) :
    v.atomResult q k x rs old = u.stepDone q k x .ok .none := by
  simp only [State.atomResult, hw]

end

theorem atomicNew_reserved {code : Nat} (h : 7 ≤ code) (width old v c : Nat) : atomicNew code width old v c = none := by
  obtain ⟨n, rfl⟩ := Nat.exists_eq_add_of_le' h
  rfl

end Sys2Proof.Machine

open Sys2Proof Sys2Proof.Machine

/-- Settles O12: a semaphore step by the grant and by what the semaphore answers, a doorbell by its die, an atomic by what its lines offer. -/
theorem semaphoreStepsAtomicsAndDoorbells : Obligations.SemaphoreStepsAtomicsAndDoorbells := by
  unfold Obligations.SemaphoreStepsAtomicsAndDoorbells
  refine ⟨fun s q k x h => ⟨exec_semAcq_ungranted h, fun hyes hst => ?_, fun hyes hst hok => ?_, fun hyes hst hok => ?_, fun hyes hst hown => ?_,
      fun hyes hst hown => ?_⟩,
    fun s q k x h => ⟨exec_semRel_ungranted h, fun hyes hst hown => ?_, fun hyes hother => ?_⟩,
    fun s q k x h => ⟨fun hno => ?_, fun hdie hmem => ?_⟩,
    fun s q k x ps rs h hps hrs => ⟨exec_atomic_unoffered h hps hrs, fun old w n v u hyes hop hfree hread hnew hwrite hres => ?_⟩,
    fun width old v c => ⟨rfl, rfl, rfl, rfl, rfl, rfl, rfl, fun code hcode => atomicNew_reserved hcode ..⟩⟩
  · exact exec_semAcq_granted h hyes (Sem.acquire_free _ _ hst)
  · exact (exec_semAcq_granted h hyes (Sem.acquire_abandoned _ _ hst)).trans (congrArg _ (if_pos hok))
  · exact (exec_semAcq_granted h hyes (Sem.acquire_abandoned _ _ hst)).trans (congrArg _ (if_neg (Bool.eq_false_iff.mp hok)))
  · exact exec_semAcq_granted h hyes (Sem.acquire_held _ _ hst hown)
  · exact exec_semAcq_granted h hyes (Sem.acquire_own _ _ hst hown)
  · exact (exec_semRel_granted h hyes).trans (congrArg _ (if_pos ⟨hst, hown⟩))
  · exact (exec_semRel_granted h hyes).trans (congrArg _ (if_neg hother))
  · exact (exec_ring h).trans (congrArg _ (if_pos hno))
  · exact (exec_ring h).trans (congrArg _ (if_neg (not_or.mpr ⟨hdie, by rw [hmem]; decide⟩)))
  · rw [exec_atomic_offered h hps hrs (fun p hp => (hyes p hp).1) hop,
      State.atomGo_local (fun p hp => (hyes p hp).2) hfree hread hnew hwrite, State.atomResult_written hres]

end

section
/-! O39: the responses to remote requests, their timeouts, and the retry of a remote acquire (09 R354; 14 R540-R543). -/
namespace Sys2Proof.Machine
open Sys2Proof

/-! ## Transfers -/

section
variable {s : State} {g : Gather} {o : GOwner}

theorem State.updGather_single (hg : s.fab.gathers = [g]) (ho : g.owner = o) (f : Gather → Gather) :
    s.updGather o f = { s with fab := { s.fab with gathers := [f g] } } := by
  rw [State.updGather, hg, List.map_cons, List.map_nil, if_pos ho]

/-- A transfer sends its first request; one with nothing left to send, and one that is not there, changes nothing. -/
theorem issueGo_succ (s : State) (o : GOwner) (n : Nat) : ∃ send : Req → List Req → State, issueGo o (n + 1) s =
    match s.gatherOf o with
    | none => s
    | some g => match g.todo with
      | [] => s
      | r :: rest => send r rest := ⟨_, Eq.refl _⟩

theorem issueGo_idle (h : ∀ g ∈ s.fab.gathers, g.todo = []) (o : GOwner) (n : Nat) : issueGo o n s = s := by
  cases n with
  | zero => exact Eq.refl s
  | succ n =>
    obtain ⟨send, hsucc⟩ := issueGo_succ s o n
    rw [hsucc]
    cases hg : s.gatherOf o with
    | none => rfl
    | some g => simp only [h g (List.mem_of_find?_eq_some hg)]

theorem State.issueAll_idle (h : ∀ g ∈ s.fab.gathers, g.todo = []) : s.issueAll = s := by
  unfold State.issueAll
  exact List.foldl_fixed' (fun o => issueGo_idle h o 8192) _

theorem State.issueAll_of_gathers_nil (h : s.fab.gathers = []) : s.issueAll = s :=
  State.issueAll_idle fun _ hg => absurd (h ▸ hg) List.not_mem_nil

/-- The bytes moved over a port are counted in the job's account alone (11 R428). -/
theorem State.chargeSp_only (s : State) (o : GOwner) (dest n : Nat) : ∃ j, s.chargeSp o dest n = { s with jobs := j } := by
  unfold State.chargeSp
  dsimp only
  split
  · exact ⟨_, rfl⟩
  · split <;> exact ⟨_, rfl⟩

end

/-! ## Ending a tag -/

/-- A transfer once a request of it has been answered: its data placed, or its first failure kept and nothing more sent (14 R542, R543). -/
def Gather.answered (g : Gather) (r : Req) (failed : Option (Status × Cause)) (data : List Byte) : Gather :=
  { g with
    outstanding := g.outstanding - 1
    todo := if failed.isSome = true then [] else g.todo
    failed := if g.failed.isSome = true then g.failed else failed
    buf := if failed.isSome = true then g.buf else memWrite g.buf r.off (slice data r.skip r.len) }

theorem Gather.todo_answered {g : Gather} (h : g.todo = []) (r : Req) (failed : Option (Status × Cause)) (data : List Byte) :
    (g.answered r failed data).todo = [] := by
  rw [Gather.answered, h, ite_self]

/-- A freed tag is as at reset, and the other tags are as they were. -/
theorem txns_freed (t : Tab Txn) (n : Nat) : (t.wr n {}).rd n = {} ∧ ∀ k, k ≠ n → (t.wr n {}).rd k = t.rd k :=
  ⟨Tab.rd_wr_same .., fun _ hk => Tab.rd_wr_other _ _ hk⟩

/-- A tag is free again, its transaction counted as completed (14 R543). -/
def State.completeTag (s : State) (n : Nat) : State :=
  { s with fab := { s.fab with txns := s.fab.txns.wr n {}, completed := s.fab.completed + 1 } }

/-- A tag is free again, its transaction counted as timed out (14 R543). -/
def State.releaseTag (s : State) (n : Nat) : State :=
  { s with fab := { s.fab with txns := s.fab.txns.wr n {}, timedOut := s.fab.timedOut + 1 } }

section
variable {s : State} {n : Nat}

theorem State.endTag_eq (s : State) (n : Nat) (failed : Option (Status × Cause)) (data : List Byte) : s.endTag n failed data =
    State.issueAll (((s.completeTag n).chargeSp (s.fab.txns.rd n).owner (s.fab.txns.rd n).dest (16 + data.length)).updGather
      (s.fab.txns.rd n).owner (fun g => g.answered (s.fab.txns.rd n).req failed data)) := rfl

/-- A tag that ends answers the one transfer, its owner's; with nothing left to send no request follows. -/
theorem State.endTag_single {g : Gather} (hg : s.fab.gathers = [g]) (hown : g.owner = (s.fab.txns.rd n).owner)
    (htodo : g.todo = []) (failed : Option (Status × Cause)) (data : List Byte) :
    ∃ j, s.endTag n failed data = { s.completeTag n with jobs := j, fab := { (s.completeTag n).fab with
      gathers := [g.answered (s.fab.txns.rd n).req failed data] } } := by
  obtain ⟨j, hj⟩ := (s.completeTag n).chargeSp_only (s.fab.txns.rd n).owner (s.fab.txns.rd n).dest (16 + data.length)
  refine ⟨j, ?_⟩
  rw [State.endTag_eq, hj, State.updGather_single (s := { s.completeTag n with jobs := j }) hg hown]
  refine State.issueAll_idle fun a ha => ?_
  rw [List.mem_singleton.mp ha]
  exact Gather.todo_answered htodo ..

end

theorem isSome_respFailure (m : Msg) : (respFailure m).isSome = true ↔ m.status ≠ 0 := by
  unfold respFailure
  split
  · next h => simp [h]
  · next h => simp [h]

/-! ## Matching a response -/

section
variable {s : State} {m : Msg}

theorem State.matchResponse_unmatched
    (h : m.tepoch ≠ s.fab.tepoch % 16 ∨ (s.fab.txns.rd m.tagNo).held = false ∨ m.op ≠ responseOp (s.fab.txns.rd m.tagNo).req.op) :
    s.matchResponse m = (s.emit 71 0x407 0xFF m.src, none) := if_pos h

section
variable (hepoch : m.tepoch = s.fab.tepoch % 16) (hheld : (s.fab.txns.rd m.tagNo).held = true)
  (hop : m.op = responseOp (s.fab.txns.rd m.tagNo).req.op)
include hepoch hheld hop

theorem State.matchResponse_matched : s.matchResponse m =
    if (s.fab.txns.rd m.tagNo).timedOut then (((s.emit 71 0x407 0xFF m.src).releaseTag m.tagNo).issueAll, none) else (s, some m.tagNo) := by
  refine if_neg ?_
  rw [hheld]
  rintro (h | h | h)
  · exact h hepoch
  · cases h
  · exact h hop

theorem State.matchResponse_inTime (hin : (s.fab.txns.rd m.tagNo).timedOut = false) : s.matchResponse m = (s, some m.tagNo) :=
  (State.matchResponse_matched hepoch hheld hop).trans (if_neg (Bool.eq_false_iff.mp hin))

/-- A response of a tag that has timed out frees the tag and counts it, and is reported late (14 R542). -/
theorem State.matchResponse_timedOut (hout : (s.fab.txns.rd m.tagNo).timedOut = true) (hg : s.fab.gathers = []) :
    ∃ e l, s.matchResponse m = (State.releaseTag { s with events := e, gaps := l } m.tagNo, none) := by
  obtain ⟨e, l, hemit⟩ := s.emit_only 71 0x407 0xFF m.src
  refine ⟨e, l, ?_⟩
  rw [State.matchResponse_matched hepoch hheld hop, if_pos hout, hemit]
  exact congrArg (·, none) (State.issueAll_of_gathers_nil hg)

end

/-- What a response leaves: the state of its match, or what `on` makes of a tag in time. -/
def State.responded (s : State) (m : Msg) (on : State → Nat → State) : State :=
  match (s.take m).matchResponse m with
  | (u, none) => u
  | (u, some n) => on u n

theorem State.responded_discarded {u : State} (h : (s.take m).matchResponse m = (u, none)) (on : State → Nat → State) : s.responded m on = u := by
  simp only [State.responded, h]

theorem State.responded_inTime {u : State} {n : Nat} (h : (s.take m).matchResponse m = (u, some n)) (on : State → Nat → State) :
    s.responded m on = on u n := by
  simp only [State.responded, h]

/-- What a response in time does with its tag: all end it with their data, an SL_ACK with none, and a SEMR that is BUSY aside (14 R543). -/
theorem exec_of_mem_responses {c : Instr} (s : State) (h : c ∈ responses m) : ∃ on, exec c s = .next (s.responded m on) ∧
    ((c = .semr m → m.status ≠ 1) → ∀ u n, on u n = u.endTag n (respFailure m) (if c = .slAck m then [] else m.payload)) := by
  simp only [responses, List.mem_cons, List.not_mem_nil, or_false] at h
  obtain rfl | rfl | rfl | rfl := h
  · exact ⟨_, rfl, fun _ u n => by rw [if_neg (by simp)]⟩
  · exact ⟨_, rfl, fun _ u n => by rw [if_pos rfl]⟩
  · exact ⟨_, rfl, fun _ u n => by rw [if_neg (by simp)]⟩
  · exact ⟨_, rfl, fun hbusy u n => by rw [if_neg (hbusy rfl), if_neg (by simp)]⟩

theorem exec_of_discarded {c : Instr} {u : State} (hc : c ∈ responses m) (h : (s.take m).matchResponse m = (u, none)) : exec c s = .next u := by
  obtain ⟨on, hexec, -⟩ := exec_of_mem_responses s hc
  rw [hexec, State.responded_discarded h]

theorem exec_of_inTime {c : Instr} {u : State} {n : Nat} (hc : c ∈ responses m) (hbusy : c = .semr m → m.status ≠ 1)
    (h : (s.take m).matchResponse m = (u, some n)) :
    exec c s = .next (u.endTag n (respFailure m) (if c = .slAck m then [] else m.payload)) := by
  obtain ⟨on, hexec, hon⟩ := exec_of_mem_responses s hc
  rw [hexec, State.responded_inTime h, hon hbusy]

/-- A SEMR that is BUSY frees its tag and keeps the acquire for its retry (09 R354). -/
theorem exec_semr_busy {g : Gather} {n : Nat} (h : (s.take m).matchResponse m = (s.take m, some n)) (hbusy : m.status = 1)
    (hg : s.fab.gathers = [g]) (hown : g.owner = (s.fab.txns.rd n).owner) :
    exec (.semr m) s = .next { (s.take m).completeTag n with fab := { ((s.take m).completeTag n).fab with
      gathers := [{ g with outstanding := g.outstanding - 1, retry := some (s.fab.txns.rd n).req, retryAt := s.now + 1000 * m.retry }] } } :=
  congrArg Host.Outcome.next ((State.responded_inTime h _).trans ((if_pos hbusy).trans
    (State.updGather_single (s := (s.take m).completeTag n) hg hown _)))

end

/-! ## Timeouts and retries -/

section
variable {s : State}

theorem exec_txnTimeout_stays {n : Fin 4096} (h : (s.fab.txns.rd n).held = false ∨ (s.fab.txns.rd n).timedOut = true) :
    exec (.txnTimeout n) s = .next s := by
  refine congrArg Host.Outcome.next (if_pos ?_)
  obtain h | h := h <;> simp [h]

theorem exec_tagReleaseTimeout_stays {n : Fin 4096} (h : (s.fab.txns.rd n).held = false ∨ (s.fab.txns.rd n).timedOut = false) :
    exec (.tagReleaseTimeout n) s = .next s := by
  refine congrArg Host.Outcome.next (if_pos ?_)
  obtain h | h := h <;> simp [h]

variable {n : Fin 4096} (hheld : (s.fab.txns.rd n).held = true)
include hheld

/-- A tag in time that times out stays held, and its owner's transfer is TRUNCATED (14 R542). -/
theorem exec_txnTimeout_inTime (hin : (s.fab.txns.rd n).timedOut = false) : ∃ e l, exec (.txnTimeout n) s = .next
    { s with now := Nat.max s.now (s.fab.txns.rd n).deadline, events := e, gaps := l, fab := { s.fab with
      txns := s.fab.txns.wr n { s.fab.txns.rd n with timedOut := true }
      gathers := s.fab.gathers.map (fun g => if g.owner = (s.fab.txns.rd n).owner then { g with
        outstanding := g.outstanding - 1, todo := [], failed := some (g.failed.getD (.truncated, .none)) } else g) } } := by
  obtain ⟨e, l, hemit⟩ := (s.reach (s.fab.txns.rd n).deadline).emit_only 71 0x406 0xFF (s.fab.txns.rd n).dest
  refine ⟨e, l, congrArg Host.Outcome.next ((if_neg (by simp [hheld, hin])).trans ?_)⟩
  dsimp only
  rw [hemit]
  rfl

theorem exec_tagReleaseTimeout_timedOut (hout : (s.fab.txns.rd n).timedOut = true) (hg : s.fab.gathers = []) :
    exec (.tagReleaseTimeout n) s = .next ((s.reach ((s.fab.txns.rd n).deadline + 1000 * s.fab.txnTimeoutUs)).releaseTag n) :=
  congrArg Host.Outcome.next ((if_neg (by simp [hheld, hout])).trans (State.issueAll_of_gathers_nil hg))

end

/-- A transfer of a step of queue `q` keeps an acquire for its retry. -/
def Gather.keptFor (q : Nat) (g : Gather) : Bool := g.retry.isSome && (match g.owner with | .step k _ _ => k == q | _ => false)

/-- A kept acquire becomes the one request its transfer has left to send (09 R354). -/
def State.retryAcquire (s : State) (g : Gather) (r : Req) : State :=
  (s.reach g.retryAt).updGather g.owner (fun g => { g with todo := [r], retry := none })

theorem State.gathers_retryAcquire {s : State} {g : Gather} (hg : s.fab.gathers = [g]) (r : Req) :
    (s.retryAcquire g r).fab.gathers = [{ g with todo := [r], retry := none }] :=
  congrArg (fun t => t.fab.gathers) (State.updGather_single (s := s.reach g.retryAt) hg rfl _)

theorem exec_semRemoteRetry (s : State) (q : Fin 1024) : exec (.semRemoteRetry q) s = .next (
    match s.fab.gathers.find? (Gather.keptFor q) with
    | some g => match g.retry with
      | some r => issueGo g.owner 8 (s.retryAcquire g r)
      | none => s
    | none => s) := rfl

theorem exec_semRemoteRetry_none {s : State} (h : ∀ g ∈ s.fab.gathers, g.retry = none) (q : Fin 1024) : exec (.semRemoteRetry q) s = .next s := by
  have hfind : s.fab.gathers.find? (Gather.keptFor q) = none := List.find?_eq_none.mpr fun g hg => by simp [Gather.keptFor, h g hg]
  rw [exec_semRemoteRetry, hfind]

theorem exec_semRemoteRetry_kept {s : State} {q : Fin 1024} {g : Gather} {r : Req} {serial i : Nat} (hg : s.fab.gathers = [g])
    (hown : g.owner = .step q serial i) (hr : g.retry = some r) : exec (.semRemoteRetry q) s = .next (issueGo g.owner 8 (s.retryAcquire g r)) := by
  have hfind : s.fab.gathers.find? (Gather.keptFor q) = some g := by simp [hg, Gather.keptFor, hown, hr]
  simp only [exec_semRemoteRetry, hfind, hr]

end Sys2Proof.Machine

open Sys2Proof Sys2Proof.Machine

/-- Settles O39: a response by its match with the tag, the timeouts by the tag's state, the retry by the kept acquire. -/
theorem remoteResponsesEndTheirTags : Obligations.RemoteResponsesEndTheirTags := by
  unfold Obligations.RemoteResponsesEndTheirTags
  refine ⟨fun s m => ⟨fun hno c hc => exec_of_discarded hc (State.matchResponse_unmatched hno), fun hepoch hheld hop hout hg c hc => ?_,
      fun g hepoch hheld hop hin hg hown htodo c hc hbusy => ?_, fun g hepoch hheld hop hin hg hown hbusy => ?_⟩,
    fun s n => ⟨fun hfree => ⟨exec_txnTimeout_stays (.inl hfree), exec_tagReleaseTimeout_stays (.inl hfree)⟩,
      fun hout => exec_txnTimeout_stays (.inr hout), fun hin => exec_tagReleaseTimeout_stays (.inr hin), fun hheld hin => ?_,
      fun hheld hout hg => ?_⟩,
    fun s q => ⟨fun hnone => exec_semRemoteRetry_none hnone q, fun g r serial i hg hown hr => ?_⟩⟩
  · obtain ⟨e, l, hmatch⟩ := State.matchResponse_timedOut (s := s.take m) hepoch hheld hop hout hg
    obtain ⟨hfreed, hothers⟩ := txns_freed s.fab.txns m.tagNo
    exact ⟨_, exec_of_discarded hc hmatch, hfreed, rfl, hothers, rfl⟩
  · have hexec := exec_of_inTime hc hbusy (State.matchResponse_inTime (s := s.take m) hepoch hheld hop hin)
    obtain ⟨j, hend⟩ := State.endTag_single (s := s.take m) hg hown htodo (respFailure m) (if c = .slAck m then [] else m.payload)
    obtain ⟨hfreed, hothers⟩ := txns_freed s.fab.txns m.tagNo
    refine ⟨_, hexec.trans (congrArg _ hend), hfreed, rfl, hothers, ?_, rfl⟩
    simp only [Gather.answered, isSome_respFailure, htodo, ite_self]
    rfl
  · have hmatch := State.matchResponse_inTime (s := s.take m) hepoch hheld hop hin
    exact ⟨_, exec_semr_busy hmatch hbusy hg hown, (txns_freed s.fab.txns m.tagNo).1, rfl, rfl⟩
  · obtain ⟨e, l, hexec⟩ := exec_txnTimeout_inTime hheld hin
    exact ⟨_, hexec, rfl, Tab.rd_wr_same .., fun k hk => Tab.rd_wr_other _ _ hk, rfl, rfl⟩
  · obtain ⟨hfreed, hothers⟩ := txns_freed s.fab.txns n
    exact ⟨_, exec_tagReleaseTimeout_timedOut hheld hout hg, rfl, hfreed, rfl, hothers, rfl⟩
  · exact ⟨_, exec_semRemoteRetry_kept hg hown hr, rfl, State.gathers_retryAcquire hg r, rfl⟩

end

section
/-! O14: what a queue that becomes FAULTED keeps, and the rules of the two ring counts that software writes (10 R371, R374, Table 10.2). -/
namespace Sys2Proof.Machine
open Sys2Proof

/-! ## What grants keep of the queues -/

/-- State `t` has the memory of `s`, and each queue in the state it has there. -/
structure KeepsQueueStates (s t : State) : Prop where
  st : ∀ q, (t.queue q).st = (s.queue q).st
  mem : t.mem = s.mem

section
variable {s t u : State}

theorem KeepsQueueStates.of_eq (hq : t.queues = s.queues) (hm : t.mem = s.mem) : KeepsQueueStates s t where
  st q := by rw [State.queue, State.queue, hq]
  mem := hm

theorem KeepsQueueStates.refl (s : State) : KeepsQueueStates s s := .of_eq rfl rfl

theorem KeepsQueueStates.trans (h : KeepsQueueStates s t) (h' : KeepsQueueStates t u) : KeepsQueueStates s u :=
  ⟨fun q => (h'.st q).trans (h.st q), h'.mem.trans h.mem⟩

theorem LinkOnly.keepsQueueStates (h : LinkOnly s t) : KeepsQueueStates s t := by
  rw [h]
  exact .of_eq rfl rfl

end

section
variable (s : State)

theorem State.updQ_keepsQueueStates (q : Nat) {f : Queue → Queue} (hf : ∀ x, (f x).st = x.st) : KeepsQueueStates s (s.updQ q f) where
  st m := by
    rw [State.queue_updQ]
    split
    · next h => rw [hf, h]
    · rfl
  mem := rfl

theorem State.taskEnd_keepsQueueStates (n : Nat) (st : Status) (c : Cause) : KeepsQueueStates s (s.taskEnd n st c) := by
  unfold State.taskEnd
  split
  · exact .refl s
  · next t _ =>
    have hitem : KeepsQueueStates s ((s.dropHolds n).endItem t st c) :=
      (KeepsQueueStates.of_eq (by simp) (by simp)).trans (State.updQ_keepsQueueStates _ t.queue fun _ => rfl)
    exact hitem.trans (.of_eq (by simp [State.updPar, State.updEng]) (by simp [State.updPar, State.updEng]))

theorem State.tellGrant_keepsQueueStates (w : SemWaiter) (ab : Bool) : KeepsQueueStates s (s.tellGrant w ab) := by
  unfold State.tellGrant
  split
  · exact .of_eq rfl rfl
  · exact s.updQ_keepsQueueStates _ fun x => by split <;> rfl
  · exact (s.route_linkOnly ..).keepsQueueStates

theorem State.tellAbandoned_keepsQueueStates (w : SemWaiter) : KeepsQueueStates s (s.tellAbandoned w) := by
  unfold State.tellAbandoned
  split
  · exact s.taskEnd_keepsQueueStates ..
  · exact s.updQ_keepsQueueStates _ fun x => by split <;> rfl
  · exact (s.route_linkOnly ..).keepsQueueStates

theorem semSettleGo_keepsQueueStates (n : Nat) : KeepsQueueStates s (semSettleGo n s) := by
  induction n generalizing s with
  | zero => exact .refl s
  | succ n ih =>
    have hsems (m : Tab Sem) : KeepsQueueStates s { s with sems := m } := .of_eq rfl rfl
    unfold semSettleGo
    split
    · exact .refl s
    · dsimp only
      split
      · exact .refl s
      · split
        · exact ((hsems _).trans (State.tellAbandoned_keepsQueueStates ..)).trans (ih _)
        · exact ((hsems _).trans (State.tellGrant_keepsQueueStates ..)).trans (ih _)

/-- A queue's owner struck and its semaphores granted on, every queue is in the state it had (09 R348, R349). -/
theorem State.strikeSettle_keepsQueueStates (struck : SemOwner → Bool) : KeepsQueueStates s (s.strike struck).semSettle :=
  (KeepsQueueStates.of_eq (by simp) (by simp)).trans (semSettleGo_keepsQueueStates ..)

/-- A queue that is not FAULTED yet becomes so, and memory stands (10 R371). -/
theorem State.faultQueue_faults {q : Nat} (h : (s.queue q).st ≠ .faulted) :
    ((s.faultQueue q).queue q).st = .faulted ∧ (s.faultQueue q).mem = s.mem := by
  unfold State.faultQueue
  rw [if_neg h]
  have hkept := State.strikeSettle_keepsQueueStates
  exact ⟨((hkept _ _).st q).trans (by simp [State.queue, State.updQ]), (hkept _ _).mem⟩

end

/-! ## The two writes -/

section
variable {s : State} {q : Fin 1024} {v : U32}

theorem exec_ringWrites_asleep (h : s.awake = false) : exec (.doorbell q v) s = .next s ∧ exec (.cplHeadWrite q v) s = .next s :=
  ⟨congrArg _ (if_neg (by simp [h])), congrArg _ (if_neg (by simp [h]))⟩

theorem exec_doorbell (h : s.awake = true) : exec (.doorbell q v) s = .next (s.ringTail q v) := congrArg _ (if_pos h)

theorem exec_cplHeadWrite (h : s.awake = true) : exec (.cplHeadWrite q v) s = .next (s.setCplHead q v) := congrArg _ (if_pos h)

end

/-! ## A tail -/

section
variable {s : State} {q : Nat} {v : U32}

theorem State.ringTail_stale (h : (s.queue q).st = .closed ∨ (s.queue q).st = .faulted ∨
    (v - (s.queue q).descHead).toNat ≤ ((s.queue q).tail - (s.queue q).descHead).toNat) :
    s.ringTail q v = (s.updQ q (fun x => { x with stale := x.stale + 1 })).emit 57 0x342 0xFF q := by
  by_cases hst : (s.queue q).st = .closed ∨ (s.queue q).st = .faulted
  · exact if_pos hst
  · exact (if_neg hst).trans (if_pos ((or_assoc.mpr h).resolve_left hst))

section
variable (hclosed : (s.queue q).st ≠ .closed) (hfaulted : (s.queue q).st ≠ .faulted)
  (hnew : ((s.queue q).tail - (s.queue q).descHead).toNat < (v - (s.queue q).descHead).toNat)
include hclosed hfaulted hnew

/-- A tail further on than the last is taken within the descriptor slots and faults the queue past them (10 R371). -/
theorem State.ringTail_new : s.ringTail q v =
    if (v - (s.queue q).descHead).toNat ≤ 2 ^ (s.queue q).descLog2 then s.updQ q (fun x => { x with tail := v })
    else (s.emit 57 0x343 0xFF q).faultQueue q :=
  (if_neg (not_or.mpr ⟨hclosed, hfaulted⟩)).trans (if_neg (Nat.not_le.mpr hnew))

theorem State.ringTail_accepted (h : (v - (s.queue q).descHead).toNat ≤ 2 ^ (s.queue q).descLog2) :
    s.ringTail q v = s.updQ q (fun x => { x with tail := v }) :=
  (State.ringTail_new hclosed hfaulted hnew).trans (if_pos h)

theorem State.ringTail_faults (h : 2 ^ (s.queue q).descLog2 < (v - (s.queue q).descHead).toNat) :
    s.ringTail q v = (s.emit 57 0x343 0xFF q).faultQueue q :=
  (State.ringTail_new hclosed hfaulted hnew).trans (if_neg (Nat.not_le.mpr h))

end

/-! ## A completion head -/

theorem State.setCplHead_applied (h : (v - (s.queue q).cplHead).toNat ≤ ((s.queue q).cplTail - (s.queue q).cplHead).toNat) :
    s.setCplHead q v = s.updQ q (fun x => { x with cplHead := v }) := if_pos h

theorem State.setCplHead_ignored (h : ((s.queue q).cplTail - (s.queue q).cplHead).toNat < (v - (s.queue q).cplHead).toNat) :
    s.setCplHead q v = s.emit 57 0x345 0xFF q := if_neg (Nat.not_le.mpr h)

/-- What a change of one queue is: that queue changed, every other as it was, and nothing else of the state. -/
theorem State.updQ_changes (s : State) (q : Nat) (f : Queue → Queue) : (s.updQ q f).queue q = f (s.queue q) ∧
    (∀ m, m ≠ q → (s.updQ q f).queue m = s.queue m) ∧ s.updQ q f = { s with queues := (s.updQ q f).queues } :=
  ⟨(s.queue_updQ q q f).trans (if_pos rfl), fun m hm => (s.queue_updQ q m f).trans (if_neg hm), rfl⟩

end

end Sys2Proof.Machine

open Sys2Proof Sys2Proof.Machine

/-- Settles O14: a tail by the queue's state and its distance from DESC_HEAD, a completion head by its distance from CPL_HEAD. -/
theorem doorbellsAndHeadsKeepTheRingRules : Obligations.DoorbellsAndHeadsKeepTheRingRules := by
  unfold Obligations.DoorbellsAndHeadsKeepTheRingRules
  refine fun s q v => ⟨exec_ringWrites_asleep, fun haw => ⟨fun hstale => ?_, fun hclosed hfaulted hnew => ⟨fun hfits => ?_, fun hpast => ?_⟩,
    fun hwithin => ?_, fun hbeyond => ?_⟩⟩
  · rw [exec_doorbell haw, State.ringTail_stale hstale]
  · rw [exec_doorbell haw, State.ringTail_accepted hclosed hfaulted hnew hfits]
    exact ⟨_, rfl, s.updQ_changes q _⟩
  · rw [exec_doorbell haw, State.ringTail_faults hclosed hfaulted hnew hpast]
    have hqueue : (s.emit 57 0x343 0xFF q).queue q = s.queue q := by simp [State.queue]
    obtain ⟨hst, hmem⟩ := State.faultQueue_faults (s.emit 57 0x343 0xFF q) (hqueue.symm ▸ hfaulted)
    exact ⟨_, rfl, rfl, hst, hmem.trans (by simp)⟩
  · rw [exec_cplHeadWrite haw, State.setCplHead_applied hwithin]
    exact ⟨_, rfl, s.updQ_changes q _⟩
  · rw [exec_cplHeadWrite haw, State.setCplHead_ignored hbeyond]

end

section
/-! O25: host bursts that break their bounds (10 R395). -/
namespace Sys2Proof.Machine
open Sys2Proof

section
variable {s : State} {a len : Nat}

/-- On the host link a burst off its alignment or across 2 KiB breaks its bounds (10 R395). -/
theorem State.badBurst_of_bounds (hlink : s.straps.hostLink = true) (h : a % 128 ≠ 0 ∨ 2048 < a % 2048 + len) : s.badBurst a len = true := by
  have hbounds : a % 128 ≠ 0 ∨ a % 2048 + len > 2048 ∨ len = 0 ∨ len % 128 ≠ 0 := h.imp_right .inl
  simp only [State.badBurst, hlink, hbounds, decide_true, Bool.and_self]

theorem State.hostRead_badBurst (agent tag : Nat) (h : s.badBurst a len = true) :
    s.hostRead agent tag a len = (s.dropRead agent tag).complete' agent tag .unsupported [] := if_pos h

theorem State.hostBurst_badBurst (agent tag : Nat) {beats : Nat} (data : List Byte) (h : s.badBurst a (128 * beats) = true) :
    s.hostBurst agent tag a beats data = s.complete' agent tag .unsupported [] := if_pos (.inl h)

end

end Sys2Proof.Machine

open Sys2Proof Sys2Proof.Machine

/-- Settles O25: a burst that breaks its bounds is answered before memory is reached. -/
theorem burstsKeepTheirBounds : Obligations.BurstsKeepTheirBounds := by
  unfold Obligations.BurstsKeepTheirBounds
  refine fun s agent tag a hatt hlink => ⟨fun len hbad => ?_, fun beats data hbad => ?_⟩
  · rw [exec_mrd_memory hatt, State.hostRead_badBurst _ _ (State.badBurst_of_bounds hlink hbad)]
    exact ⟨_, rfl, rfl, rfl⟩
  · rw [exec_mwr_memory hatt, State.hostBurst_badBurst _ _ _ (State.badBurst_of_bounds hlink hbad)]
    rfl

end

section
/-! O27: plat requests, refused whole, or applied at once or when the controllers they remove hold zeros (11 R399-R401; 16 R590, R615-R622). -/
namespace Sys2Proof.Machine
open Sys2Proof

/-! ## What a request takes from its parcel -/

section
variable {s : State} {r : PlatReq}

/-- The slices of a list emptied. -/
def State.scrubSlices (s : State) (l : List Nat) : State := l.foldl (fun (s : State) n => s.updSlc n Slice.scrub) s

theorem State.scrubSlices_only (s : State) (l : List Nat) : s.scrubSlices l = { s with slc := (s.scrubSlices l).slc } := by
  induction l generalizing s with
  | nil => rfl
  | cons n l ih => exact ih (s.updSlc n Slice.scrub)

/-- The capacity of the controllers of a list zeroed (16 R622). -/
def State.clearMcs (s : State) (cs : List Nat) : State := cs.foldl (fun (s : State) c => s.clearMc c) s

theorem State.clearMcs_only (s : State) (cs : List Nat) : s.clearMcs cs = { s with mem := (s.clearMcs cs).mem } := by
  induction cs generalizing s with
  | nil => rfl
  | cons c cs ih => exact ih (s.clearMc c)

/-- What stays in LOCAL memory is the bytes outside every controller of the list. -/
theorem State.loc_clearMcs (s : State) (cs : List Nat) :
    (s.clearMcs cs).mem.loc = s.mem.loc.filter (fun x => cs.all (fun c => decide (x.1 / mcWindow ≠ c))) := by
  induction cs generalizing s with
  | nil => exact (List.filter_true _).symm
  | cons c cs ih =>
    refine (ih (s.clearMc c)).trans ((List.filter_filter ..).trans (List.filter_congr fun x _ => ?_))
    rw [List.all_cons, Bool.and_comm]

/-- The bits of a mask that another has not. -/
def lostBits (n old v : Nat) : List Nat := (maskBits n old).filter (fun i => !bitAt v i)

/-- The die with the slices and the ways that a request takes from its parcel emptied (11 R401). -/
def State.platScrubbed (s : State) (r : PlatReq) : State :=
  (s.scrubSlices (lostBits 16 (s.parcel r.parcel).slices r.slices)).waysClear (maskOf (lostBits 16 (s.parcel r.parcel).dcWays r.dcWays))

theorem State.platScrubbed_only (s : State) (r : PlatReq) : s.platScrubbed r = { s with
    slc := (s.platScrubbed r).slc, mem := { s.mem with dc := (s.platScrubbed r).mem.dc } } := by
  unfold State.platScrubbed
  rw [State.waysClear_only, State.scrubSlices_only]

/-- The die with the segments emptied too. -/
def State.platCleared (s : State) (r : PlatReq) : State :=
  (s.platScrubbed r).clearSegs (lostBits 64 ((s.platScrubbed r).te.segments.rd r.parcel) r.segments)

theorem State.platCleared_only (s : State) (r : PlatReq) : s.platCleared r = { s with
    slc := (s.platCleared r).slc, mem := { s.mem with dc := (s.platCleared r).mem.dc }, te := { s.te with am := (s.platCleared r).te.am } } := by
  unfold State.platCleared
  rw [State.clearSegs, State.platScrubbed_only]

theorem State.platRemoved_platCleared : (s.platCleared r).platRemoved r = s.platRemoved r := by
  rw [State.platCleared_only]
  rfl

/-- The die with all that a request takes from its parcel emptied, the controllers last (11 R401; 16 R622). -/
def State.platEmptied (s : State) (r : PlatReq) : State := (s.platCleared r).clearMcs ((s.platCleared r).platRemoved r)

theorem State.platEmptied_only (s : State) (r : PlatReq) : s.platEmptied r = { s with
    slc := (s.platEmptied r).slc, mem := (s.platEmptied r).mem, te := { s.te with am := (s.platEmptied r).te.am } } := by
  unfold State.platEmptied
  rw [State.clearMcs_only, State.platCleared_only]

theorem State.loc_platEmptied : (s.platEmptied r).mem.loc =
    s.mem.loc.filter (fun x => (s.platRemoved r).all (fun c => decide (x.1 / mcWindow ≠ c))) := by
  rw [State.platEmptied, State.loc_clearMcs, State.platRemoved_platCleared, State.platCleared_only]

end

/-! ## What a request gives -/

section
variable {s : State} {r : PlatReq}

/-- A parcel with the shares of a request, the seal key of its former plat discarded (11 R401; 16 R617). -/
def PlatReq.grant (r : PlatReq) (x : Parcel) : Parcel :=
  { x with
    active := r.active == 1, sealed := r.sealed == 1, tally := r.tally == 1, floor := r.floor, engines := r.engines, slices := r.slices
    dcWays := r.dcWays, controllers := r.controllers, qFirst := r.qFirst, qCount := r.qCount, linkShare := r.linkShare, sems := r.sems
    sealKey := none, sealCount := 0, sealOffered := false }

/-- The parcel of a request given its shares, and the epoch raised (11 R401). -/
def State.platGranted (s : State) (r : PlatReq) : State :=
  let s := { s with te := { s.te with segments := s.te.segments.wr r.parcel r.segments, nodeWays := s.te.nodeWays.wr r.parcel r.nodeWays } }
  let s := s.updPar r.parcel r.grant
  { s with plat := { s.plat with epoch := s.plat.epoch + 1 } }

/-- Applying a request empties what its parcel loses and then gives it the shares. -/
theorem State.platApply_eq (s : State) (r : PlatReq) : s.platApply r = ((s.platEmptied r).platGranted r).platDone .ok := by
  unfold State.platApply State.platGranted State.platEmptied State.platCleared State.platScrubbed State.scrubSlices State.clearMcs lostBits
    PlatReq.grant
  with_reducible rfl

/-- The plat's record once a request is applied (11 R401). -/
def State.platRaised (s : State) : PlatRec :=
  { epoch := s.plat.epoch + 1, result := { ready := true, bytes := leBytes 1 Status.ok.code ++ leBytes 8 (s.plat.epoch + 1).toNat } }

/-- An applied request gives its parcel the shares, raises the epoch, and touches only what it empties besides. -/
theorem State.platApply_only (s : State) (r : PlatReq) : s.platApply r = { s with
    slc := (s.platEmptied r).slc
    mem := (s.platEmptied r).mem
    te := { s.te with
      am := (s.platEmptied r).te.am, segments := s.te.segments.wr r.parcel r.segments, nodeWays := s.te.nodeWays.wr r.parcel r.nodeWays }
    parcels := s.parcels.upd r.parcel r.grant
    plat := s.platRaised } := by
  obtain ⟨slc, mem, am, h⟩ : ∃ slc mem am, s.platEmptied r = { s with slc := slc, mem := mem, te := { s.te with am := am } } :=
    ⟨_, _, _, s.platEmptied_only r⟩
  rw [State.platApply_eq, h]
  rfl

theorem State.platDone_of_idle {st : Status} (h : s.plat.waiting = none) : s.platDone st = { s with plat := { s.plat with
    result := { ready := true, bytes := leBytes 1 st.code ++ leBytes 8 s.plat.epoch.toNat } } } := by
  rw [State.platDone, ← h]

theorem State.plat_platApply : (s.platApply r).plat = s.platRaised := by rw [State.platApply_only]

theorem State.parcel_platApply_same : (s.platApply r).parcel r.parcel = r.grant (s.parcel r.parcel) := by
  rw [State.platApply_only]
  exact Tab.rd_upd_same ..

theorem State.parcel_platApply_other {o : Nat} (ho : o ≠ r.parcel) : (s.platApply r).parcel o = s.parcel o := by
  rw [State.platApply_only]
  exact Tab.rd_upd_other _ _ ho

/-- The request's parcel holds its segments and its node ways of the tree engine (06 R185). -/
theorem State.te_platApply :
    (s.platApply r).te.segments.rd r.parcel = r.segments ∧ (s.platApply r).te.nodeWays.rd r.parcel = r.nodeWays := by
  rw [State.platApply_only]
  exact ⟨Tab.rd_wr_same .., Tab.rd_wr_same ..⟩

theorem State.loc_platApply : (s.platApply r).mem.loc =
    s.mem.loc.filter (fun x => (s.platRemoved r).all (fun c => decide (x.1 / mcWindow ≠ c))) := by
  rw [State.platApply_only, ← State.loc_platEmptied]

theorem State.loc_platApply_of_kept (h : s.platRemoved r = []) : (s.platApply r).mem.loc = s.mem.loc := by
  rw [State.loc_platApply, h]
  exact List.filter_true _

/-- No byte is listed in a controller that was removed, and no byte is new (16 R622). -/
theorem State.mem_loc_platApply {x : Nat × Byte} :
    x ∈ (s.platApply r).mem.loc ↔ x ∈ s.mem.loc ∧ ∀ c ∈ s.platRemoved r, x.1 / mcWindow ≠ c := by
  simp only [State.loc_platApply, List.mem_filter, List.all_eq_true, decide_eq_true_eq]

end

/-! ## What refuses a request -/

section
variable {s : State} {r : PlatReq}

theorem State.platRefusal_bound (h : s.hasJob r.parcel = true) : s.platRefusal r = some .busy := if_pos h

/-- A request that names an engine, slice, way, controller or semaphore of another parcel is refused (11 Table 11.3, row 2). -/
theorem State.platTaken_of_held {o : Nat} (ho : o < 8) (hne : o ≠ r.parcel) (h : (s.parcel o).engines &&& r.engines ≠ 0 ∨
    (s.parcel o).slices &&& r.slices ≠ 0 ∨ (s.parcel o).dcWays &&& r.dcWays ≠ 0 ∨ (s.parcel o).controllers &&& r.controllers ≠ 0 ∨
    (s.parcel o).sems &&& r.sems ≠ 0) : s.platTaken r = true := by
  refine Bool.or_eq_true_iff.mpr (.inr (List.any_eq_true.mpr ⟨o, List.mem_range.mpr ho, ?_⟩))
  simp only [Bool.and_eq_true, Bool.or_eq_true, bne_iff_ne, or_assoc]
  exact ⟨hne, h.imp_right (.imp_right (.imp_right (.imp_right .inl)))⟩

theorem State.platRefusal_taken (hjob : s.hasJob r.parcel = false) (h : s.platTaken r = true) : s.platRefusal r = some .unsupported :=
  (if_neg (Bool.not_eq_true _ ▸ hjob)).trans (if_pos h)

end

/-! ## The two rows -/

section
variable {s : State} {by' : Principal} {data : List Byte} {st : Status}

/-- The die as a request is taken: answered OK, with no outcome yet (11 R399). -/
def State.platTakenUp (s : State) : State := { s with plat := { s.plat with result := {} } }.answer .ok

/-- What becomes of a request that is taken up (11 R400, R401; 16 R622). -/
def State.platDecided (s : State) (data : List Byte) : State :=
  match s.platRefusal (platReqOf data) with
  | some st => s.platTakenUp.platDone st
  | none =>
      if (s.platRemoved (platReqOf data)).isEmpty then s.platTakenUp.platApply (platReqOf data)
      else { s.platTakenUp with plat := { s.platTakenUp.plat with waiting := some data } }

theorem exec_platRequest (h : s.serving) : exec (.platRequest by' data) s = .next (
    if by' ≠ .hostk ∧ by' ≠ .surv then s.answer .denied
    else if !platFieldsOk data then s.answer .unsupported
    else if s.fatal ∨ s.svc.state ≠ 0 then s.answer .retired
    else if s.plat.waiting.isSome then s
    else s.platDecided data) :=
  congrArg Host.Outcome.next (State.servedOpen_serving h 43 _)

/-- The host kernel driver and the surveyor are the two senders of a plat request (11 R399; 16 R590). -/
theorem not_other_sender (h : by' = .hostk ∨ by' = .surv) : ¬(by' ≠ .hostk ∧ by' ≠ .surv) :=
  fun ⟨hk, hs⟩ => h.elim hk hs

theorem exec_platRequest_denied (h : s.serving) (hk : by' ≠ .hostk) (hs : by' ≠ .surv) :
    exec (.platRequest by' data) s = .next (s.answer .denied) := by
  rw [exec_platRequest h, if_pos ⟨hk, hs⟩]

theorem exec_platRequest_malformed (h : s.serving) (hby : by' = .hostk ∨ by' = .surv) (hbad : platFieldsOk data = false) :
    exec (.platRequest by' data) s = .next (s.answer .unsupported) := by
  rw [exec_platRequest h, if_neg (not_other_sender hby), if_pos (by rw [hbad]; rfl)]

/-- A well-formed request of one of the two senders is settled by the state of the die, and then by whether another waits. -/
theorem exec_platRequest_wellFormed (h : s.serving) (hby : by' = .hostk ∨ by' = .surv) (hok : platFieldsOk data = true) :
    exec (.platRequest by' data) s = .next (
      if s.fatal ∨ s.svc.state ≠ 0 then s.answer .retired else if s.plat.waiting.isSome then s else s.platDecided data) := by
  rw [exec_platRequest h, if_neg (not_other_sender hby), if_neg (by rw [hok]; decide)]

/-- On a die neither FATAL nor in a service the request is decided, or waits for the one in progress. -/
theorem exec_platRequest_taken (h : s.serving) (hby : by' = .hostk ∨ by' = .surv) (hok : platFieldsOk data = true) (hf : s.fatal = false)
    (hsvc : s.svc.state = 0) : exec (.platRequest by' data) s = .next (if s.plat.waiting.isSome then s else s.platDecided data) := by
  rw [exec_platRequest_wellFormed h hby hok, if_neg (by simp [hf, hsvc])]

theorem State.platDecided_refused (h : s.platRefusal (platReqOf data) = some st) : s.platDecided data = s.platTakenUp.platDone st := by
  rw [State.platDecided, h]

theorem State.platDecided_applied (h : s.platRefusal (platReqOf data) = none) (hkept : s.platRemoved (platReqOf data) = []) :
    s.platDecided data = s.platTakenUp.platApply (platReqOf data) := by
  rw [State.platDecided, h, hkept]
  rfl

theorem State.platDecided_deferred (h : s.platRefusal (platReqOf data) = none) (hgone : s.platRemoved (platReqOf data) ≠ []) :
    s.platDecided data = { s.platTakenUp with plat := { s.platTakenUp.plat with waiting := some data } } := by
  rw [State.platDecided, h]
  exact if_neg (List.isEmpty_iff.not.mpr hgone)

theorem exec_platClearDone_idle (h : s.plat.waiting = none) : exec .platClearDone s = .next s := by
  change execPlatClearDone s = _
  rw [execPlatClearDone, h]

theorem exec_platClearDone_waiting (h : s.plat.waiting = some data) : exec .platClearDone s = .next (s.platApply (platReqOf data)) := by
  change execPlatClearDone s = _
  rw [execPlatClearDone, h]

end

end Sys2Proof.Machine

open Sys2Proof Sys2Proof.Machine

/-- Settles O27: a request by what refuses it in order, and an applied one by the shares its parcel gets and what is emptied for them. -/
theorem platRequestsAreCheckedThenApplied : Obligations.PlatRequestsAreCheckedThenApplied := by
  unfold Obligations.PlatRequestsAreCheckedThenApplied
  refine ⟨fun s by' data h => ⟨exec_platRequest_denied h, fun hby => ⟨exec_platRequest_malformed h hby, fun hok hret => ?_,
      fun hok hf hsvc hwait => ?_, fun hok hf hsvc hwait => ?_⟩⟩,
    fun s => ⟨exec_platClearDone_idle, fun d hd => ⟨_, exec_platClearDone_waiting hd, ?_⟩⟩⟩
  · rw [exec_platRequest_wellFormed h hby hok, if_pos hret]
    rfl
  · rw [exec_platRequest_taken h hby hok hf hsvc, if_pos (Option.isSome_iff_ne_none.mpr hwait)]
  · have hexec : exec (.platRequest by' data) s = .next (s.platDecided data) := by
      rw [exec_platRequest_taken h hby hok hf hsvc, hwait]
      rfl
    refine ⟨fun st href => ?_, State.platRefusal_bound, fun hjob ⟨o, ho, hne, hheld⟩ =>
      State.platRefusal_taken hjob (State.platTaken_of_held ho hne hheld), fun hgrant hkept => ?_, fun hgrant hgone => ?_⟩
    · rw [hexec, State.platDecided_refused href, State.platDone_of_idle (s := s.platTakenUp) hwait]
      rfl
    · rw [hexec, State.platDecided_applied hgrant hkept]
      have hparcel := s.platTakenUp.parcel_platApply_same (r := platReqOf data)
      obtain ⟨hsegs, hways⟩ := s.platTakenUp.te_platApply (r := platReqOf data)
      refine ⟨_, rfl, ?_⟩
      dsimp only
      rw [hparcel, State.plat_platApply]
      refine ⟨⟨rfl, rfl, hsegs, hways, rfl, fun o ho => State.parcel_platApply_other ho⟩, rfl, rfl, ?_, State.loc_platApply_of_kept hkept, ?_⟩
      · rw [State.platApply_only]
        rfl
      · rw [State.platApply_only]
        rfl
    · rw [hexec, State.platDecided_deferred hgrant hgone]
      rfl
  · rw [State.plat_platApply, State.parcel_platApply_same]
    exact ⟨rfl, rfl, rfl, fun c hc x hx => (State.mem_loc_platApply.mp hx).2 c hc, fun x hx => (State.mem_loc_platApply.mp hx).1⟩

end

section
/-! O29: the end of a slice and of its grace, the boundary of a job, and the completion of a switch (11 R410-R424). -/
namespace Sys2Proof.Machine
open Sys2Proof

/-! ## Judging a parcel's jobs -/

section
variable {s : State} {p h : Nat}

/-- Judging one slot's job WAITING or READY (11 Table 11.6). -/
def State.judgeJob (p : Nat) (s : State) (k : Nat) : State :=
  if (s.job p k).st = .waiting ∨ (s.job p k).st = .ready then
    if (if s.runnable p k then JobSt.ready else .waiting) = (s.job p k).st then s
    else s.updJob p k (fun j => { j with st := if s.runnable p k then .ready else .waiting })
  else s

theorem State.judgeJobs_eq_foldl (s : State) (p : Nat) : s.judgeJobs p = (List.range 16).foldl (State.judgeJob p) s := rfl

theorem State.judgeJob_only (s : State) (p k : Nat) : ∃ jobs, s.judgeJob p k = { s with jobs := jobs } := by
  unfold State.judgeJob
  split_ifs <;> exact ⟨_, rfl⟩

/-- Judging a parcel's jobs changes the jobs alone. -/
theorem State.judgeJobs_only (s : State) (p : Nat) : ∃ jobs, s.judgeJobs p = { s with jobs := jobs } := by
  rw [State.judgeJobs_eq_foldl]
  induction List.range 16 generalizing s with
  | nil => exact ⟨_, rfl⟩
  | cons k ks ih =>
    obtain ⟨jobs, hjobs⟩ := s.judgeJob_only p k
    obtain ⟨jobs', hjobs'⟩ := ih (s.judgeJob p k)
    exact ⟨jobs', by rw [List.foldl_cons, hjobs', hjobs]⟩

/-- The die with its queue of events and its counts of lost ones replaced. -/
def State.withEvents (e : List Event) (g : Tab Nat) (s : State) : State := { s with events := e, gaps := g }

theorem State.judgeJob_withEvents (e : List Event) (g : Tab Nat) (s : State) (k : Nat) :
    State.judgeJob p (s.withEvents e g) k = (State.judgeJob p s k).withEvents e g := by
  have hrun : (s.withEvents e g).runnable p k = s.runnable p k := rfl
  have hjob : (s.withEvents e g).job p k = s.job p k := rfl
  simp only [State.judgeJob, hrun, hjob]
  split_ifs <;> rfl

theorem State.nextReady_withEvents (e : List Event) (g : Tab Nat) (start : Nat) :
    (s.withEvents e g).nextReady p start = s.nextReady p start := rfl

/-- Events take no part in who follows a holder. -/
theorem State.follower_emit (isl code parcel value : Nat) : (s.emit isl code parcel value).follower p h = s.follower p h := by
  obtain ⟨e, g, hemit⟩ := s.emit_only isl code parcel value
  have hjudge : (State.withEvents e g s).judgeJobs p = (s.judgeJobs p).withEvents e g := by
    rw [State.judgeJobs_eq_foldl, State.judgeJobs_eq_foldl]
    exact List.foldl_hom (State.withEvents e g) (State.judgeJob_withEvents e g)
  rw [hemit, State.follower, State.follower]
  change ((State.withEvents e g s).judgeJobs p).nextReady p ((h + 1) % 16) = _
  rw [hjudge, State.nextReady_withEvents]

end

/-! ## Reads after updates -/

theorem State.parcel_updPar_same (s : State) (p : Nat) (f : Parcel → Parcel) : (s.updPar p f).parcel p = f (s.parcel p) := Tab.rd_upd_same ..

theorem State.parcel_updPar_other (s : State) {p o : Nat} (h : o ≠ p) (f : Parcel → Parcel) : (s.updPar p f).parcel o = s.parcel o :=
  Tab.rd_upd_other _ _ h

theorem State.job_updJob_same (s : State) (p k : Nat) (f : Job → Job) : (s.updJob p k f).job p k = f (s.job p k) := Tab.rd_upd_same ..

/-! ## The end of a slice -/

section
variable {s : State} {p : Fin 8} {h : Nat}

/-- The parcel's slice has expired now, its jobs judged (11 R411). -/
def State.expireSlice (s : State) (p : Nat) : State := (s.judgeJobs p).updPar p (fun x => { x with expired := some s.now })

/-- The parcel's slice begins anew for a quantum (11 R410). -/
def State.renewSlice (s : State) (p : Nat) : State := s.updPar p (fun x => { x with sliceEnd := some (s.now + msNs x.quantumMs) })

theorem State.expireSlice_only (s : State) (p : Nat) : ∃ jobs,
    s.expireSlice p = { s with jobs := jobs, parcels := s.parcels.upd p (fun x => { x with expired := some s.now }) } := by
  obtain ⟨jobs, hjobs⟩ := s.judgeJobs_only p
  rw [State.expireSlice, hjobs]
  exact ⟨jobs, rfl⟩

theorem State.parcel_expireSlice (s : State) (p : Nat) : (s.expireSlice p).parcel p = { s.parcel p with expired := some s.now } := by
  obtain ⟨jobs, honly⟩ := s.expireSlice_only p
  rw [honly]
  exact Tab.rd_upd_same s.parcels p (fun x => { x with expired := some s.now })

/-- Without a holder, in a switch, after expiry and on another die than the lead no slice runs (11 R410, R424). -/
theorem exec_sliceExpiry_unchanged (hno : (s.parcel p).holder = none ∨ (s.parcel p).switch ≠ none ∨ (s.parcel p).expired ≠ none ∨
    s.leads p = false) : exec (.sliceExpiry p) s = .next s := by
  change execSliceExpiry p s = _
  rw [execSliceExpiry]
  dsimp only
  cases hh : (s.parcel p).holder with
  | none => rfl
  | some h =>
    refine congrArg _ (if_pos ?_)
    obtain hn | hsw | hex | hlead := hno
    · rw [hh] at hn
      cases hn
    · simp [Option.isSome_iff_ne_none.mpr hsw]
    · simp [Option.isSome_iff_ne_none.mpr hex]
    · simp [hlead]

/-- The slice of a job that holds the parcel runs. -/
structure State.sliceRuns (s : State) (p h : Nat) : Prop where
  holder : (s.parcel p).holder = some h
  switch : (s.parcel p).switch = none
  expired : (s.parcel p).expired = none
  leads : s.leads p = true
  holding : (s.job p h).st = .holding
  stays : (s.job p h).suspendReq = false
  lives : (s.job p h).ending = false

theorem exec_sliceExpiry_runs (hr : s.sliceRuns p h) : exec (.sliceExpiry p) s = .next (
    if (s.follower p h).isSome ∧ (!s.runnable p h && !s.jobBusy p h) then s.expireSlice p
    else if (s.follower p h).isSome then (s.reach ((s.parcel p).sliceEnd.getD s.now)).expireSlice p
    else (s.reach ((s.parcel p).sliceEnd.getD s.now)).renewSlice p) := by
  change execSliceExpiry p s = _
  rw [execSliceExpiry]
  dsimp only
  rw [hr.holder]
  exact congrArg _ (if_neg (by simp [hr.switch, hr.expired, hr.leads, hr.holding, hr.stays, hr.lives]))

/-- With no other job READY the holder keeps the parcel for another quantum (11 R410). -/
theorem exec_sliceExpiry_renews (hr : s.sliceRuns p h) (hf : s.follower p h = none) :
    exec (.sliceExpiry p) s = .next ((s.reach ((s.parcel p).sliceEnd.getD s.now)).renewSlice p) := by
  rw [exec_sliceExpiry_runs hr, hf]
  rfl

/-- The die as the slice of a holder with another job READY expires: at once where the holder has no work (11 R411). -/
def State.atExpiry (s : State) (p h : Nat) : State :=
  { s with now := if s.runnable p h = false ∧ s.jobBusy p h = false then s.now else Nat.max s.now ((s.parcel p).sliceEnd.getD s.now) }

theorem exec_sliceExpiry_expires (hr : s.sliceRuns p h) (hf : s.follower p h ≠ none) :
    exec (.sliceExpiry p) s = .next ((s.atExpiry p h).expireSlice p) := by
  have hsome : (s.follower p h).isSome = true := Option.isSome_iff_ne_none.mpr hf
  rw [exec_sliceExpiry_runs hr, State.atExpiry]
  by_cases hidle : s.runnable p h = false ∧ s.jobBusy p h = false
  · rw [if_pos ⟨hsome, by simp [hidle]⟩, if_pos hidle]
  · rw [if_neg fun hb => hidle (by simpa using hb.2), if_pos hsome, if_neg hidle]
    rfl

end

/-! ## The end of the grace -/

section
variable {s : State} {p : Fin 8} {e : Nat}

theorem exec_graceExpiry_unchanged (hno : (s.parcel p).expired = none ∨ (s.parcel p).graceOver = true) :
    exec (.graceExpiry p) s = .next s := by
  change execGraceExpiry p s = _
  rw [execGraceExpiry]
  dsimp only
  cases he : (s.parcel p).expired with
  | none => rfl
  | some e => exact congrArg _ (if_pos (hno.resolve_left (by simp [he])))

theorem exec_graceExpiry_marks (he : (s.parcel p).expired = some e) (hg : (s.parcel p).graceOver = false) : exec (.graceExpiry p) s =
    .next ((s.reach (e + msNs (s.parcel p).graceMs)).updPar p (fun x => { x with graceOver := true })) := by
  change execGraceExpiry p s = _
  rw [execGraceExpiry]
  dsimp only
  rw [he]
  exact congrArg _ (if_neg (by simp [hg]))

end

/-! ## A boundary of the holder -/

section
variable {s : State} {p h k live : Nat}

/-- The holder at a boundary where nothing else is due: no command of it runs, nothing ends, no switch is under way or ordered. -/
structure State.atBoundary (s : State) (p h : Nat) : Prop where
  ends : s.endsDue p = none
  holder : (s.parcel p).holder = some h
  switch : (s.parcel p).switch = none
  ordered : (s.parcel p).ordered = none
  holding : (s.job p h).st = .holding
  idle : s.jobBusy p h = false
  stays : (s.job p h).suspendReq = false
  lives : (s.job p h).ending = false

/-- The point is cheap: the holder's live granules are within its budget (11 R414). -/
def State.cheapPoint (s : State) (p h : Nat) : Bool := decide (s.liveCount p h ≤ (s.job p h).liveBudget)

/-- A slice that ends more than a quantum after its expiry is reported (11 R416). -/
def State.reportLate (s : State) (p e : Nat) : State :=
  if s.now > e + msNs (s.parcel p).quantumMs then s.emit 57 0x350 p ((s.now - e - msNs (s.parcel p).quantumMs) / 1000000) else s

theorem State.reportLate_inTime {e : Nat} (h : s.now ≤ e + msNs (s.parcel p).quantumMs) : s.reportLate p e = s := if_neg (Nat.not_lt.mpr h)

theorem State.reportLate_late {e : Nat} (h : e + msNs (s.parcel p).quantumMs < s.now) :
    s.reportLate p e = s.emit 57 0x350 p ((s.now - e - msNs (s.parcel p).quantumMs) / 1000000) := if_pos h

/-- The holder gives way to the READY job that follows it, counted unless the point is cheap, or keeps the parcel (11 R410, R415). -/
def State.giveWay (s : State) (p h live : Nat) (cheap : Bool) (next : Option Nat) : State :=
  match next with
  | none => s.hold p h
  | some k => ((if cheap then s else s.emit 57 0x351 p live).judgeJobs p).switchOut p h k

end

section
variable {s : State} {p : Fin 8} {h e : Nat}

theorem exec_jobBoundary_unexpired (hb : s.atBoundary p h) (he : (s.parcel p).expired = none) : exec (.jobBoundary p) s = .next s := by
  change execJobBoundary p s = _
  simp only [execJobBoundary, hb.ends, hb.holder, hb.switch, hb.ordered, hb.holding, hb.idle, hb.stays, hb.lives, he, ne_eq, not_true,
    Bool.false_eq_true, or_self, if_false]

/-- After expiry the holder goes on until the point is cheap or its grace is over, and then gives way (11 R413-R415). -/
theorem exec_jobBoundary_expired {next : Option Nat} (hb : s.atBoundary p h) (he : (s.parcel p).expired = some e)
    (hf : (s.reportLate p e).follower p h = next) : exec (.jobBoundary p) s = .next (
      if !s.cheapPoint p h && !(s.parcel p).graceOver then s else (s.reportLate p e).giveWay p h (s.liveCount p h) (s.cheapPoint p h) next) := by
  change execJobBoundary p s = _
  unfold State.reportLate at hf ⊢
  simp only [execJobBoundary, hb.ends, hb.holder, hb.switch, hb.ordered, hb.holding, hb.idle, hb.stays, hb.lives, he, ne_eq, not_true,
    Bool.false_eq_true, or_self, if_false, hf]
  cases next <;> rfl

theorem exec_jobBoundary_waits (hb : s.atBoundary p h) (he : (s.parcel p).expired ≠ none) (hdear : s.cheapPoint p h = false)
    (hg : (s.parcel p).graceOver = false) : exec (.jobBoundary p) s = .next s := by
  obtain ⟨e, he⟩ := Option.ne_none_iff_exists'.mp he
  rw [exec_jobBoundary_expired hb he rfl, hdear, hg]
  rfl

theorem exec_jobBoundary_gives {next : Option Nat} (hb : s.atBoundary p h) (he : (s.parcel p).expired = some e)
    (hgo : s.cheapPoint p h = true ∨ (s.parcel p).graceOver = true) (hf : (s.reportLate p e).follower p h = next) :
    exec (.jobBoundary p) s = .next ((s.reportLate p e).giveWay p h (s.liveCount p h) (s.cheapPoint p h) next) := by
  rw [exec_jobBoundary_expired hb he hf, if_neg]
  obtain hc | hg := hgo
  · simp [hc]
  · simp [hg]

theorem exec_jobBoundary_keeps (hb : s.atBoundary p h) (he : (s.parcel p).expired = some e)
    (hgo : s.cheapPoint p h = true ∨ (s.parcel p).graceOver = true) (hin : s.now ≤ e + msNs (s.parcel p).quantumMs)
    (hf : s.follower p h = none) : exec (.jobBoundary p) s = .next (s.hold p h) := by
  have hreport := State.reportLate_inTime hin
  rw [exec_jobBoundary_gives hb he hgo (hreport.symm ▸ hf), hreport]
  rfl

theorem exec_jobBoundary_keeps_late (hb : s.atBoundary p h) (he : (s.parcel p).expired = some e)
    (hgo : s.cheapPoint p h = true ∨ (s.parcel p).graceOver = true) (hlate : e + msNs (s.parcel p).quantumMs < s.now)
    (hf : s.follower p h = none) : exec (.jobBoundary p) s =
      .next ((s.emit 57 0x350 p ((s.now - e - msNs (s.parcel p).quantumMs) / 1000000)).hold p h) := by
  have hreport := State.reportLate_late hlate
  have hfollow : (s.reportLate p e).follower p h = none := by rw [hreport, State.follower_emit, hf]
  rw [exec_jobBoundary_gives hb he hgo hfollow, hreport]
  rfl

/-- A switch out is counted where the point is not cheap (11 R415). -/
theorem exec_jobBoundary_switches {k : Nat} (hb : s.atBoundary p h) (he : (s.parcel p).expired = some e)
    (hgo : s.cheapPoint p h = true ∨ (s.parcel p).graceOver = true) (hin : s.now ≤ e + msNs (s.parcel p).quantumMs)
    (hf : s.follower p h = some k) : exec (.jobBoundary p) s =
      .next (((if s.cheapPoint p h then s else s.emit 57 0x351 p (s.liveCount p h)).judgeJobs p).switchOut p h k) := by
  have hreport := State.reportLate_inTime hin
  rw [exec_jobBoundary_gives hb he hgo (hreport.symm ▸ hf), hreport]
  rfl

end

/-! ## A job that holds the parcel -/

section
variable {s : State} {p k : Nat}

theorem State.parcel_hold : (s.hold p k).parcel p = { s.parcel p with
    holder := some k, switch := none, ordered := none, expired := none, graceOver := false
    sliceEnd := some (s.now + msNs (s.parcel p).quantumMs) } := by
  rw [State.hold, State.parcel_updPar_same]
  rfl

theorem State.job_hold : ((s.hold p k).job p k).st = .holding :=
  congrArg Job.st (s.job_updJob_same p k (fun j => { j with st := .holding }))

theorem State.events_hold : (s.hold p k).events = s.events := rfl

end

/-! ## The completion of a switch -/

section
variable {s : State} {p : Fin 8} {w : Switch}

theorem exec_switchInComplete_unchanged
    (hno : (s.parcel p).switch = none ∨ ∃ w, (s.parcel p).switch = some w ∧ (w.saving = true ∨ w.done = true)) :
    exec (.switchInComplete p) s = .next s := by
  change execSwitchInComplete p s = _
  rw [execSwitchInComplete]
  obtain hnone | ⟨w, hsome, hbusy⟩ := hno
  · rw [hnone]
  · rw [hsome]
    exact congrArg _ (if_pos (by simp [hbusy]))

/-- With no forest there is nothing of it to bind (11 R420). -/
theorem State.infuseForest_none {k : Nat} (h : (s.job p k).forestOff = 0) : s.infuseForest p k = .ok s := if_pos h

/-- A job that was never saved has nothing to restore (11 Table 11.8, step 7). -/
theorem State.restore_unsaved {k : Nat} (h : (s.job p k).saved = false) : s.restore p k = .ok s := if_pos (by rw [h]; rfl)

/-- On a parcel of one die the job holds it once it is in (11 R424). -/
theorem State.switchedIn_alone {k : Nat} (h : (s.parcel p).fabricId = 0) :
    s.switchedIn p k = (s.dropGather (.image p k)).hold p k := if_pos h

/-- The die with a job's switch over, nothing of its image to infuse or restore: its configuration installed and the parcel its own
(11 Table 11.8, R424). -/
def State.cameIn (s : State) (p k : Nat) : State := ((s.configure p (s.job p k).cfg).dropGather (.image p k)).hold p k

theorem State.cfg_configure (s : State) (p : Nat) (c : XlatConfig) : (s.configure p c).xlat.cfg.rd p = c := Tab.rd_wr_same ..

theorem State.configure_only (s : State) (p : Nat) (c : XlatConfig) : ∃ xlat, s.configure p c = { s with xlat := xlat } := ⟨_, rfl⟩

theorem State.dropGather_only (s : State) (o : GOwner) : ∃ fab, s.dropGather o = { s with fab := fab } := ⟨_, rfl⟩

theorem State.cameIn_only (s : State) (p k : Nat) : ∃ fab,
    s.cameIn p k = State.hold { s with xlat := (s.configure p (s.job p k).cfg).xlat, fab := fab } p k := by
  obtain ⟨fab, hdrop⟩ := (s.configure p (s.job p k).cfg).dropGather_only (.image p k)
  obtain ⟨xlat, hconf⟩ := s.configure_only p (s.job p k).cfg
  exact ⟨fab, by rw [State.cameIn, hdrop, hconf]⟩

/-- A switch that comes to a job with nothing to infuse or restore: its configuration goes in and it holds the parcel (11 R420, R424). -/
theorem exec_switchInComplete_holds (hw : (s.parcel p).switch = some w) (hsave : w.saving = false) (hdone : w.done = false)
    (hin : w.incoming < 16) (hentry : w.entry = 0) (hgather : s.gatherOf (.image p w.incoming) = none)
    (hres : (s.job p w.incoming).residents = []) (hforest : (s.job p w.incoming).forestOff = 0)
    (hsaved : (s.job p w.incoming).saved = false) (hfab : (s.parcel p).fabricId = 0) :
    exec (.switchInComplete p) s = .next (s.cameIn p w.incoming) := by
  have hstart : (if w.entry = 0 ∧ (s.gatherOf (.image p w.incoming)).isNone then s.configure p (s.job p w.incoming).cfg else s) =
      s.configure p (s.job p w.incoming).cfg := if_pos ⟨hentry, by rw [hgather]; rfl⟩
  have hinfuse : infuseGo p w.incoming ((s.job p w.incoming).residents.drop w.entry) w.entry (s.configure p (s.job p w.incoming).cfg) =
      .ok (s.configure p (s.job p w.incoming).cfg) := by
    rw [hres, List.drop_nil]
    exact State.infuseForest_none hforest
  have hrestore : (s.configure p (s.job p w.incoming).cfg).restore p w.incoming = .ok (s.configure p (s.job p w.incoming).cfg) :=
    State.restore_unsaved hsaved
  unfold State.configure at hstart hinfuse hrestore
  change execSwitchInComplete p s = _
  rw [execSwitchInComplete]
  dsimp only
  rw [hw]
  dsimp only
  rw [if_neg (by simp [hsave, hdone, hin]), hstart, hinfuse]
  dsimp only
  rw [hrestore]
  exact congrArg _ (State.switchedIn_alone hfab)

end

end Sys2Proof.Machine

open Sys2Proof Sys2Proof.Machine

/-- Settles O29: a slice and its grace by the moment they end, a boundary by whether it is cheap or late, and a switch by the job that then
holds. -/
theorem timeSlicesExpireAndSwitch : Obligations.TimeSlicesExpireAndSwitch := by
  unfold Obligations.TimeSlicesExpireAndSwitch
  refine ⟨fun s p => exec_sliceExpiry_unchanged, fun s p h hh hsw hex hl hst hsus hend => ?_,
    fun s p => ⟨exec_graceExpiry_unchanged, fun e he hg => ⟨_, exec_graceExpiry_marks he hg, rfl, ?_, fun o ho => ?_, rfl⟩⟩,
    fun s p h hends hh hsw hord hst hidle hsus hend => ?_, fun s p => exec_switchInComplete_unchanged,
    fun s p w hw hsave hdone hin hentry hgather hres hforest hsaved hfab =>
      ⟨_, exec_switchInComplete_holds hw hsave hdone hin hentry hgather hres hforest hsaved hfab, ?_⟩⟩
  · have hruns : s.sliceRuns p h := ⟨hh, hsw, hex, hl, hst, hsus, hend⟩
    refine ⟨fun hf => ⟨_, exec_sliceExpiry_renews hruns hf, rfl, State.parcel_updPar_same .., fun o ho => State.parcel_updPar_other _ ho _, rfl⟩,
      fun hf => ⟨_, exec_sliceExpiry_expires hruns hf, ?_⟩⟩
    obtain ⟨jobs, honly⟩ := (s.atExpiry p h).expireSlice_only p
    rw [State.parcel_expireSlice, honly]
    exact ⟨rfl, hh, rfl, rfl⟩
  · exact State.parcel_updPar_same ..
  · exact State.parcel_updPar_other _ ho _
  · have hb : s.atBoundary p h := ⟨hends, hh, hsw, hord, hst, hidle, hsus, hend⟩
    have hgo : s.liveCount p h ≤ (s.job p h).liveBudget ∨ (s.parcel p).graceOver = true → s.cheapPoint p h = true ∨ (s.parcel p).graceOver = true :=
      Or.imp_left decide_eq_true
    refine ⟨exec_jobBoundary_unexpired hb, fun he hdear => exec_jobBoundary_waits hb he (decide_eq_false hdear),
      fun e he hin hc => ⟨fun hf => ⟨_, exec_jobBoundary_keeps hb he (hgo hc) hin hf, ?_⟩, fun k hf hcheap => ?_, fun k _ hf hdear => ?_⟩,
      fun e he hlate hcheap hf =>
        ⟨_, exec_jobBoundary_keeps_late hb he (hgo (.inl hcheap)) hlate hf, by rw [State.parcel_hold], State.events_hold⟩⟩
    · rw [State.parcel_hold]
      exact ⟨rfl, State.job_hold, rfl, rfl, rfl⟩
    · rw [exec_jobBoundary_switches hb he (hgo hc) hin hf, State.cheapPoint, decide_eq_true hcheap, if_pos rfl]
    · rw [exec_jobBoundary_switches hb he (hgo hc) hin hf, State.cheapPoint, decide_eq_false hdear, if_neg Bool.false_ne_true]
  · obtain ⟨fab, honly⟩ := s.cameIn_only p w.incoming
    rw [honly, State.parcel_hold]
    exact ⟨s.cfg_configure .., fun e he => (State.outside_of_cacheDrop he).imp_right Nat.le_zero.mp, rfl, State.job_hold, rfl, rfl, rfl, rfl⟩

end
